-- ==== Sys2Proof/Word.lean ====
section
/-!
DEFINITION. The plain data the whole model is written over: bytes of the two links (R184, R203), texts as
lists of character codes (R200), sets of the twelve event flags (R188), the two camera backs, the five unit
slots of the stand bus (R168).
-/

namespace Sys2Proof

/-- One byte of the desk link or of the stand bus. -/
abbrev Byte := BitVec 8

/-- A text, as the codes of its characters in order (R200). -/
abbrev Text := List Nat

/-- A set of the twelve event flags, with the bits of the NOTICE (R188, R201). -/
abbrev EventSet := BitVec 12

/-- The two camera backs. -/
inductive Back where
  | a
  | b
deriving DecidableEq, Repr

/-- The other back. -/
def Back.other : Back → Back
  | .a => .b
  | .b => .a

/-- One value for each camera back. -/
structure PerBack (α : Type) where
  a : α
  b : α
deriving DecidableEq, Repr

/-- The value of one back. -/
def PerBack.get {α : Type} (p : PerBack α) : Back → α
  | .a => p.a
  | .b => p.b

/-- The pair with one back's value replaced. -/
def PerBack.set {α : Type} (p : PerBack α) (x : Back) (v : α) : PerBack α :=
  match x with
  | .a => { p with a := v }
  | .b => { p with b := v }

/-- The five unit slots of the stand bus (R168), named by their units. -/
inductive UnitSlot where
  | feeder
  | meter
  | backA
  | backB
  | printer
deriving DecidableEq, Repr

/-- The slot of a camera back. -/
def Back.slot : Back → UnitSlot
  | .a => .backA
  | .b => .backB

/-- The back a slot belongs to, for the two back slots. -/
def UnitSlot.back : UnitSlot → Option Back
  | .backA => some .a
  | .backB => some .b
  | _ => none

/-- The kinds of unit (R168, R204). -/
inductive UnitKind where
  | feeder
  | meter
  | back
  | printer
deriving DecidableEq, Repr

/-- The kind of unit a slot expects (R168). -/
def UnitSlot.expects : UnitSlot → UnitKind
  | .feeder => .feeder
  | .meter => .meter
  | .backA => .back
  | .backB => .back
  | .printer => .printer

end Sys2Proof
end

