-- ==== Sys2Proof/Syntax.lean ====
section
/-!
DEFINITION. The commands the 740 takes: one constructor of `Instr` for each row of spec/opcode_table.json, with
the row's operands. A row that is a desk frame carries the frame's tag and its fields, laid out by R199 to R202;
a row that is a unit's answer carries the exchange number and the answer's payload (R203, R204).
-/

namespace Sys2Proof

/-- The fields of a MANAGE or DIRECT payload: as the command's layout calls for them, or not in agreement with it
(fields missing at a field boundary, or bytes left over), which R200 has refused BAD-FIELD. -/
inductive Fields (α : Type) where
  | given (value : α)
  | mismatched
deriving DecidableEq, Repr

/-- The fields of an ORDER payload as carried, before any range check (R1, R201). -/
structure OrderFields where
  account : Nat
  magazine : Nat
  position : Nat
  stock : Nat
  copies : Nat
  pattern : Nat
  /-- The metering mode byte: 0 AVERAGE, 1 CENTRE, 2 SPOT, 3 FIXED, any other value BAD-FIELD. -/
  mode : Nat
  rush : Bool
  /-- Present when bit 1 of the flags is set. -/
  template : Option Nat
  /-- Present when bit 2 of the flags is set. -/
  fixedDensity : Option Nat
  /-- Bits 3 to 7 of the flags, which R201 has refused BAD-FIELD when any is set. -/
  strayFlags : Nat
  correction : Int
  catalog : Text
  title : Text
  course : Text
deriving DecidableEq, Repr

/-- The fields of a stock entry as LOAD ENTRY carries them (R199). -/
structure StockFields where
  code : Nat
  name : Text
  speed : Int
  frames : Nat
  knee : Int
  slope : Nat
  price : Nat
deriving DecidableEq, Repr

/-- The fields of a bracket pattern as LOAD ENTRY carries them (R199). -/
structure PatternFields where
  number : Nat
  stepCount : Nat
  nominal : Nat
  offsets : List Int
deriving DecidableEq, Repr

/-- One template step as carried: the step byte and its operand byte (R199). -/
structure RawStep where
  code : Nat
  operand : Nat
deriving DecidableEq, Repr

/-- The fields of a label template as LOAD ENTRY carries them (R199). -/
structure TemplateFields where
  number : Nat
  steps : List RawStep
  literals : List Text
deriving DecidableEq, Repr

/-- The fields of the fee form of LOAD ENTRY (R133): 1 ORDER FEE, 2 RUSH FEE, 3 LABEL FEE, and the value if carried. -/
structure FeeFields where
  fee : Nat
  value : Option Nat
deriving DecidableEq, Repr

/-- One item of SET SETTINGS: its number and its value (R202). -/
structure SettingItem where
  item : Nat
  value : Int
deriving DecidableEq, Repr

/-- The fields of LOAD ROLL (R89); the back byte is 0 for A and 1 for B. -/
structure LoadRollFields where
  back : Nat
  stock : Nat
  rollId : Text
deriving DecidableEq, Repr

/-- The fields of READ ROLL MAP (R104): the back byte, and the first position and count when given. -/
structure RollMapFields where
  back : Nat
  range : Option (Nat × Nat)
deriving DecidableEq, Repr

/-- An account number and a sum: the fields of OPEN ACCOUNT, SET CEILING and CREDIT (R140, R142, R144). -/
structure AccountSum where
  number : Nat
  amount : Nat
deriving DecidableEq, Repr

/-- The fields of a DIRECT ADVANCE frame (R204): the form byte and the count. -/
structure AdvanceFields where
  form : Nat
  count : Nat
deriving DecidableEq, Repr

/-- The fields of a DIRECT PRINT frame (R204): record kind byte, flags byte and lines. -/
structure PrintFields where
  kind : Nat
  flags : Nat
  lines : List Text
deriving DecidableEq, Repr

/-- One reading of the meter (R49, R204): a density (any number below the two codes), OVER or FAIL. -/
inductive Reading where
  | density (d : Nat)
  | over
  | fail
deriving DecidableEq, Repr

/-- The payload of a PRESENCE answer (R170, R204): the unit's kind, with a feeder's magazine (0 for none) and
whether a printer can print. -/
inductive Presence where
  | feeder (magazine : Nat)
  | meter
  | back
  | printer (canPrint : Bool)
deriving DecidableEq, Repr

/-- The kind of unit a PRESENCE answer names. -/
def Presence.kind : Presence → UnitKind
  | .feeder _ => .feeder
  | .meter => .meter
  | .back => .back
  | .printer _ => .printer

/-- The payload of a STATUS answer (R171, R204): the unit's kind, with a feeder's magazine, a back's DETACHING bit
or a printer's READY bit. -/
inductive StatusReport where
  | feeder (magazine : Nat)
  | meter
  | back (detaching : Bool)
  | printer (ready : Bool)
deriving DecidableEq, Repr

/-- The kind of unit a STATUS answer names. -/
def StatusReport.kind : StatusReport → UnitKind
  | .feeder _ => .feeder
  | .meter => .meter
  | .back _ => .back
  | .printer _ => .printer

/-- Results of a LOAD (R28). -/
inductive LoadResult where
  | ok
  | empty
  | jam
deriving DecidableEq, Repr

/-- Results of a RETURN (R36). -/
inductive ReturnResult where
  | ok
  | jam
deriving DecidableEq, Repr

/-- Results of a SCAN (R49): OK with nine readings in zone order, or FAIL. -/
inductive ScanResult where
  | ok (readings : List Reading)
  | fail
deriving DecidableEq, Repr

/-- Results of an ADVANCE (R88). -/
inductive AdvanceResult where
  | ok
  | filmEnd
deriving DecidableEq, Repr

/-- Results of a PRINT (R125). -/
inductive PrintResult where
  | ok
  | out
deriving DecidableEq, Repr

/-- The completion of a forwarded DIRECT command other than a pass-through ADVANCE (R180), by the unit command
it completes. -/
inductive DirectResult where
  | load (r : LoadResult)
  | ret (r : ReturnResult)
  | scan (r : ScanResult)
  | spot (r : Reading)
  | readCount (count : Nat)
  | testShutter (measured : Nat)
  | print (r : PrintResult)
deriving DecidableEq, Repr

/-- The commands: one constructor for each row of spec/opcode_table.json. -/
inductive Instr where
  | powerOn
  | deskFrameReceived (lastByte : Byte)
  | byteGapExpiry
  | orderFrame (tag : Byte) (f : OrderFields)
  | unknownClass (cls tag : Byte)
  | payloadLengthDiscard (cls tag : Byte)
  | unknownManageCommand (tag code : Byte)
  | run (tag : Byte) (f : Fields Unit)
  | stopHold (tag : Byte) (f : Fields Unit)
  | stopRelease (tag : Byte) (f : Fields Unit)
  | stepOn (tag : Byte) (f : Fields Unit)
  | stepOff (tag : Byte) (f : Fields Unit)
  | clearFault (tag : Byte) (f : Fields Unit)
  | readResume (tag : Byte) (f : Fields Unit)
  | linkReset (tag : Byte) (f : Fields Unit)
  | readStatus (tag : Byte) (f : Fields Unit)
  | ackEvents (tag : Byte) (f : Fields EventSet)
  | setNoticeMask (tag : Byte) (f : Fields EventSet)
  | clearTraps (tag : Byte) (f : Fields Unit)
  | setSettings (tag : Byte) (f : Fields (List SettingItem))
  | readSettings (tag : Byte) (f : Fields Unit)
  | loadEntryStockWrite (tag : Byte) (f : Fields StockFields)
  | loadEntryStockDelete (tag : Byte) (f : Fields Nat)
  | loadEntryPatternWrite (tag : Byte) (f : Fields PatternFields)
  | loadEntryPatternEmpty (tag : Byte) (f : Fields Nat)
  | loadEntryTemplateWrite (tag : Byte) (f : Fields TemplateFields)
  | loadEntryTemplateEmpty (tag : Byte) (f : Fields Nat)
  | loadEntryFee (tag : Byte) (f : Fields FeeFields)
  /-- LOAD ENTRY (`reading` no) or READ ENTRY (`reading` yes) with a selector other than 1 to 4, or with none. -/
  | loadEntryBadSelector (tag : Byte) (reading : Bool) (selector : Option Byte)
  | readEntryStock (tag : Byte) (f : Fields (Option Nat))
  | readEntryPattern (tag : Byte) (f : Fields (Option Nat))
  | readEntryTemplate (tag : Byte) (f : Fields (Option Nat))
  | readEntryFee (tag : Byte) (f : Fields (Option Nat))
  | loadRoll (tag : Byte) (f : Fields LoadRollFields)
  | closeRoll (tag : Byte) (f : Fields Nat)
  | resyncRoll (tag : Byte) (f : Fields Nat)
  | readRollMap (tag : Byte) (f : Fields RollMapFields)
  | cancelOrder (tag : Byte) (f : Fields Nat)
  | readOrder (tag : Byte) (f : Fields Nat)
  | discardLabels (tag : Byte) (f : Fields Unit)
  | openAccount (tag : Byte) (f : Fields AccountSum)
  | readAccount (tag : Byte) (f : Fields (Option Nat))
  | setCeiling (tag : Byte) (f : Fields AccountSum)
  | suspendAccount (tag : Byte) (f : Fields Nat)
  | reopenAccount (tag : Byte) (f : Fields Nat)
  | credit (tag : Byte) (f : Fields AccountSum)
  | clearCharged (tag : Byte) (f : Fields Nat)
  | deleteAccount (tag : Byte) (f : Fields Nat)
  | directLoad (tag unit : Byte) (f : Fields Nat)
  | directReturn (tag unit : Byte) (f : Fields Unit)
  | directScan (tag unit : Byte) (f : Fields Unit)
  | directSpot (tag unit : Byte) (f : Fields Nat)
  | directAdvance (tag unit : Byte) (f : Fields AdvanceFields)
  | directReadCount (tag unit : Byte) (f : Fields Unit)
  | directTestShutter (tag unit : Byte) (f : Fields Nat)
  | directPrint (tag unit : Byte) (f : Fields PrintFields)
  | pollExpiry
  | presenceAnswer (slot : UnitSlot) (exchange : Nat) (answer : Presence)
  | statusAnswer (slot : UnitSlot) (exchange : Nat) (answer : StatusReport)
  | loadCompletion (exchange : Nat) (result : LoadResult)
  | returnCompletion (exchange : Nat) (result : ReturnResult)
  | scanCompletion (exchange : Nat) (result : ScanResult)
  | spotCompletion (exchange : Nat) (reading : Reading)
  | advanceCompletion (back : Back) (exchange : Nat) (result : AdvanceResult) (count measured : Nat)
  | leaderCompletion (back : Back) (exchange : Nat) (result : AdvanceResult) (count : Nat)
  | blankingCompletion (back : Back) (exchange : Nat) (result : AdvanceResult) (count : Nat)
  | passThroughCompletion (back : Back) (exchange : Nat) (result : AdvanceResult) (count : Nat)
  | readCountCompletion (back : Back) (exchange : Nat) (count : Nat)
  | directCompletion (slot : UnitSlot) (exchange : Nat) (result : DirectResult)
  | printCompletion (exchange : Nat) (result : PrintResult)
  | detachingAnswer (back : Back) (exchange : Nat)
  | unitCommandTimeout (slot : UnitSlot)
  | lampRiseExpiry
  | shutterFallExpiry (back : Back)
  | lampFallExpiry
  | senseDeadlineExpiry
  | lampSenseActive
  | lampSenseInactive
  | deskReadyActive
  | upstreamFrameSent
  | deskReadyInactive
  | byteReceived (b : Byte)
  | directUnknownCommand (tag unit : Byte) (kind : Option Byte)
deriving DecidableEq, Repr

end Sys2Proof
end

