-- ==== Sys2Proof/Config.lean ====
section
/-!
DEFINITION. What is fixed for the machine: the capacities the spec gives its queues and tables, and the free
values, constants without a body for the results no rule states (assumption 12).
-/

namespace Sys2Proof

/-- One entry of the Stock Table (R42). -/
structure StockEntry where
  code : Nat
  name : Text
  speed : Int
  frames : Nat
  knee : Int
  slope : Nat
  price : Nat
deriving DecidableEq, Repr, Inhabited

namespace Config

/-- The receive buffer holds up to 4 frames (R185). -/
def bufferCapacity : Nat := 4

/-- The reply queue holds up to 8 replies, reservations counted (R187). -/
def replyCapacity : Nat := 8

/-- The report queue holds up to 24 reports (R192). -/
def reportCapacity : Nat := 24

/-- The Order Queue holds up to 32 records (R4). -/
def orderCapacity : Nat := 32

/-- The label queue holds up to 64 records (R121). -/
def labelCapacity : Nat := 64

/-- The reserve of free label records that the HOLD policy asks for (R122). -/
def labelReserve : Nat := 6

/-- Up to 63 accounts beside the house account (R129). -/
def accountCapacity : Nat := 63

/-- The largest sum of charge units a 24-bit field holds (R129, R130). -/
def maxSum : Nat := 16777215

/-- The largest value of a 16-bit counter (R121, R129, R130). -/
def maxCount : Nat := 65535

/-- Free value: the entry of a stock that stands in no place of the Stock Table when a firing or a HEADER label
asks for it. R43 and R44 keep the entry there; no rule gives a result without it (12). -/
opaque unstatedStock : Nat → StockEntry

/-- Free value: the density of an order that has none when it is fired, by the order's number (12). -/
opaque unstatedDensity : Nat → Nat

/-- Free value: the offset of a step that the order's pattern snapshot does not hold, by order and step (12). -/
opaque unstatedOffset : Nat → Nat → Int

end Config

end Sys2Proof
end

