-- ==== Sys2Proof/WellFormed.lean ====
section
/-!
DEFINITION. Which commands can be spelled at all: every field fits the width R199 to R204 give it, a desk payload
holds at most 250 bytes (R184), a frame of an unknown class or command is not a known one, and a unit's answer
carries only values its fields allow (R204). The machine gives every command a meaning, well-formed or not.
-/

namespace Sys2Proof

/-- A number of one byte. -/
def fitsByte (n : Nat) : Bool := n < 256

/-- A number of two bytes. -/
def fitsTwo (n : Nat) : Bool := n < 65536

/-- A number of three bytes. -/
def fitsThree (n : Nat) : Bool := n < 16777216

/-- A signed number of one byte. -/
def fitsSignedByte (i : Int) : Bool := -128 ≤ i && i ≤ 127

/-- A signed number of four bytes. -/
def fitsSignedFour (i : Int) : Bool := -2147483648 ≤ i && i ≤ 2147483647

/-- A text of bytes with a length byte. -/
def fitsText (t : Text) : Bool := t.length < 256 && t.all fitsByte

/-- The number of payload bytes a list of texts takes, each with its length byte. -/
def textBytes (ts : List Text) : Nat := (ts.map (fun t => t.length + 1)).sum

namespace Fields

/-- A check of the fields, when they agree with the layout. -/
def check {α : Type} (p : α → Bool) : Fields α → Bool
  | .given a => p a
  | .mismatched => true

end Fields

def OrderFields.fits (f : OrderFields) : Bool :=
  fitsTwo f.account && fitsByte f.magazine && fitsByte f.position && fitsByte f.stock && fitsByte f.copies &&
  fitsByte f.pattern && fitsByte f.mode && (f.template.all fitsByte) && (f.fixedDensity.all fitsTwo) &&
  decide (f.strayFlags < 32) && fitsSignedByte f.correction && fitsText f.catalog && fitsText f.title &&
  fitsText f.course && decide (16 + f.catalog.length + f.title.length + f.course.length ≤ 250)

def StockFields.fits (f : StockFields) : Bool :=
  fitsByte f.code && fitsText f.name && fitsSignedByte f.speed && fitsByte f.frames && fitsSignedByte f.knee &&
  fitsByte f.slope && fitsTwo f.price && decide (10 + f.name.length ≤ 250)

def PatternFields.fits (f : PatternFields) : Bool :=
  fitsByte f.number && fitsByte f.stepCount && fitsByte f.nominal && f.offsets.all fitsSignedByte &&
  decide (5 + f.offsets.length ≤ 250)

def TemplateFields.fits (f : TemplateFields) : Bool :=
  fitsByte f.number && f.steps.all (fun st => fitsByte st.code && fitsByte st.operand) && f.literals.all fitsText &&
  decide (5 + 2 * f.steps.length + textBytes f.literals ≤ 250)

def FeeFields.fits (f : FeeFields) : Bool := fitsByte f.fee && f.value.all fitsTwo

def SettingItem.fits (i : SettingItem) : Bool := fitsByte i.item && fitsSignedFour i.value

def LoadRollFields.fits (f : LoadRollFields) : Bool :=
  fitsByte f.back && fitsByte f.stock && decide (f.rollId.length = 6) && f.rollId.all fitsByte

def RollMapFields.fits (f : RollMapFields) : Bool :=
  fitsByte f.back && f.range.all (fun r => fitsByte r.1 && fitsByte r.2)

def AccountSum.fits (f : AccountSum) : Bool := fitsTwo f.number && fitsThree f.amount

def AdvanceFields.fits (f : AdvanceFields) : Bool := fitsByte f.form && fitsByte f.count

def PrintFields.fits (f : PrintFields) : Bool :=
  fitsByte f.kind && fitsByte f.flags && f.lines.all fitsText && decide (5 + textBytes f.lines ≤ 250)

/-- A reading the meter can send (R204). -/
def Reading.fits : Reading → Bool
  | .density d => d ≤ 65533
  | .over => true
  | .fail => true

/-- Nine readings, each one the meter can send, or FAIL (R204). -/
def ScanResult.fits : ScanResult → Bool
  | .ok rs => decide (rs.length = 9) && rs.all Reading.fits
  | .fail => true

/-- A back count is 1 to 255 (R88, R204). -/
def fitsCount (c : Nat) : Bool := 1 ≤ c && c ≤ 255

def Presence.fits : Presence → Bool
  | .feeder m => m ≤ 250
  | .meter => true
  | .back => true
  | .printer _ => true

def StatusReport.fits : StatusReport → Bool
  | .feeder m => m ≤ 250
  | .meter => true
  | .back _ => true
  | .printer _ => true

def DirectResult.fits : DirectResult → Bool
  | .load _ => true
  | .ret _ => true
  | .scan r => r.fits
  | .spot r => r.fits
  | .readCount c => fitsCount c
  | .testShutter m => fitsThree m
  | .print _ => true

/-- The desk's three frame classes (R200): 1 ORDER, 2 DIRECT, 3 MANAGE. -/
def knownClass (c : Byte) : Bool := c == 1#8 || c == 2#8 || c == 3#8

/-- The MANAGE command bytes 1 to 31 (R202). -/
def knownManage (c : Byte) : Bool := 1 ≤ c.toNat && c.toNat ≤ 31

/-- The unit command kinds a DIRECT frame may name (R203). -/
def knownDirect (k : Byte) : Bool :=
  [0x10, 0x11, 0x20, 0x21, 0x30, 0x31, 0x32, 0x40].contains k.toNat

/-- The table selectors 1 to 4 (R199). -/
def knownSelector (k : Byte) : Bool := 1 ≤ k.toNat && k.toNat ≤ 4

/-- Whether a command can be spelled. -/
def Instr.wellFormed : Instr → Bool
  | .powerOn => true
  | .deskFrameReceived _ => true
  | .byteGapExpiry => true
  | .orderFrame _ f => f.fits
  | .unknownClass cls _ => !knownClass cls
  | .payloadLengthDiscard cls _ => knownClass cls
  | .unknownManageCommand _ code => !knownManage code
  | .run _ _ => true
  | .stopHold _ _ => true
  | .stopRelease _ _ => true
  | .stepOn _ _ => true
  | .stepOff _ _ => true
  | .clearFault _ _ => true
  | .readResume _ _ => true
  | .linkReset _ _ => true
  | .readStatus _ _ => true
  | .ackEvents _ _ => true
  | .setNoticeMask _ _ => true
  | .clearTraps _ _ => true
  | .setSettings _ f => f.check (fun l => l.all SettingItem.fits && decide (2 + 5 * l.length ≤ 250))
  | .readSettings _ _ => true
  | .loadEntryStockWrite _ f => f.check StockFields.fits
  | .loadEntryStockDelete _ f => f.check fitsByte
  | .loadEntryPatternWrite _ f => f.check PatternFields.fits
  | .loadEntryPatternEmpty _ f => f.check fitsByte
  | .loadEntryTemplateWrite _ f => f.check TemplateFields.fits
  | .loadEntryTemplateEmpty _ f => f.check fitsByte
  | .loadEntryFee _ f => f.check FeeFields.fits
  | .loadEntryBadSelector _ _ sel => sel.all (fun k => !knownSelector k)
  | .readEntryStock _ f => f.check (fun k => k.all fitsByte)
  | .readEntryPattern _ f => f.check (fun k => k.all fitsByte)
  | .readEntryTemplate _ f => f.check (fun k => k.all fitsByte)
  | .readEntryFee _ f => f.check (fun k => k.all fitsByte)
  | .loadRoll _ f => f.check LoadRollFields.fits
  | .closeRoll _ f => f.check fitsByte
  | .resyncRoll _ f => f.check fitsByte
  | .readRollMap _ f => f.check RollMapFields.fits
  | .cancelOrder _ f => f.check fitsTwo
  | .readOrder _ f => f.check fitsTwo
  | .discardLabels _ _ => true
  | .openAccount _ f => f.check AccountSum.fits
  | .readAccount _ f => f.check (fun n => n.all fitsTwo)
  | .setCeiling _ f => f.check AccountSum.fits
  | .suspendAccount _ f => f.check fitsTwo
  | .reopenAccount _ f => f.check fitsTwo
  | .credit _ f => f.check AccountSum.fits
  | .clearCharged _ f => f.check fitsTwo
  | .deleteAccount _ f => f.check fitsTwo
  | .directLoad _ _ f => f.check fitsByte
  | .directReturn _ _ _ => true
  | .directScan _ _ _ => true
  | .directSpot _ _ f => f.check fitsByte
  | .directAdvance _ _ f => f.check AdvanceFields.fits
  | .directReadCount _ _ _ => true
  | .directTestShutter _ _ f => f.check fitsThree
  | .directPrint _ _ f => f.check PrintFields.fits
  | .pollExpiry => true
  | .presenceAnswer _ x p => fitsByte x && p.fits
  | .statusAnswer _ x r => fitsByte x && r.fits
  | .loadCompletion x _ => fitsByte x
  | .returnCompletion x _ => fitsByte x
  | .scanCompletion x r => fitsByte x && r.fits
  | .spotCompletion x r => fitsByte x && r.fits
  | .advanceCompletion _ x _ c m => fitsByte x && fitsCount c && fitsThree m
  | .leaderCompletion _ x _ c => fitsByte x && fitsCount c
  | .blankingCompletion _ x _ c => fitsByte x && fitsCount c
  | .passThroughCompletion _ x _ c => fitsByte x && fitsCount c
  | .readCountCompletion _ x c => fitsByte x && fitsCount c
  | .directCompletion _ x r => fitsByte x && r.fits
  | .printCompletion x _ => fitsByte x
  | .detachingAnswer _ x => fitsByte x
  | .unitCommandTimeout _ => true
  | .lampRiseExpiry => true
  | .shutterFallExpiry _ => true
  | .lampFallExpiry => true
  | .senseDeadlineExpiry => true
  | .lampSenseActive => true
  | .lampSenseInactive => true
  | .deskReadyActive => true
  | .upstreamFrameSent => true
  | .deskReadyInactive => true
  | .byteReceived _ => true
  | .directUnknownCommand _ _ kind => kind.all (fun k => !knownDirect k)

end Sys2Proof
end

