-- ==== Sys2Proof/Decode.lean ====
section
/-!
DEFINITION. What the bytes of a desk frame spell (R184, R186, R199 to R202) and the bytes that spell a command.
`decodeTableWord` answers for the host: the opcode table gives no row any bits, so no word spells a command.
-/

namespace Sys2Proof

/-- No row of spec/opcode_table.json has bits, so no word spells a command. -/
def decodeTableWord (_nbits _w : Nat) : Option Instr := none

/-- One whole frame of the desk link: its class, its tag and its payload (R184). -/
structure Frame where
  cls : Byte
  tag : Byte
  payload : List Byte
deriving DecidableEq, Repr

/-- One shift of the check register of R184, with the polynomial x^16 + x^12 + x^5 + 1. -/
def crcShift (r : BitVec 16) : BitVec 16 :=
  if r.getLsbD 15 then (r <<< 1) ^^^ 0x1021#16 else r <<< 1

/-- The check register after one more byte, most significant bit first (R184). -/
def crcByte (r : BitVec 16) (b : Byte) : BitVec 16 :=
  crcShift (crcShift (crcShift (crcShift (crcShift (crcShift (crcShift (crcShift
    (r ^^^ (b.setWidth 16 <<< 8)))))))))

/-- The 16-bit check of R184 over a list of bytes, from an initial value of all ones. -/
def crc16 (bytes : List Byte) : BitVec 16 := bytes.foldl crcByte 0xFFFF#16

/-- The two check bytes, high byte first (R184). -/
def checkBytes (bytes : List Byte) : List Byte :=
  [((crc16 bytes) >>> 8).setWidth 8, (crc16 bytes).setWidth 8]

namespace Desk

/-- What reading one field off the front of a payload gives: the field and what follows it, or that the payload
ended before the field (R199: refused BAD-FIELD) or within it (R200: the frame is discarded). -/
inductive Parsed (α : Type) where
  | done (value : α) (rest : List Byte)
  | missing
  | cut

/-- The number spelled by bytes, high byte first (R200). -/
def natOf (bytes : List Byte) : Nat := bytes.foldl (fun n b => n * 256 + b.toNat) 0

/-- The two's complement number of `n` bytes with this unsigned value (R200). -/
def intOf (n : Nat) (v : Nat) : Int := if v < 2 ^ (8 * n - 1) then (v : Int) else (v : Int) - (2 ^ (8 * n) : Nat)

/-- A number of `n` bytes off the front. -/
def takeNat (n : Nat) (bytes : List Byte) : Parsed Nat :=
  if bytes.isEmpty then .missing
  else if bytes.length < n then .cut
  else .done (natOf (bytes.take n)) (bytes.drop n)

/-- A signed number of `n` bytes off the front. -/
def takeInt (n : Nat) (bytes : List Byte) : Parsed Int :=
  match takeNat n bytes with
  | .done v rest => .done (intOf n v) rest
  | .missing => .missing
  | .cut => .cut

/-- A text of exactly `n` characters off the front (R202). -/
def takeFixed (n : Nat) (bytes : List Byte) : Parsed Text :=
  if bytes.isEmpty then .missing
  else if bytes.length < n then .cut
  else .done ((bytes.take n).map BitVec.toNat) (bytes.drop n)

/-- A text with its length byte off the front (R199, R202). -/
def takeText (bytes : List Byte) : Parsed Text :=
  match bytes with
  | [] => .missing
  | n :: rest =>
    if rest.length < n.toNat then .cut
    else .done ((rest.take n.toNat).map BitVec.toNat) (rest.drop n.toNat)

/-- `n` fields of one shape off the front, in order. -/
def takeMany {α : Type} (one : List Byte → Parsed α) : Nat → List Byte → Parsed (List α)
  | 0, bytes => .done [] bytes
  | n + 1, bytes =>
    match one bytes with
    | .missing => .missing
    | .cut => .cut
    | .done v rest =>
      match takeMany one n rest with
      | .missing => .missing
      | .cut => .cut
      | .done vs rest' => .done (v :: vs) rest'

/-- A template step: its step byte and operand byte, one field of two bytes (R199; assumption 13). -/
def takeStep (bytes : List Byte) : Parsed RawStep :=
  match bytes with
  | [] => .missing
  | [_] => .cut
  | c :: o :: rest => .done { code := c.toNat, operand := o.toNat } rest

/-- An item of SET SETTINGS: its number, then its four-byte signed value (R202). -/
def takeItem (bytes : List Byte) : Parsed SettingItem :=
  match bytes with
  | [] => .missing
  | i :: rest =>
    match takeInt 4 rest with
    | .missing => .missing
    | .cut => .cut
    | .done v rest' => .done { item := i.toNat, value := v } rest'

namespace Parsed

/-- Go on to the next field. A payload that ended at a field boundary makes the fields mismatched; one that ended
within a field makes the frame discarded, which is `none`. -/
def bind {α β : Type} (p : Parsed α) (next : α → List Byte → Option (Fields β)) : Option (Fields β) :=
  match p with
  | .done v rest => next v rest
  | .missing => some .mismatched
  | .cut => none

end Parsed

/-- The fields are done: bytes left over make them mismatched (R199, R200). -/
def atEnd {α : Type} (v : α) (rest : List Byte) : Option (Fields α) :=
  if rest.isEmpty then some (.given v) else some .mismatched

/-- No fields. -/
def noFields (bytes : List Byte) : Option (Fields Unit) := atEnd () bytes

/-- One number of `n` bytes. -/
def oneNat (n : Nat) (bytes : List Byte) : Option (Fields Nat) := (takeNat n bytes).bind atEnd

/-- One number of `n` bytes, or nothing to name none (R202). -/
def optNat (n : Nat) (bytes : List Byte) : Option (Fields (Option Nat)) :=
  if bytes.isEmpty then some (.given none) else (takeNat n bytes).bind (fun v => atEnd (some v))

/-- A set of event flags: two bytes, of which the twelve low bits are used (R202). -/
def oneEventSet (bytes : List Byte) : Option (Fields EventSet) :=
  (takeNat 2 bytes).bind (fun v rest => if v < 4096 then atEnd (BitVec.ofNat 12 v) rest else some .mismatched)

/-- An account number and a sum. -/
def accountSum (bytes : List Byte) : Option (Fields AccountSum) :=
  (takeNat 2 bytes).bind fun n r1 => (takeNat 3 r1).bind fun a => atEnd { number := n, amount := a }

def settingItems (bytes : List Byte) : Option (Fields (List SettingItem)) :=
  (takeNat 1 bytes).bind fun n r1 => (takeMany takeItem n r1).bind atEnd

def stockFields (code : Nat) (bytes : List Byte) : Option (Fields StockFields) :=
  (takeText bytes).bind fun name r1 =>
  (takeInt 1 r1).bind fun speed r2 =>
  (takeNat 1 r2).bind fun frames r3 =>
  (takeInt 1 r3).bind fun knee r4 =>
  (takeNat 1 r4).bind fun slope r5 =>
  (takeNat 2 r5).bind fun price =>
    atEnd { code := code, name := name, speed := speed, frames := frames, knee := knee, slope := slope, price := price }

def patternFields (number : Nat) (bytes : List Byte) : Option (Fields PatternFields) :=
  (takeNat 1 bytes).bind fun count r1 =>
  (takeNat 1 r1).bind fun nominal r2 =>
  (takeMany (takeInt 1) r2.length r2).bind fun offsets =>
    atEnd { number := number, stepCount := count, nominal := nominal, offsets := offsets }

def templateFields (number : Nat) (bytes : List Byte) : Option (Fields TemplateFields) :=
  (takeNat 1 bytes).bind fun count r1 =>
  (takeMany takeStep count r1).bind fun steps r2 =>
  (takeNat 1 r2).bind fun literalCount r3 =>
  (takeMany takeText literalCount r3).bind fun literals =>
    atEnd { number := number, steps := steps, literals := literals }

def feeFields (fee : Nat) (bytes : List Byte) : Option (Fields FeeFields) :=
  if bytes.isEmpty then some (.given { fee := fee, value := none })
  else (takeNat 2 bytes).bind fun v => atEnd { fee := fee, value := some v }

def loadRollFields (bytes : List Byte) : Option (Fields LoadRollFields) :=
  (takeNat 1 bytes).bind fun back r1 =>
  (takeNat 1 r1).bind fun stock r2 =>
  (takeFixed 6 r2).bind fun rollId => atEnd { back := back, stock := stock, rollId := rollId }

def rollMapFields (bytes : List Byte) : Option (Fields RollMapFields) :=
  (takeNat 1 bytes).bind fun back r1 =>
    if r1.isEmpty then some (.given { back := back, range := none })
    else (takeNat 1 r1).bind fun first r2 =>
      (takeNat 1 r2).bind fun count => atEnd { back := back, range := some (first, count) }

def advanceFields (bytes : List Byte) : Option (Fields AdvanceFields) :=
  (takeNat 1 bytes).bind fun form r1 => (takeNat 1 r1).bind fun count => atEnd { form := form, count := count }

def printFields (bytes : List Byte) : Option (Fields PrintFields) :=
  (takeNat 1 bytes).bind fun kind r1 =>
  (takeNat 1 r1).bind fun flags r2 =>
  (takeNat 1 r2).bind fun count r3 =>
  (takeMany takeText count r3).bind fun lines => atEnd { kind := kind, flags := flags, lines := lines }

/-- The command of parsed fields, or the discard of a frame cut within a field. -/
def orDiscard {α : Type} (cls tag : Byte) (p : Option (Fields α)) (c : Fields α → Instr) : Instr :=
  match p with
  | some f => c f
  | none => .payloadLengthDiscard cls tag

/-- A LOAD ENTRY payload after its command byte (R199): a payload that ends after the key carries no fields. -/
def decodeLoadEntry (tag : Byte) (bytes : List Byte) : Instr :=
  match bytes with
  | [] => .loadEntryBadSelector tag false none
  | sel :: rest =>
    match sel.toNat with
    | 1 =>
      match rest with
      | [] => .loadEntryStockDelete tag .mismatched
      | [k] => .loadEntryStockDelete tag (.given k.toNat)
      | k :: more => orDiscard 3#8 tag (stockFields k.toNat more) (.loadEntryStockWrite tag)
    | 2 =>
      match rest with
      | [] => .loadEntryPatternEmpty tag .mismatched
      | [k] => .loadEntryPatternEmpty tag (.given k.toNat)
      | k :: more => orDiscard 3#8 tag (patternFields k.toNat more) (.loadEntryPatternWrite tag)
    | 3 =>
      match rest with
      | [] => .loadEntryTemplateEmpty tag .mismatched
      | [k] => .loadEntryTemplateEmpty tag (.given k.toNat)
      | k :: more => orDiscard 3#8 tag (templateFields k.toNat more) (.loadEntryTemplateWrite tag)
    | 4 =>
      match rest with
      | [] => .loadEntryFee tag .mismatched
      | k :: more => orDiscard 3#8 tag (feeFields k.toNat more) (.loadEntryFee tag)
    | _ => .loadEntryBadSelector tag false (some sel)

/-- A READ ENTRY payload after its command byte (R199): a payload that ends after the selector names no key. -/
def decodeReadEntry (tag : Byte) (bytes : List Byte) : Instr :=
  match bytes with
  | [] => .loadEntryBadSelector tag true none
  | sel :: rest =>
    match sel.toNat with
    | 1 => orDiscard 3#8 tag (optNat 1 rest) (.readEntryStock tag)
    | 2 => orDiscard 3#8 tag (optNat 1 rest) (.readEntryPattern tag)
    | 3 => orDiscard 3#8 tag (optNat 1 rest) (.readEntryTemplate tag)
    | 4 => orDiscard 3#8 tag (optNat 1 rest) (.readEntryFee tag)
    | _ => .loadEntryBadSelector tag true (some sel)

/-- The command a MANAGE frame names (R202). -/
def decodeManage (tag : Byte) (payload : List Byte) : Instr :=
  match payload with
  | [] => .payloadLengthDiscard 3#8 tag
  | code :: rest =>
    match code.toNat with
    | 1 => orDiscard 3#8 tag (noFields rest) (.run tag)
    | 2 => orDiscard 3#8 tag (noFields rest) (.stopHold tag)
    | 3 => orDiscard 3#8 tag (noFields rest) (.stopRelease tag)
    | 4 => orDiscard 3#8 tag (noFields rest) (.stepOn tag)
    | 5 => orDiscard 3#8 tag (noFields rest) (.stepOff tag)
    | 6 => orDiscard 3#8 tag (noFields rest) (.clearFault tag)
    | 7 => orDiscard 3#8 tag (noFields rest) (.readResume tag)
    | 8 => orDiscard 3#8 tag (noFields rest) (.linkReset tag)
    | 9 => orDiscard 3#8 tag (noFields rest) (.readStatus tag)
    | 10 => orDiscard 3#8 tag (oneEventSet rest) (.ackEvents tag)
    | 11 => orDiscard 3#8 tag (oneEventSet rest) (.setNoticeMask tag)
    | 12 => orDiscard 3#8 tag (noFields rest) (.clearTraps tag)
    | 13 => orDiscard 3#8 tag (settingItems rest) (.setSettings tag)
    | 14 => orDiscard 3#8 tag (noFields rest) (.readSettings tag)
    | 15 => decodeLoadEntry tag rest
    | 16 => decodeReadEntry tag rest
    | 17 => orDiscard 3#8 tag (loadRollFields rest) (.loadRoll tag)
    | 18 => orDiscard 3#8 tag (oneNat 1 rest) (.closeRoll tag)
    | 19 => orDiscard 3#8 tag (oneNat 1 rest) (.resyncRoll tag)
    | 20 => orDiscard 3#8 tag (rollMapFields rest) (.readRollMap tag)
    | 21 => orDiscard 3#8 tag (oneNat 2 rest) (.cancelOrder tag)
    | 22 => orDiscard 3#8 tag (oneNat 2 rest) (.readOrder tag)
    | 23 => orDiscard 3#8 tag (noFields rest) (.discardLabels tag)
    | 24 => orDiscard 3#8 tag (accountSum rest) (.openAccount tag)
    | 25 => orDiscard 3#8 tag (optNat 2 rest) (.readAccount tag)
    | 26 => orDiscard 3#8 tag (accountSum rest) (.setCeiling tag)
    | 27 => orDiscard 3#8 tag (oneNat 2 rest) (.suspendAccount tag)
    | 28 => orDiscard 3#8 tag (oneNat 2 rest) (.reopenAccount tag)
    | 29 => orDiscard 3#8 tag (accountSum rest) (.credit tag)
    | 30 => orDiscard 3#8 tag (oneNat 2 rest) (.clearCharged tag)
    | 31 => orDiscard 3#8 tag (oneNat 2 rest) (.deleteAccount tag)
    | _ => .unknownManageCommand tag code

/-- The command a DIRECT frame names: unit address, command kind, fields (R200, R203, R204). -/
def decodeDirect (tag : Byte) (payload : List Byte) : Instr :=
  match payload with
  | [] => .payloadLengthDiscard 2#8 tag
  | [unit] => .directUnknownCommand tag unit none
  | unit :: kind :: rest =>
    match kind.toNat with
    | 0x10 => orDiscard 2#8 tag (oneNat 1 rest) (.directLoad tag unit)
    | 0x11 => orDiscard 2#8 tag (noFields rest) (.directReturn tag unit)
    | 0x20 => orDiscard 2#8 tag (noFields rest) (.directScan tag unit)
    | 0x21 => orDiscard 2#8 tag (oneNat 1 rest) (.directSpot tag unit)
    | 0x30 => orDiscard 2#8 tag (advanceFields rest) (.directAdvance tag unit)
    | 0x31 => orDiscard 2#8 tag (noFields rest) (.directReadCount tag unit)
    | 0x32 => orDiscard 2#8 tag (oneNat 3 rest) (.directTestShutter tag unit)
    | 0x40 => orDiscard 2#8 tag (printFields rest) (.directPrint tag unit)
    | _ => .directUnknownCommand tag unit (some kind)

/-- The order an ORDER payload carries (R201). A length other than 16 plus the three text lengths discards the
frame (R200), which is `none`. -/
def orderFields (payload : List Byte) : Option OrderFields :=
  let at1 (i : Nat) : Nat := (payload.getD i 0#8).toNat
  let flags := at1 8
  if payload.length < 16 then none
  else if payload.length ≠ 16 + at1 13 + at1 14 + at1 15 then none
  else
    let texts := (payload.drop 16).map BitVec.toNat
    some {
      account := at1 0 * 256 + at1 1
      magazine := at1 2
      position := at1 3
      stock := at1 4
      copies := at1 5
      pattern := at1 6
      mode := at1 7
      rush := flags % 2 == 1
      template := if flags / 2 % 2 = 1 then some (at1 9) else none
      fixedDensity := if flags / 4 % 2 = 1 then some (at1 10 * 256 + at1 11) else none
      strayFlags := flags / 8
      correction := intOf 1 (at1 12)
      catalog := texts.take (at1 13)
      title := (texts.drop (at1 13)).take (at1 14)
      course := (texts.drop (at1 13 + at1 14)).take (at1 15) }

/-- The command a whole desk frame stands for when it is taken (R186, R200). -/
def decode (f : Frame) : Instr :=
  match f.cls.toNat with
  | 1 =>
    match orderFields f.payload with
    | some o => .orderFrame f.tag o
    | none => .payloadLengthDiscard f.cls f.tag
  | 2 => decodeDirect f.tag f.payload
  | 3 => decodeManage f.tag f.payload
  | _ => .unknownClass f.cls f.tag

/-! The encoder. -/

/-- A number as `n` bytes, high byte first (R200). -/
def natBytes : Nat → Nat → List Byte
  | 0, _ => []
  | n + 1, v => BitVec.ofNat 8 (v / 256 ^ n) :: natBytes n v

/-- A signed number as `n` bytes in two's complement (R200). -/
def intBytes (n : Nat) (i : Int) : List Byte := natBytes n (i % (2 ^ (8 * n) : Nat)).toNat

/-- The characters of a text. -/
def charBytes (t : Text) : List Byte := t.map (BitVec.ofNat 8)

/-- A text with its length byte (R202). -/
def textWithLength (t : Text) : List Byte := BitVec.ofNat 8 t.length :: charBytes t

/-- The bytes of fields, or the given bytes for a payload that does not agree with them. -/
def fieldBytes {α : Type} (f : Fields α) (bytes : α → List Byte) (mismatch : List Byte) : List Byte :=
  match f with
  | .given a => bytes a
  | .mismatched => mismatch

/-- An optional number of `n` bytes, left out to name none (R202). -/
def optBytes (n : Nat) (v : Option Nat) : List Byte := (v.map (natBytes n)).getD []

def orderPayload (f : OrderFields) : List Byte :=
  natBytes 2 f.account ++
  [BitVec.ofNat 8 f.magazine, BitVec.ofNat 8 f.position, BitVec.ofNat 8 f.stock, BitVec.ofNat 8 f.copies,
   BitVec.ofNat 8 f.pattern, BitVec.ofNat 8 f.mode,
   BitVec.ofNat 8 ((if f.rush then 1 else 0) + (if f.template.isSome then 2 else 0) +
     (if f.fixedDensity.isSome then 4 else 0) + 8 * f.strayFlags),
   BitVec.ofNat 8 (f.template.getD 0)] ++
  natBytes 2 (f.fixedDensity.getD 0) ++ intBytes 1 f.correction ++
  [BitVec.ofNat 8 f.catalog.length, BitVec.ofNat 8 f.title.length, BitVec.ofNat 8 f.course.length] ++
  charBytes f.catalog ++ charBytes f.title ++ charBytes f.course

def accountSumBytes (f : AccountSum) : List Byte := natBytes 2 f.number ++ natBytes 3 f.amount

def settingItemBytes (i : SettingItem) : List Byte := BitVec.ofNat 8 i.item :: intBytes 4 i.value

def stockBytes (f : StockFields) : List Byte :=
  BitVec.ofNat 8 f.code :: (textWithLength f.name ++ intBytes 1 f.speed ++ natBytes 1 f.frames ++ intBytes 1 f.knee ++
    natBytes 1 f.slope ++ natBytes 2 f.price)

def patternBytes (f : PatternFields) : List Byte :=
  [BitVec.ofNat 8 f.number, BitVec.ofNat 8 f.stepCount, BitVec.ofNat 8 f.nominal] ++ f.offsets.flatMap (intBytes 1)

def templateBytes (f : TemplateFields) : List Byte :=
  [BitVec.ofNat 8 f.number, BitVec.ofNat 8 f.steps.length] ++
  f.steps.flatMap (fun st => [BitVec.ofNat 8 st.code, BitVec.ofNat 8 st.operand]) ++
  (BitVec.ofNat 8 f.literals.length :: f.literals.flatMap textWithLength)

def feeBytes (f : FeeFields) : List Byte := BitVec.ofNat 8 f.fee :: optBytes 2 f.value

def loadRollBytes (f : LoadRollFields) : List Byte :=
  [BitVec.ofNat 8 f.back, BitVec.ofNat 8 f.stock] ++ charBytes f.rollId

def rollMapBytes (f : RollMapFields) : List Byte :=
  BitVec.ofNat 8 f.back :: ((f.range.map (fun r => [BitVec.ofNat 8 r.1, BitVec.ofNat 8 r.2])).getD [])

def printBytes (f : PrintFields) : List Byte :=
  [BitVec.ofNat 8 f.kind, BitVec.ofNat 8 f.flags, BitVec.ofNat 8 f.lines.length] ++ f.lines.flatMap textWithLength

/-- A MANAGE frame. -/
def manage (tag : Byte) (code : Nat) (fields : List Byte) : Option Frame :=
  some { cls := 3#8, tag := tag, payload := BitVec.ofNat 8 code :: fields }

/-- A DIRECT frame. -/
def direct (tag unit : Byte) (kind : Nat) (fields : List Byte) : Option Frame :=
  some { cls := 2#8, tag := tag, payload := unit :: BitVec.ofNat 8 kind :: fields }

/-- No fields, or one byte too many. -/
def unitBytes (f : Fields Unit) : List Byte := fieldBytes f (fun _ => []) [0#8]

/-- The frame that spells a command of the desk (R199 to R202); none for a command that is no desk frame. A frame
whose fields do not agree with its command's layout is spelled with no field, or with a byte too many. -/
def encode : Instr → Option Frame
  | .orderFrame tag f => some { cls := 1#8, tag := tag, payload := orderPayload f }
  | .unknownClass cls tag => some { cls := cls, tag := tag, payload := [] }
  | .payloadLengthDiscard cls tag => some { cls := cls, tag := tag, payload := [] }
  | .unknownManageCommand tag code => some { cls := 3#8, tag := tag, payload := [code] }
  | .run tag f => manage tag 1 (unitBytes f)
  | .stopHold tag f => manage tag 2 (unitBytes f)
  | .stopRelease tag f => manage tag 3 (unitBytes f)
  | .stepOn tag f => manage tag 4 (unitBytes f)
  | .stepOff tag f => manage tag 5 (unitBytes f)
  | .clearFault tag f => manage tag 6 (unitBytes f)
  | .readResume tag f => manage tag 7 (unitBytes f)
  | .linkReset tag f => manage tag 8 (unitBytes f)
  | .readStatus tag f => manage tag 9 (unitBytes f)
  | .ackEvents tag f => manage tag 10 (fieldBytes f (fun e => natBytes 2 e.toNat) [])
  | .setNoticeMask tag f => manage tag 11 (fieldBytes f (fun e => natBytes 2 e.toNat) [])
  | .clearTraps tag f => manage tag 12 (unitBytes f)
  | .setSettings tag f =>
    manage tag 13 (fieldBytes f (fun l => BitVec.ofNat 8 l.length :: l.flatMap settingItemBytes) [])
  | .readSettings tag f => manage tag 14 (unitBytes f)
  | .loadEntryStockWrite tag f => manage tag 15 (1#8 :: fieldBytes f stockBytes [0#8, 0#8])
  | .loadEntryStockDelete tag f => manage tag 15 (1#8 :: fieldBytes f (natBytes 1) [])
  | .loadEntryPatternWrite tag f => manage tag 15 (2#8 :: fieldBytes f patternBytes [0#8, 0#8])
  | .loadEntryPatternEmpty tag f => manage tag 15 (2#8 :: fieldBytes f (natBytes 1) [])
  | .loadEntryTemplateWrite tag f => manage tag 15 (3#8 :: fieldBytes f templateBytes [0#8, 0#8])
  | .loadEntryTemplateEmpty tag f => manage tag 15 (3#8 :: fieldBytes f (natBytes 1) [])
  | .loadEntryFee tag f => manage tag 15 (4#8 :: fieldBytes f feeBytes [])
  | .loadEntryBadSelector tag reading sel => manage tag (if reading then 16 else 15) sel.toList
  | .readEntryStock tag f => manage tag 16 (1#8 :: fieldBytes f (optBytes 1) [0#8, 0#8])
  | .readEntryPattern tag f => manage tag 16 (2#8 :: fieldBytes f (optBytes 1) [0#8, 0#8])
  | .readEntryTemplate tag f => manage tag 16 (3#8 :: fieldBytes f (optBytes 1) [0#8, 0#8])
  | .readEntryFee tag f => manage tag 16 (4#8 :: fieldBytes f (optBytes 1) [0#8, 0#8])
  | .loadRoll tag f => manage tag 17 (fieldBytes f loadRollBytes [])
  | .closeRoll tag f => manage tag 18 (fieldBytes f (natBytes 1) [])
  | .resyncRoll tag f => manage tag 19 (fieldBytes f (natBytes 1) [])
  | .readRollMap tag f => manage tag 20 (fieldBytes f rollMapBytes [])
  | .cancelOrder tag f => manage tag 21 (fieldBytes f (natBytes 2) [])
  | .readOrder tag f => manage tag 22 (fieldBytes f (natBytes 2) [])
  | .discardLabels tag f => manage tag 23 (unitBytes f)
  | .openAccount tag f => manage tag 24 (fieldBytes f accountSumBytes [])
  | .readAccount tag f => manage tag 25 (fieldBytes f (optBytes 2) [0#8, 0#8, 0#8])
  | .setCeiling tag f => manage tag 26 (fieldBytes f accountSumBytes [])
  | .suspendAccount tag f => manage tag 27 (fieldBytes f (natBytes 2) [])
  | .reopenAccount tag f => manage tag 28 (fieldBytes f (natBytes 2) [])
  | .credit tag f => manage tag 29 (fieldBytes f accountSumBytes [])
  | .clearCharged tag f => manage tag 30 (fieldBytes f (natBytes 2) [])
  | .deleteAccount tag f => manage tag 31 (fieldBytes f (natBytes 2) [])
  | .directLoad tag unit f => direct tag unit 0x10 (fieldBytes f (natBytes 1) [])
  | .directReturn tag unit f => direct tag unit 0x11 (unitBytes f)
  | .directScan tag unit f => direct tag unit 0x20 (unitBytes f)
  | .directSpot tag unit f => direct tag unit 0x21 (fieldBytes f (natBytes 1) [])
  | .directAdvance tag unit f =>
    direct tag unit 0x30 (fieldBytes f (fun a => natBytes 1 a.form ++ natBytes 1 a.count) [])
  | .directReadCount tag unit f => direct tag unit 0x31 (unitBytes f)
  | .directTestShutter tag unit f => direct tag unit 0x32 (fieldBytes f (natBytes 3) [])
  | .directPrint tag unit f => direct tag unit 0x40 (fieldBytes f printBytes [])
  | .directUnknownCommand tag unit kind =>
    some { cls := 2#8, tag := tag, payload := unit :: kind.toList }
  | .powerOn => none
  | .deskFrameReceived _ => none
  | .byteGapExpiry => none
  | .pollExpiry => none
  | .presenceAnswer _ _ _ => none
  | .statusAnswer _ _ _ => none
  | .loadCompletion _ _ => none
  | .returnCompletion _ _ => none
  | .scanCompletion _ _ => none
  | .spotCompletion _ _ => none
  | .advanceCompletion _ _ _ _ _ => none
  | .leaderCompletion _ _ _ _ => none
  | .blankingCompletion _ _ _ _ => none
  | .passThroughCompletion _ _ _ _ => none
  | .readCountCompletion _ _ _ => none
  | .directCompletion _ _ _ => none
  | .printCompletion _ _ => none
  | .detachingAnswer _ _ => none
  | .unitCommandTimeout _ => none
  | .lampRiseExpiry => none
  | .shutterFallExpiry _ => none
  | .lampFallExpiry => none
  | .senseDeadlineExpiry => none
  | .lampSenseActive => none
  | .lampSenseInactive => none
  | .deskReadyActive => none
  | .upstreamFrameSent => none
  | .deskReadyInactive => none
  | .byteReceived _ => none

/-- The bytes of a frame on the desk link, with start byte and check (R201). -/
def frameBytes (f : Frame) : List Byte :=
  let inner := f.cls :: f.tag :: BitVec.ofNat 8 f.payload.length :: f.payload
  0xA5#8 :: (inner ++ checkBytes inner)

end Desk

end Sys2Proof
end

