-- ==== Sys2Proof/Machine/State.lean ====
section
/-!
DEFINITION. The state of the 740 as plain data, one part for each block of the block diagram (00_scope.md), the
replies, notices and reports it sends, the reasons a step could stop, and the state after power-on.
-/

namespace Sys2Proof.Machine

/-! ## Reasons to stop -/

/-- No command of the 740 stops the machine: what the spec calls faults are effects on State (R156 to R162). -/
inductive Fault
deriving DecidableEq, Repr

/-- No meaning of this model refuses a command. -/
inductive Refusal where
  /-- Raised by exec for a command that has no meaning yet; safe. No arm of this model does. -/
  | notModelled (mnemonic : String)
deriving DecidableEq, Repr

/-! ## Reasons answered to the desk -/

/-- The reasons of REFUSED and TRAPPED replies (R201), in the order of their codes. -/
inductive Reason where
  | badField
  | houseRefused
  | noAccount
  | suspended
  | noStock
  | noPattern
  | noTemplate
  | queueFull
  | overCeiling
  | busy
  | inUse
  | tableFull
  | noEntry
  | noOrder
  | ending
  | noUnit
  | rollState
  | leader
  | notAhead
  | unitTimeout
  | noRoll
  | faulted
  | notFaulted
  | notHeld
  | exists_
  | ceilingLow
  | floorCeiling
  | film
  | shutter
deriving DecidableEq, Repr

/-! ## Orders (01) -/

/-- The metering modes (R1). -/
inductive MeterMode where
  | average
  | centre
  | spot
  | fixed
deriving DecidableEq, Repr

/-- The states of an order (R7, R8). -/
inductive OrderState where
  | queued
  | active
  | ending
deriving DecidableEq, Repr

/-- The kinds of class B fault (R162). -/
inductive ClassB where
  | noSlide
  | meterFail
  | reshootLimit
deriving DecidableEq, Repr

/-- The end kinds of an order (R8). -/
inductive EndKind where
  | done
  | cancelled
  | faulted (kind : ClassB)
deriving DecidableEq, Repr

/-- The waiting reasons (R14). -/
inductive Waiting where
  | none
  | stock
  | magazine
deriving DecidableEq, Repr

/-- A bracket pattern: the offsets in shooting order and the nominal step (R64); the step count is their number. -/
structure Pattern where
  offsets : List Int
  nominal : Nat
deriving DecidableEq, Repr

/-- The step count of a pattern (R64). -/
def Pattern.steps (p : Pattern) : Nat := p.offsets.length

/-- The prices an order copies at admission (R2). -/
structure Prices where
  frame : Nat
  orderFee : Nat
  rushFee : Nat
  labelFee : Nat
deriving DecidableEq, Repr

/-- One span of an order's good frames (R13). -/
structure Span where
  back : Back
  rollId : Text
  first : Nat
  last : Nat
deriving DecidableEq, Repr

/-- An order record (R1, R2). -/
structure Order where
  number : Nat
  tag : Byte
  account : Nat
  magazine : Nat
  position : Nat
  stock : Nat
  copies : Nat
  patternEntry : Nat
  mode : MeterMode
  fixedDensity : Option Nat
  correction : Int
  template : Option Nat
  rush : Bool
  catalog : Option Text
  title : Option Text
  course : Option Text
  state : OrderState
  cancelRequested : Bool
  endKind : Option EndKind
  pattern : Pattern
  prices : Prices
  reserved : Nat
  held : Nat
  settled : Option Nat
  /-- The next set's copy and step; none is past end (R10). -/
  next : Option (Nat × Nat)
  redo : List (Nat × Nat)
  goodFrames : Nat
  timingSpoils : Nat
  lampSpoils : Nat
  reshoots : Nat
  goodLabels : Nat
  density : Option Nat
  spans : List Span
  more : Bool
  waiting : Waiting
deriving DecidableEq, Repr

/-- The ORDER REPORT (R9, R201). -/
structure OrderReport where
  number : Nat
  tag : Byte
  endKind : EndKind
  account : Nat
  reserved : Nat
  settled : Nat
  goodFrames : Nat
  spoils : Nat
  goodLabels : Nat
  density : Option Nat
  spans : List Span
  more : Bool
deriving DecidableEq, Repr

/-- An entry of the ending list: the order, the moment its report was composed, the report (R9, R192). -/
structure Ending where
  number : Nat
  stamp : Nat
  report : OrderReport
deriving DecidableEq, Repr

/-- The Order Queue. -/
structure Queue where
  orders : List Order
  ending : List Ending
  nextNumber : Nat
  wantedStock : List Nat
  wantedMagazine : List Nat
deriving DecidableEq, Repr

/-! ## Gate visits (02), metering (03), the engine (08) -/

/-- The kinds of a work item (R27). -/
inductive ItemKind where
  | setStart
  | inSet
  | redo
deriving DecidableEq, Repr

/-- One exposure owed on one back (R27). -/
structure WorkItem where
  order : Nat
  copy : Nat
  step : Nat
  kind : ItemKind
deriving DecidableEq, Repr

/-- The phases of a visit (R21). -/
inductive VisitState where
  | loading
  | metering
  | exposing
  | returning
deriving DecidableEq, Repr

/-- One record of the zone table (R48). -/
inductive Zone where
  | ok (d : Nat)
  | over
  | failed
  | reread (d : Nat)
deriving DecidableEq, Repr

/-- A member of the visit with its back (R25, R26). -/
structure Member where
  order : Nat
  back : Back
deriving DecidableEq, Repr

/-- The gate visit record (R21), with its zone table (R48) and what is left of its metering phase (R50). -/
structure Visit where
  magazine : Nat
  position : Nat
  state : VisitState
  held : Bool
  release : Bool
  slide : Bool
  members : List Member
  lists : PerBack (List WorkItem)
  /-- The back's list has been dropped in this visit (R34, R153). -/
  dropped : PerBack Bool
  /-- The advance-owed flags (R33). -/
  owed : PerBack Bool
  /-- A metering phase is in progress: LAMP was raised and SCAN issued for it (R29). -/
  metering : Bool
  /-- The zones still to be re-read, the one outstanding first (R50). -/
  rereads : List Nat
  /-- Empty, or nine records in zone order (R48). -/
  zones : List Zone
deriving DecidableEq, Repr

/-- What held the visit last (R153). -/
inductive HoldCause where
  | stop
  | step
  | fault
deriving DecidableEq, Repr

/-- What became of a frame of the cut firing (R154). -/
inductive CutOutcome where
  | pending
  | exposed
  | spoiledTiming
  | spoiledLamp
  | cut
deriving DecidableEq, Repr

/-- One back's frame of a firing that has started, with what has become of it: what a resume record made before that
firing is complete shows of the back (R154). The serial of the firing is the model's own field (assumption 11). -/
structure CutShot where
  serial : Nat
  back : Back
  item : WorkItem
  rollId : Text
  position : Nat
  outcome : CutOutcome
deriving DecidableEq, Repr

/-- The resume record's own fields (R153, R154): the others follow the visit and are read from it. The firing-cut
flag is yes when the cut firing holds a frame. -/
structure Resume where
  cause : HoldCause
  cutFiring : List CutShot
deriving DecidableEq, Repr

/-- The engine states (R147). -/
inductive Engine where
  | stopped
  | running
  | stopping
  | faulted
  | resetting
deriving DecidableEq, Repr

/-- The stop in progress (R147). -/
inductive StopKind where
  | hold
  | release
deriving DecidableEq, Repr

/-- The stages of the LINK RESET cleanup (R164, R167). -/
inductive Stage where
  | lines
  | film
  | slide
  | visitClose
deriving DecidableEq, Repr

/-- The units a class A fault can name (R156). -/
inductive FaultUnit where
  | feeder
  | meter
  | backA
  | backB
  | printer
  | lamp
deriving DecidableEq, Repr

/-- The kinds of class A fault (R156). -/
inductive FaultKind where
  | lampFail
  | gateJam
  | countMismatch
  | unitTimeout
  | unitLost
deriving DecidableEq, Repr

/-- A class A fault record (R156). -/
structure FaultRec where
  kind : FaultKind
  unit : FaultUnit
  order : Option Nat
  back : Option Back
  position : Option Nat
  visit : Option VisitState
deriving DecidableEq, Repr

/-- The cleanup in progress: its stage, and the failed return of the slide once known (R164, R165). -/
structure Cleanup where
  stage : Stage
  failure : Option FaultRec
deriving DecidableEq, Repr

/-- The Gate Sequencer. Each back's part of its latest firing, and of every earlier one that was not complete as that one
started, stands in `fired`, the latest first (R154; assumption 11). -/
structure Gate where
  engine : Engine
  stopKind : Option StopKind
  stepMode : Bool
  cleanup : Option Cleanup
  visit : Option Visit
  resume : Option Resume
  fired : PerBack (List CutShot)
deriving DecidableEq, Repr

/-- The Exposure Calculator's tables (R42, R64): eight places of stocks, sixteen pattern entries. -/
structure Calc where
  stocks : List (Option StockEntry)
  patterns : List (Option Pattern)
deriving DecidableEq, Repr

/-! ## The Firing Timer (04) -/

/-- The clamp indication of a time (R62). -/
inductive Clamp where
  | none
  | short
  | long
deriving DecidableEq, Repr

/-- Shutter states of an included back (R69). -/
inductive Shutter where
  | open_
  | closed
  | cut
deriving DecidableEq, Repr

/-- The entry of an included back (R69). Its shutter's compare time is P + time (R70). -/
structure Shot where
  item : WorkItem
  time : Nat
  clamp : Clamp
  rollId : Text
  position : Nat
  shutter : Shutter
deriving DecidableEq, Repr

/-- The phases of a firing (R72). Sense seen is yes in LIT alone. -/
inductive FiringPhase where
  | opening
  | lampRising
  | lit
deriving DecidableEq, Repr

/-- The firing record (R69, R70). LAMP rises at P. -/
structure Firing where
  serial : Nat
  shots : PerBack (Option Shot)
  preOpen : Nat
  deadline : Nat
  lampFall : Nat
  phase : FiringPhase
  tolerance : Nat
deriving DecidableEq, Repr

/-- A frame that awaits its advance (R76). -/
structure FrameRec where
  serial : Nat
  rollId : Text
  position : Nat
  item : WorkItem
  time : Nat
  clamp : Clamp
  expected : Nat
  allowed : Nat
  /-- SPOILED with cause LAMP; otherwise PENDING. -/
  lampSpoiled : Bool
deriving DecidableEq, Repr

/-- The Firing Timer and the lines it drives and reads. -/
structure Timer where
  firing : Option Firing
  /-- The exposure timer: none when stopped, else the count of the last event taken at it. -/
  count : Option Nat
  frames : PerBack (Option FrameRec)
  serial : Nat
  lamp : Bool
  shutters : PerBack Bool
  lampSense : Bool
deriving DecidableEq, Repr

/-! ## Rolls (05) -/

/-- States of a roll map entry (R86). -/
inductive EntryState where
  | unused
  | exposed
  | spoiled
  | blank
  | fogged
deriving DecidableEq, Repr

/-- Spoil causes (R86). -/
inductive SpoilCause where
  | timing
  | lamp
deriving DecidableEq, Repr

/-- An entry of a roll map (R86). -/
structure MapEntry where
  state : EntryState
  /-- Order number, copy and step. -/
  item : Option (Nat × Nat × Nat)
  time : Option Nat
  measured : Option Nat
  clamp : Clamp
  redo : Bool
  unlabeled : Bool
  labelled : Bool
  cause : Option SpoilCause
deriving DecidableEq, Repr

/-- An entry not yet reached (R86). -/
def MapEntry.fresh : MapEntry :=
  { state := .unused, item := none, time := none, measured := none, clamp := .none, redo := false,
    unlabeled := false, labelled := false, cause := none }

/-- Leader modes (R85). -/
inductive LeaderMode where
  | auto
  | manual
deriving DecidableEq, Repr

/-- Back states (R85). -/
inductive BackState where
  | noBack
  | unloaded
  | leader
  | ready
  | suspect
  | closing
  | closed
  | lost
deriving DecidableEq, Repr

/-- Close causes (R85). -/
inductive CloseCause where
  | full
  | blanked
  | filmEnd
  | desk
  | suspect
  | lost
deriving DecidableEq, Repr

/-- The fields a roll record takes from LOAD ROLL, with the roll map (R85, R86). R85 marks only the roll id and the stock
code as absent before the first LOAD ROLL; that frames per roll, leader frames and leader mode then hold no value either is
the model's choice (assumption 5). -/
structure Film where
  rollId : Text
  stock : Nat
  frames : Nat
  leaderFrames : Nat
  leaderMode : LeaderMode
  map : List MapEntry
deriving DecidableEq, Repr

/-- The ROLL REPORT (R98). -/
structure RollReport where
  back : Back
  rollId : Text
  stock : Nat
  frames : Nat
  cause : CloseCause
  counter : Nat
  lastCount : Option Nat
  cut : Option Nat
  unused : Nat
  exposed : Nat
  spoiled : Nat
  blank : Nat
  fogged : Nat
  short : Nat
  long : Nat
  unlabeled : Nat
deriving DecidableEq, Repr

/-- Pass-through states (R182). -/
inductive PassThrough where
  | idle
  | inSequence
deriving DecidableEq, Repr

/-- The roll record of one back (R85), with its pass-through state (R183). -/
structure Roll where
  state : BackState
  film : Option Film
  leaderRemaining : Nat
  counter : Nat
  closeCause : Option CloseCause
  headerDone : Bool
  cut : Option Nat
  lastCount : Option Nat
  /-- The waiting ROLL REPORT with the moment of its composing; report waiting is yes when it is there. -/
  report : Option (Nat × RollReport)
  passThrough : PassThrough
deriving DecidableEq, Repr

/-! ## Mount labels (06) -/

/-- Conditions of SKIP IF (R114). -/
inductive SkipCond where
  | spoiled
  | timeClamped
  | offNominal
  | titleAbsent
  | courseAbsent
  | redo
deriving DecidableEq, Repr

/-- Template steps (R107). -/
inductive TStep where
  | putCatalog
  | putTitle
  | putCourse
  | putAccount
  | putOrder
  | putRoll
  | putFrame
  | putStep
  | putDate
  | putLiteral (n : Nat)
  | space (n : Nat)
  | nextLine
  | skipIf (c : SkipCond) (n : Nat)
  | continueAt (t : Nat)
  | omit_
  | end_
deriving DecidableEq, Repr

/-- A loaded template: its steps and its four literals (R107). -/
structure Template where
  steps : List TStep
  literals : List Text
deriving DecidableEq, Repr

/-- Kinds of label record (R121). -/
inductive LabelKind where
  | header
  | frame
  | sync
deriving DecidableEq, Repr

/-- A label record (R121). -/
structure LabelRec where
  kind : LabelKind
  back : Back
  rollId : Text
  position : Option Nat
  order : Option Nat
  lines : List Text
  truncated : Bool
  templateError : Bool
deriving DecidableEq, Repr

/-- Label policies (R122). -/
inductive LabelPolicy where
  | hold
  | skip
deriving DecidableEq, Repr

/-- The Label Composer. -/
structure Labels where
  templates : List (Option Template)
  queue : List LabelRec
  printing : Bool
  syncCounter : Nat
  labelWait : Bool
  noted : PerBack (Option LabelPolicy)
  truncated : Nat
  templateErrors : Nat
deriving DecidableEq, Repr

/-! ## Accounts (07) -/

/-- An account other than the house account (R129). `isOpen` no is SUSPENDED. -/
structure Account where
  number : Nat
  isOpen : Bool
  ceiling : Nat
  committed : Nat
  charged : Nat
  goodFrames : Nat
  settledOrders : Nat
deriving DecidableEq, Repr

/-- The house account's charged sum and waste tallies (R130). -/
structure House where
  charged : Nat
  blank : Nat
  spoiled : Nat
  cut : Nat
  fogged : Nat
  labels : Nat
deriving DecidableEq, Repr

/-- The Fee Table (R132). -/
structure Fees where
  order : Nat
  rush : Nat
  label : Nat
deriving DecidableEq, Repr

/-- The Charge Unit; accounts stand in ascending number. -/
structure Charge where
  house : House
  accounts : List Account
  fees : Fees
deriving DecidableEq, Repr

/-! ## The stand bus (09) -/

/-- Forms of ADVANCE (R88). -/
inductive AdvanceForm where
  | frame
  | leader
deriving DecidableEq, Repr

/-- What a PRINT carries (R124, R204). -/
structure PrintJob where
  kind : LabelKind
  truncated : Bool
  templateError : Bool
  lines : List Text
deriving DecidableEq, Repr

/-- The unit commands (R173). -/
inductive UnitCmd where
  | load (position : Nat)
  | ret
  | scan
  | spot (zone : Nat)
  | advance (form : AdvanceForm) (count : Nat)
  | readCount
  | testShutter (time : Nat)
  | print (job : PrintJob)
deriving DecidableEq, Repr

/-- The names of the unit commands (R168, R179). -/
inductive CmdName where
  | load
  | ret
  | scan
  | spot
  | advance
  | readCount
  | testShutter
  | print
deriving DecidableEq, Repr

/-- A command's name. -/
def UnitCmd.name : UnitCmd → CmdName
  | .load _ => .load
  | .ret => .ret
  | .scan => .scan
  | .spot _ => .spot
  | .advance _ _ => .advance
  | .readCount => .readCount
  | .testShutter _ => .testShutter
  | .print _ => .print

/-- Who issued a command, and so who takes its completion (R174). -/
inductive Issuer where
  /-- The open visit: LOAD, RETURN, SCAN, SPOT. -/
  | visit
  /-- A metering phase that LINK RESET cut (R164): its completion is not taken into a zone table. -/
  | cutPhase
  /-- The ADVANCE 1 after a firing. -/
  | firing
  /-- The AUTO leader advance. -/
  | leader
  /-- The blanking advance. -/
  | blanking
  /-- The READ COUNT of a RESYNC ROLL, with the tag its reply waits for; none after LINK RESET. -/
  | resync (reply : Option Byte)
  /-- A PRINT of the Label Composer. -/
  | label
  /-- A forwarded DIRECT frame, with the tag its reply waits for; none after LINK RESET. -/
  | direct (reply : Option Byte)
deriving DecidableEq, Repr

/-- A command issued to a slot. -/
structure Issued where
  cmd : UnitCmd
  issuer : Issuer
deriving DecidableEq, Repr

/-- The command a unit is carrying out (R168), with the timeout it was sent with, in ms (R175). -/
structure Outstanding where
  cmd : UnitCmd
  issuer : Issuer
  exchange : Nat
  timeout : Nat
deriving DecidableEq, Repr

/-- Slot states (R168). -/
inductive SlotState where
  | absent
  | present
  | disabled
deriving DecidableEq, Repr

/-- Poll kinds (R169). -/
inductive Poll where
  | presence
  | status
deriving DecidableEq, Repr

/-- Printer states (R168). -/
inductive PrinterState where
  | ready
  | out
deriving DecidableEq, Repr

/-- One unit slot (R168). An outstanding poll carries the slot's exchange number. -/
structure Slot where
  state : SlotState
  changed : Bool
  poll : Option Poll
  outstanding : Option Outstanding
  waiting : List Issued
  exchange : Nat
  magazine : Option Nat
  printer : Option PrinterState
deriving DecidableEq, Repr

/-- The Stand Bus Master: five slots and the poll period that is running, in ms (R168, R169). -/
structure Bus where
  feeder : Slot
  meter : Slot
  backA : Slot
  backB : Slot
  printer : Slot
  period : Nat
deriving DecidableEq, Repr

/-! ## Settings (11) -/

/-- A job date (R196). -/
structure Date where
  year : Nat
  month : Nat
  day : Nat
deriving DecidableEq, Repr

/-- The Stand Settings record (R196), its items in their order. -/
structure Settings where
  tref : Nat
  calibration : Int
  floor : Nat
  ceiling : Nat
  preOpen : Nat
  lampRise : Nat
  tolerance : Nat
  reshootLimit : Nat
  leaderFrames : Nat
  leaderMode : LeaderMode
  passThrough : Bool
  merge : Bool
  labelPolicy : LabelPolicy
  syncExponent : Nat
  jobDate : Option Date
  pollPeriod : Nat
  feederTimeout : Nat
  meterTimeout : Nat
  backTimeout : Nat
  printerTimeout : Nat
  noticeMask : EventSet
deriving DecidableEq, Repr

/-! ## Events (10) -/

/-- The event flags, in the order of their bits (R188, R201). -/
inductive EventFlag where
  | fault
  | deferred
  | orderFault
  | trap
  | stockWanted
  | magazineWanted
  | unitChange
  | rollClosed
  | labelHold
  | printerOut
  | engineStopped
  | passEnd
deriving DecidableEq, Repr

/-- The three trap flags (R179). -/
structure Traps where
  film : Bool
  shutter : Bool
  busy : Bool
deriving DecidableEq, Repr

/-- The Fault and Event Register. -/
structure Events where
  flags : EventSet
  risen : EventSet
  current : Option FaultRec
  pendingFault : Option FaultRec
  traps : Traps
  lastTrap : Option (UnitSlot × CmdName)
deriving DecidableEq, Repr

/-! ## What the 740 sends (10) -/

/-- What READ STATUS carries for one roll (R104, R183). -/
structure RollStatus where
  state : BackState
  rollId : Option Text
  stock : Option Nat
  counter : Nat
  free : Option Nat
  leaderRemaining : Nat
  reportWaiting : Bool
  commandOutstanding : Bool
  passThrough : PassThrough
deriving DecidableEq, Repr

/-- What READ STATUS carries for one slot (R168). -/
structure SlotStatus where
  state : SlotState
  changed : Bool
  command : Option CmdName
  waiting : Nat
  magazine : Option Nat
  printer : Option PrinterState
deriving DecidableEq, Repr

/-- What READ STATUS carries of the labels (R121). -/
structure LabelStatus where
  policy : LabelPolicy
  held : Nat
  free : Nat
  printOutstanding : Bool
  labelWait : Bool
  syncCounter : Nat
  /-- The sync interval; none when it is off. -/
  interval : Option Nat
  truncated : Nat
  templateErrors : Nat
deriving DecidableEq, Repr

/-- The content of READ STATUS (R194). -/
structure Status where
  engine : Engine
  stopKind : Option StopKind
  stepMode : Bool
  stage : Option Stage
  current : Option FaultRec
  pendingFault : Option FaultRec
  flags : EventSet
  risen : EventSet
  mask : EventSet
  traps : Traps
  lastTrap : Option (UnitSlot × CmdName)
  visit : Option Visit
  firing : Option Firing
  frames : PerBack (Option FrameRec)
  rolls : PerBack RollStatus
  queued : Nat
  active : Nat
  ending : Nat
  endingList : Nat
  wantedStock : List Nat
  wantedMagazine : List Nat
  labels : LabelStatus
  /-- In the order FEEDER, METER, BACK A, BACK B, PRINTER. -/
  units : List SlotStatus
  bufferFrames : Nat
  repliesHeld : Nat
  reservations : Nat
  noticeHeld : Bool
  reportsHeld : Nat
  controllerReady : Bool
  deskReady : Bool
deriving DecidableEq, Repr

/-- The commands a held visit will send when it goes on (R153). -/
inductive PendingCmd where
  | load
  | scan
  | ret
  | none
deriving DecidableEq, Repr

/-- One back's fields of the resume record (R153). -/
structure ResumeBack where
  head : Option WorkItem
  items : Nat
  dropped : Bool
  owed : Bool
deriving DecidableEq, Repr

/-- The resume record as READ RESUME carries it (R153 to R155). -/
structure ResumeView where
  magazine : Nat
  position : Nat
  state : VisitState
  cause : HoldCause
  slide : Bool
  pending : PendingCmd
  backs : PerBack ResumeBack
  firingCut : Bool
  cutFiring : List CutShot
  engine : Engine
deriving DecidableEq, Repr

/-- The fields of an order that a clamp changed (R6). -/
structure OrderClamps where
  fixedDensity : Bool
  correction : Bool
  catalog : Bool
  title : Bool
  course : Bool
deriving DecidableEq, Repr

/-- The use of a stock code, as READ ENTRY carries it (R46): for each back whether its roll carries the code, and its
roll's state. -/
structure StockUse where
  carries : PerBack Bool
  states : PerBack BackState
  orders : Nat
  wanted : Bool
deriving DecidableEq, Repr

/-- The data of a reply (R187), by the answering rule. -/
inductive ReplyData where
  | none
  /-- ACCEPTED: order number, reservation, headroom, clamped fields (R5, R136). -/
  | accepted (number reservation headroom : Nat) (clamps : OrderClamps)
  /-- OVER-CEILING: reservation and headroom (R136). -/
  | overCeiling (reservation headroom : Nat)
  /-- The engine state, with the stop kind where the rule gives it (R148 to R150, R160). -/
  | engine (state : Engine) (stop : Option StopKind)
  /-- STEP ON and STEP OFF (R152). -/
  | step (mode : Bool) (state : Engine)
  /-- CLEAR FAULT with a promoted fault (R160). -/
  | promoted (state : Engine) (fault : FaultRec)
  | resume (view : ResumeView)
  | status (s : Status)
  /-- A set of flags or a mask, before and after (R190, R191). -/
  | sets (before after : EventSet)
  | traps (t : Traps) (last : Option (UnitSlot × CmdName))
  /-- The whole settings record, and the numbers of the clamped items (R197, R198). -/
  | settings (items : List SettingItem) (clamped : List Nat)
  | stockEntry (e : StockEntry) (use : StockUse)
  | patternEntry (p : Pattern)
  | templateEntry (t : Template) (orders : Nat)
  /-- The codes or numbers present, in the order the rule gives, with their count (R46, R67, R110, R141). -/
  | keys (l : List Nat)
  | fee (value : Nat)
  /-- A fee's former and new value (R133). -/
  | feeChange (before after : Nat)
  | fees (f : Fees)
  | backState (s : BackState)
  | rollLoaded (s : BackState) (frames : Nat)
  | resynced (count : Nat) (s : BackState)
  | count (c : Nat)
  | rollMap (back : Back) (r : Roll) (first : Option Nat) (entries : List MapEntry)
  | cancelled (s : OrderState) (requested : Bool)
  | order (o : Order)
  | discarded (n : Nat) (printing : Bool)
  | accountCeiling (number ceiling : Nat)
  | account (a : Account) (headroom orders : Nat)
  | house (h : House) (orders : Nat)
  | ceilingSet (number ceiling headroom : Nat)
  | ceilingLow (number least : Nat)
  | accountState (number : Nat) (isOpen : Bool)
  | credited (number taken charged : Nat)
  /-- CLEAR CHARGED and DELETE ACCOUNT: charged sum and totals as they stood (R145, R146); the totals of the house
  account are 0 (R130). -/
  | closedBooks (number charged goodFrames settledOrders : Nat)
  /-- An account command's refusal carries the account number (07, 7.6). -/
  | accountNumber (number : Nat)
  /-- The completion of a forwarded DIRECT command (R180). -/
  | unitResult (r : DirectResult)
  /-- The completion of a pass-through ADVANCE (R183). -/
  | passThrough (r : AdvanceResult) (count leaderRemaining : Nat) (s : BackState)
deriving DecidableEq, Repr

/-- The results of a reply (R187). -/
inductive Result where
  | accepted
  | ok
  | clamped
  | refused (r : Reason)
  | trapped (r : Reason)
  | absent
  | unknownClass
deriving DecidableEq, Repr

/-- A reply (R187): the class and tag it answers, the command named (0 for ORDER and for an unknown class, R201),
the result and the data. -/
structure Reply where
  cls : Byte
  tag : Byte
  command : Nat
  result : Result
  data : ReplyData
deriving DecidableEq, Repr

/-- A report of the report queue (R192). -/
inductive Report where
  | order (r : OrderReport)
  | roll (r : RollReport)
deriving DecidableEq, Repr

/-- An upstream frame (R193); a NOTICE carries the risen set and the flags as sending begins (R189). -/
inductive Upstream where
  | reply (r : Reply)
  | notice (risen flags : EventSet)
  | report (r : Report)
deriving DecidableEq, Repr

/-- The receiver (R184): what it has taken of the frame it is assembling. -/
inductive Receiver where
  | hunt
  | cls
  | tag (c : Byte)
  | length (c t : Byte)
  /-- The length, and the payload and check bytes in so far, in order. -/
  | body (c t : Byte) (len : Nat) (got : List Byte)
deriving DecidableEq, Repr

/-- The Desk Link Interface. -/
structure Link where
  receiver : Receiver
  buffer : List Frame
  replies : List Reply
  reserved : Nat
  notice : Bool
  reports : List Report
  deskReady : Bool
  sending : Option Upstream
  /-- Stamps reports with the moment they are composed (R192). -/
  clock : Nat
deriving DecidableEq, Repr

/-! ## The whole -/

/-- The state of the 740, and the queue of the commands that are waiting. -/
structure State where
  pending : List Instr
  link : Link
  events : Events
  queue : Queue
  gate : Gate
  tables : Calc
  timer : Timer
  rolls : PerBack Roll
  labels : Labels
  charge : Charge
  bus : Bus
  settings : Settings
deriving DecidableEq, Repr

namespace State

/-! ## After power-on -/

/-- R184, R185, R187, R189, R192, R193, R195; desk-ready by assumption 4. -/
def resetLink : Link :=
  { receiver := .hunt, buffer := [], replies := [], reserved := 0, notice := false, reports := [], deskReady := false,
    sending := none, clock := 0 }

/-- R156, R179, R188. -/
def resetEvents : Events :=
  { flags := 0#12, risen := 0#12, current := none, pendingFault := none,
    traps := { film := false, shutter := false, busy := false }, lastTrap := none }

/-- R20. -/
def resetQueue : Queue :=
  { orders := [], ending := [], nextNumber := 1, wantedStock := [], wantedMagazine := [] }

/-- R21, R147, R153. -/
def resetGate : Gate :=
  { engine := .stopped, stopKind := none, stepMode := false, cleanup := none, visit := none, resume := none,
    fired := ⟨[], []⟩ }

/-- Pattern entry 0 (R64). -/
def patternZero : Pattern := { offsets := [0], nominal := 1 }

/-- R42, R64. -/
def resetCalc : Calc :=
  { stocks := List.replicate 8 none, patterns := some patternZero :: List.replicate 15 none }

/-- R69, R71, R76; LAMP SENSE by assumption 4. -/
def resetTimer : Timer :=
  { firing := none, count := none, frames := ⟨none, none⟩, serial := 0, lamp := false, shutters := ⟨false, false⟩,
    lampSense := false }

/-- R85, R183; frames per roll, leader frames, leader mode, the counter, leader remaining and close cause by
assumption 5. -/
def resetRoll : Roll :=
  { state := .noBack, film := none, leaderRemaining := 0, counter := 1, closeCause := none, headerDone := false,
    cut := none, lastCount := none, report := none, passThrough := .idle }

/-- R107, R128. -/
def resetLabels : Labels :=
  { templates := List.replicate 8 none, queue := [], printing := false, syncCounter := 0, labelWait := false,
    noted := ⟨none, none⟩, truncated := 0, templateErrors := 0 }

/-- R131, R132. -/
def resetCharge : Charge :=
  { house := { charged := 0, blank := 0, spoiled := 0, cut := 0, fogged := 0, labels := 0 }, accounts := [],
    fees := { order := 0, rush := 0, label := 0 } }

/-- R168. -/
def resetSlot : Slot :=
  { state := .absent, changed := false, poll := none, outstanding := none, waiting := [], exchange := 0,
    magazine := none, printer := none }

/-- R168; the first expiry comes at power-on (R169), so no period runs before it (assumption 24). -/
def resetBus : Bus :=
  { feeder := resetSlot, meter := resetSlot, backA := resetSlot, backB := resetSlot, printer := resetSlot, period := 0 }

/-- The defaults of R196; the notice mask enables FAULT, TRAP and ENGINE-STOPPED (bits 0, 3 and 10). -/
def defaultSettings : Settings :=
  { tref := 4000, calibration := 0, floor := 20, ceiling := 200000, preOpen := 500, lampRise := 100, tolerance := 5,
    reshootLimit := 2, leaderFrames := 2, leaderMode := .auto, passThrough := false, merge := true,
    labelPolicy := .hold, syncExponent := 4, jobDate := none, pollPeriod := 500, feederTimeout := 6000,
    meterTimeout := 1500, backTimeout := 1200, printerTimeout := 4000, noticeMask := 0x409#12 }

/-- The 740 right after power-on, with no command waiting. -/
def reset : State :=
  { pending := [], link := resetLink, events := resetEvents, queue := resetQueue, gate := resetGate,
    tables := resetCalc, timer := resetTimer, rolls := ⟨resetRoll, resetRoll⟩, labels := resetLabels,
    charge := resetCharge, bus := resetBus, settings := defaultSettings }

end State

end Sys2Proof.Machine
end

