-- ==== Sys2Proof/Machine/Ops.lean ====
section
/-!
DEFINITION. The operations every block uses: replacing one part of the state, the event flags (R188, R189), the
slots of the stand bus and the sending of a command (R173, R175), the records of orders and rolls, and the tail of
the reply queue (R187). The lemmas of each stand in Sys2Proof/Laws/State.lean and Sys2Proof/Laws/Ops.lean.
-/

namespace Sys2Proof.Machine

namespace State

/-! ## One part replaced -/

def setPending (s : State) (p : List Instr) : State := { s with pending := p }
def setLink (s : State) (l : Link) : State := { s with link := l }
def setEvents (s : State) (e : Events) : State := { s with events := e }
def setQueue (s : State) (q : Queue) : State := { s with queue := q }
def setGate (s : State) (g : Gate) : State := { s with gate := g }
def setTables (s : State) (c : Calc) : State := { s with tables := c }
def setTimer (s : State) (t : Timer) : State := { s with timer := t }
def setRolls (s : State) (r : PerBack Roll) : State := { s with rolls := r }
def setLabels (s : State) (l : Labels) : State := { s with labels := l }
def setCharge (s : State) (c : Charge) : State := { s with charge := c }
def setBus (s : State) (b : Bus) : State := { s with bus := b }
def setSettings (s : State) (x : Settings) : State := { s with settings := x }

end State

/-! ## The transmitter (R193) -/

/-- The transmitter is idle and desk-ready is active. -/
def Link.mayBegin (l : Link) : Bool := l.sending.isNone && l.deskReady

/-- The NOTICE takes its content and the risen set is emptied (R189). -/
def sendNotice (s : State) : State :=
  (s.setLink { s.link with notice := false, sending := some (.notice s.events.risen s.events.flags) }).setEvents
    { s.events with risen := 0#12 }

/-- The arbiter's choice: with the transmitter idle and desk-ready active it begins to send the head of the reply queue,
else the NOTICE, else the head of the report queue; what it chooses leaves its queue or slot (R193). Each item's entry into
a queue or the slot is an event of the choice: `raise`, `addReply` and `enterReport` end with it. -/
def arbiter (s : State) : State :=
  if !s.link.mayBegin then s
  else
    match s.link.replies, s.link.notice, s.link.reports with
    | r :: rest, _, _ => s.setLink { s.link with replies := rest, sending := some (.reply r) }
    | [], true, _ => sendNotice s
    | [], false, r :: rest => s.setLink { s.link with reports := rest, sending := some (.report r) }
    | [], false, [] => s

/-! ## Event flags (R188, R189, R201) -/

/-- The bit of a flag in the NOTICE and in the notice mask (R201). -/
def EventFlag.index : EventFlag → Nat
  | .fault => 0
  | .deferred => 1
  | .orderFault => 2
  | .trap => 3
  | .stockWanted => 4
  | .magazineWanted => 5
  | .unitChange => 6
  | .rollClosed => 7
  | .labelHold => 8
  | .printerOut => 9
  | .engineStopped => 10
  | .passEnd => 11

/-- The set that holds one flag. -/
def EventFlag.bit (f : EventFlag) : EventSet := BitVec.twoPow 12 f.index

/-- Whether a set holds a flag. -/
def hasFlag (set : EventSet) (f : EventFlag) : Bool := set.getLsbD f.index

/-- A raising: the flag becomes set and joins the risen set (R188 steps 1 and 2). -/
def Events.raise (e : Events) (f : EventFlag) : Events :=
  { e with flags := e.flags ||| f.bit, risen := e.risen ||| f.bit }

/-- The notice slot is filled: an empty slot takes a NOTICE and the arbiter is asked to send; into an unsent NOTICE the
raising is merged (R189). -/
def fillNotice (s : State) : State :=
  if s.link.notice then s else arbiter (s.setLink { s.link with notice := true })

/-- Raise a flag; with its mask bit enabled the notice slot is filled (R188). -/
def raise (f : EventFlag) (s : State) : State :=
  let s1 := s.setEvents (s.events.raise f)
  if hasFlag s.settings.noticeMask f then fillNotice s1 else s1

/-! ## Orders -/

/-- The order record with a number. -/
def State.order? (s : State) (n : Nat) : Option Order := s.queue.orders.find? (fun o => o.number == n)

/-- Change the record with a number. -/
def updOrder (n : Nat) (f : Order → Order) (s : State) : State :=
  s.setQueue { s.queue with orders := s.queue.orders.map (fun o => if o.number = n then f o else o) }

/-- The number of orders in the queue for which a condition holds. -/
def State.countOrders (s : State) (p : Order → Bool) : Nat := (s.queue.orders.filter p).length

/-! ## Rolls -/

def State.roll (s : State) (k : Back) : Roll := s.rolls.get k
def State.setRoll (s : State) (k : Back) (r : Roll) : State := s.setRolls (s.rolls.set k r)
def updRoll (k : Back) (f : Roll → Roll) (s : State) : State := s.setRoll k (f (s.roll k))

/-- Frames per roll; 0 when no roll was ever loaded. -/
def Roll.frames (r : Roll) : Nat := (r.film.map (fun f => f.frames)).getD 0

/-- Free positions: frames per roll + 1 less the frame counter (R26, R85). -/
def Roll.free (r : Roll) : Nat := r.frames + 1 - r.counter

/-- The stock code of the roll record. -/
def Roll.stock? (r : Roll) : Option Nat := r.film.map (fun f => f.stock)

/-- The roll id of the roll record; empty when no roll was ever loaded. -/
def Roll.id (r : Roll) : Text := (r.film.map (fun f => f.rollId)).getD []

/-- A back whose roll is READY and carries a stock (R23). -/
def Roll.readyFor (r : Roll) (stock : Nat) : Bool := r.state == .ready && r.stock? == some stock

/-- A roll in LEADER, READY, SUSPECT or CLOSING (R45, R101). -/
def BackState.onFilm : BackState → Bool
  | .leader => true
  | .ready => true
  | .suspect => true
  | .closing => true
  | .noBack => false
  | .unloaded => false
  | .closed => false
  | .lost => false

/-- Change the roll map entry at a position (from 1). -/
def writeEntry (p : Nat) (e : MapEntry → MapEntry) (r : Roll) : Roll :=
  { r with film := r.film.map (fun f => { f with map := f.map.modify (p - 1) e }) }

/-- The roll map entry at a position (from 1). -/
def Roll.entry? (r : Roll) (p : Nat) : Option MapEntry :=
  if p = 0 then none else r.film.bind (fun f => f.map[p - 1]?)

/-! ## The visit -/

/-- Change the open visit, when there is one. -/
def updVisit (f : Visit → Visit) (s : State) : State := s.setGate { s.gate with visit := s.gate.visit.map f }

/-- The label-wait flag (R123). -/
def setLabelWait (w : Bool) (s : State) : State := s.setLabels { s.labels with labelWait := w }

/-! ## The stand bus -/

def Bus.get (b : Bus) : UnitSlot → Slot
  | .feeder => b.feeder
  | .meter => b.meter
  | .backA => b.backA
  | .backB => b.backB
  | .printer => b.printer

def Bus.set (b : Bus) (u : UnitSlot) (x : Slot) : Bus :=
  match u with
  | .feeder => { b with feeder := x }
  | .meter => { b with meter := x }
  | .backA => { b with backA := x }
  | .backB => { b with backB := x }
  | .printer => { b with printer := x }

def State.slot (s : State) (u : UnitSlot) : Slot := s.bus.get u
def State.setSlot (s : State) (u : UnitSlot) (x : Slot) : State := s.setBus (s.bus.set u x)
def updSlot (u : UnitSlot) (f : Slot → Slot) (s : State) : State := s.setSlot u (f (s.slot u))

/-- The slot of a unit is PRESENT. -/
def State.present (s : State) (u : UnitSlot) : Bool := (s.slot u).state == .present

/-- The timeout of the unit kind (R175). -/
def unitTimeout (x : Settings) : UnitSlot → Nat
  | .feeder => x.feederTimeout
  | .meter => x.meterTimeout
  | .backA => x.backTimeout
  | .backB => x.backTimeout
  | .printer => x.printerTimeout

/-- What a command adds to the timeout: for TEST SHUTTER its time in whole ms, rounded up (R175). -/
def UnitCmd.extraTimeout : UnitCmd → Nat
  | .testShutter t => (t + 9) / 10
  | .load _ => 0
  | .ret => 0
  | .scan => 0
  | .spot _ => 0
  | .advance _ _ => 0
  | .readCount => 0
  | .print _ => 0

/-- The next exchange number, wrapping from 255 to 0 (R169, R173). -/
def nextExchange (x : Nat) : Nat := (x + 1) % 256

/-- Send a command on a slot: the exchange number rises, an outstanding poll is withdrawn, the timeout starts
(R169, R173, R175). -/
def sendCommand (u : UnitSlot) (c : Issued) (s : State) : State :=
  let x := s.slot u
  s.setSlot u { x with
    exchange := nextExchange x.exchange
    poll := none
    outstanding := some {
      cmd := c.cmd
      issuer := c.issuer
      exchange := nextExchange x.exchange
      timeout := unitTimeout s.settings u + c.cmd.extraTimeout } }

/-- Issue a command to a slot: sent at once when no command is outstanding and none waits, otherwise it joins the
tail of the waiting commands (R173). -/
def issue (u : UnitSlot) (cmd : UnitCmd) (issuer : Issuer) (s : State) : State :=
  let x := s.slot u
  if x.outstanding.isNone && x.waiting.isEmpty then sendCommand u { cmd := cmd, issuer := issuer } s
  else s.setSlot u { x with waiting := x.waiting ++ [{ cmd := cmd, issuer := issuer }] }

/-- Send the head waiting command, when no command is outstanding (R173, R174). -/
def sendNext (u : UnitSlot) (s : State) : State :=
  let x := s.slot u
  match x.outstanding, x.waiting with
  | none, c :: rest => sendCommand u c (s.setSlot u { x with waiting := rest })
  | _, _ => s

/-- The outstanding command is resolved (R174). -/
def clearOutstanding (u : UnitSlot) (s : State) : State := updSlot u (fun x => { x with outstanding := none }) s

/-- The issuers of a slot's commands: the outstanding one first, then the waiting ones. -/
def Slot.issuers (x : Slot) : List Issuer := x.outstanding.toList.map (fun o => o.issuer) ++ x.waiting.map (fun c => c.issuer)

/-- A command of the open visit is outstanding or waiting on a slot (R21 note 1). -/
def State.visitCommand (s : State) (u : UnitSlot) : Bool := (s.slot u).issuers.contains .visit

/-- A forwarded DIRECT frame is outstanding or waiting on a slot (R177). -/
def Slot.hasDirect (x : Slot) : Bool :=
  x.issuers.any (fun i => match i with | .direct _ => true | _ => false)

/-- The magazine the feeder slot records as loaded (R14, R168). -/
def State.magazine (s : State) : Option Nat := s.bus.feeder.magazine

/-! ## Replies (R187) -/

/-- A reply joins the tail of the reply queue, and the arbiter chooses (R187, R193). -/
def addReply (r : Reply) (s : State) : State := arbiter (s.setLink { s.link with replies := s.link.replies ++ [r] })

/-- The reply to a MANAGE frame: the command byte (R202), the result and its data. -/
def answer (tag : Byte) (command : Nat) (result : Result) (data : ReplyData) (s : State) : State :=
  addReply { cls := 3#8, tag := tag, command := command, result := result, data := data } s

/-- A reply to a deferred frame: its reservation becomes the entry (R187). After LINK RESET there is no tag to
answer, and nothing is sent (R176). -/
def answerDeferred (cls : Byte) (tag : Option Byte) (command : Nat) (result : Result) (data : ReplyData)
    (s : State) : State :=
  match tag with
  | none => s
  | some t =>
    addReply { cls := cls, tag := t, command := command, result := result, data := data }
      (s.setLink { s.link with reserved := s.link.reserved - 1 })

end Sys2Proof.Machine
end

