-- ==== Sys2Proof/Machine/Exposure.lean ====
section
/-!
DEFINITION. Metering and exposure arithmetic: zone records (R48 to R51), effective density (R54) and exposure time
(R57 to R62). Lean's division of an integer by a positive number is the floor the spec asks for.
-/

namespace Sys2Proof.Machine

/-- A reading of the scan taken into its zone record (R49). -/
def scanZone : Reading → Zone
  | .density d => if d ≤ 400 then .ok d else .over
  | .over => .over
  | .fail => .failed

/-- A re-read taken into its zone record (R51). -/
def rereadZone : Reading → Zone
  | .density d => if d ≤ 400 then .reread d else .over
  | .over => .over
  | .fail => .failed

/-- The zone table a SCAN completion fills (R49). -/
def scanZones : ScanResult → List Zone
  | .ok readings => readings.map scanZone
  | .fail => List.replicate 9 .failed

/-- The value of a valid zone; OVER counts as 400 (R48, R54). -/
def Zone.value? : Zone → Option Nat
  | .ok d => some d
  | .over => some 400
  | .failed => none
  | .reread d => some d

def Zone.isFailed (z : Zone) : Bool := z == .failed

/-- The count of FAILED zones (R49, R52). -/
def failedCount (zones : List Zone) : Nat := (zones.filter Zone.isFailed).length

/-- The numbers of the FAILED zones, ascending (R50). -/
def failedZones (zones : List Zone) : List Nat :=
  ((zones.zipIdx 1).filter (fun z => z.1.isFailed)).map (fun z => z.2)

/-- The zones to be re-read: one SPOT for each FAILED zone when they number 1 to 3 (R50). -/
def rereadsOf (zones : List Zone) : List Nat := if failedCount zones ≤ 3 then failedZones zones else []

/-- The values of the valid zones. -/
def validValues (zones : List Zone) : List Nat := zones.filterMap Zone.value?

/-- The mean of the valid zones, rounded half up (R54, AVERAGE); none without a valid zone. -/
def averageDensity (zones : List Zone) : Option Nat :=
  let vs := validValues zones
  if vs.isEmpty then none else some ((vs.sum + vs.length / 2) / vs.length)

/-- The value of zone 5, when it is valid. -/
def centreValue (zones : List Zone) : Option Nat := (zones[4]?).bind Zone.value?

/-- The mean with the centre counted as four zones (R54, CENTRE). -/
def centreDensity (zones : List Zone) : Option Nat :=
  match centreValue zones with
  | none => averageDensity zones
  | some v5 =>
    let others := validValues (zones.eraseIdx 4)
    let w := 4 + others.length
    some ((4 * v5 + others.sum + w / 2) / w)

/-- The effective density of an order from the zone table (R54). The rules before it (R4, R52) leave no case
without a value; such a case would take the free value of Config (12). -/
def effectiveDensity (o : Order) (zones : List Zone) : Nat :=
  let d :=
    match o.mode with
    | .average => averageDensity zones
    | .centre => centreDensity zones
    | .spot => centreValue zones
    | .fixed => o.fixedDensity
  d.getD (Config.unstatedDensity o.number)

/-- A member takes METER-FAIL (R52). -/
def meterFails (mode : MeterMode) (zones : List Zone) : Bool :=
  mode != .fixed && (decide (5 ≤ failedCount zones) || (mode == .spot && (centreValue zones).isNone))

/-- Ed: the density in tenths of a stop (R57). -/
def densityStops (de : Nat) : Int := ((de : Int) + 1) / 3

/-- X: the raw exposure index (R57). -/
def rawIndex (de : Nat) (speed offset correction calibration : Int) : Int :=
  densityStops de - speed + offset + correction + calibration

/-- X′: the index after reciprocity correction (R58). -/
def correctedIndex (x knee : Int) (slope : Nat) : Int := if knee < x then x + (x - knee) * slope / 100 else x

/-- The mantissas of R60. -/
def mantissas : List Nat := [1000, 1072, 1149, 1231, 1320, 1414, 1516, 1625, 1741, 1866]

/-- The base time of a fraction of a stop (R60). -/
def baseTime (tref f : Nat) : Nat := (tref * mantissas.getD f 0 + 500) / 1000

/-- The unclamped time of an index (R59, R61); none when it is not formed. -/
def unclampedTime (tref : Nat) (x : Int) : Option Nat :=
  let q := x / 10
  let base := baseTime tref (x - 10 * q).toNat
  if 7 < q then none
  else if 0 ≤ q then some (base * 2 ^ q.toNat)
  else if -16 ≤ q then some ((base + 2 ^ ((-q).toNat - 1)) / 2 ^ (-q).toNat)
  else some 0

/-- The time used and its indication (R62). -/
def clampTime (floor ceiling : Nat) : Option Nat → Nat × Clamp
  | none => (ceiling, .long)
  | some t => if t < floor then (floor, .short) else if ceiling < t then (ceiling, .long) else (t, .none)

/-- The exposure time of an item: from its density, its stock, its offset, its correction and the settings
(R56 to R62). -/
def exposureTime (x : Settings) (stock : StockEntry) (de : Nat) (offset correction : Int) : Nat × Clamp :=
  clampTime x.floor x.ceiling
    (unclampedTime x.tref
      (correctedIndex (rawIndex de stock.speed offset correction x.calibration) stock.knee stock.slope))

/-- The Stock Table entry of a code (R42). -/
def State.stock? (s : State) (code : Nat) : Option StockEntry :=
  (s.tables.stocks.filterMap id).find? (fun e => e.code == code)

/-- The Stock Table entry of the stock a back's roll carries. -/
def State.rollStock (s : State) (k : Back) : StockEntry :=
  let code := ((s.roll k).stock?).getD 0
  (s.stock? code).getD (Config.unstatedStock code)

/-- The offset of a step in an order's pattern snapshot. -/
def Order.offset (o : Order) (step : Nat) : Int :=
  if step = 0 then Config.unstatedOffset o.number step
  else (o.pattern.offsets[step - 1]?).getD (Config.unstatedOffset o.number step)

/-- The exposure time of a step of an order on a back (R56). -/
def itemTime (s : State) (k : Back) (o : Order) (step : Nat) : Nat × Clamp :=
  exposureTime s.settings (s.rollStock k) (o.density.getD (Config.unstatedDensity o.number)) (o.offset step) o.correction

end Sys2Proof.Machine
end

