-- ==== Sys2Proof/Machine/Charges.lean ====
section
/-!
DEFINITION. The Charge Unit's shared operations: house charges (R130, R138, R139), the reservation (R135, R136) and
settlement (R137).
-/

namespace Sys2Proof.Machine

/-- A sum held at the top of its range (R129, R130). -/
def satAdd (top a n : Nat) : Nat := min top (a + n)

/-- The kinds of frame waste with a tally of their own (R130). -/
inductive Waste where
  | blank
  | spoiled
  | cut
  | fogged
deriving DecidableEq, Repr

/-- One house charge: the sum rises by the amount and the tally by the number of frames (R130). -/
def House.waste (h : House) (w : Waste) (amount n : Nat) : House :=
  let h1 := { h with charged := satAdd Config.maxSum h.charged amount }
  match w with
  | .blank => { h1 with blank := satAdd Config.maxCount h.blank n }
  | .spoiled => { h1 with spoiled := satAdd Config.maxCount h.spoiled n }
  | .cut => { h1 with cut := satAdd Config.maxCount h.cut n }
  | .fogged => { h1 with fogged := satAdd Config.maxCount h.fogged n }

/-- The frame price of the stock a back's roll carries; 0 when its code is not in the Stock Table (R138). -/
def State.framePrice (s : State) (k : Back) : Nat :=
  (((s.roll k).stock?).bind s.stock?).elim 0 (fun e => e.price)

/-- Charge the house account for wasted frames of a back's roll (R138). -/
def chargeFrames (w : Waste) (k : Back) (n : Nat) (s : State) : State :=
  s.setCharge { s.charge with house := s.charge.house.waste w (n * s.framePrice k) n }

/-- Charge the house account the LABEL FEE for one label (R139). -/
def chargeLabel (s : State) : State :=
  let h := s.charge.house
  s.setCharge { s.charge with
    house := { h with charged := satAdd Config.maxSum h.charged s.charge.fees.label
                      labels := satAdd Config.maxCount h.labels 1 } }

/-- The account with a number, other than house. -/
def Charge.account? (c : Charge) (n : Nat) : Option Account := c.accounts.find? (fun a => a.number == n)

/-- Change the account with a number. -/
def updAccount (n : Nat) (f : Account → Account) (s : State) : State :=
  s.setCharge { s.charge with accounts := s.charge.accounts.map (fun a => if a.number = n then f a else a) }

/-- Ceiling less committed less charged (R129). -/
def Account.headroom (a : Account) : Nat := a.ceiling - a.committed - a.charged

/-- An account in its place, in ascending number. -/
def insertAccount (a : Account) : List Account → List Account
  | [] => [a]
  | b :: rest => if a.number < b.number then a :: b :: rest else b :: insertAccount a rest

/-- The reservation of an order: the most it can cost (R135). -/
def reservation (p : Prices) (rush labelled : Bool) (copies steps : Nat) : Nat :=
  p.orderFee + (if rush then p.rushFee else 0) + copies * steps * p.frame +
    (if labelled then copies * steps * p.labelFee else 0)

/-- Check 8 of R4: the exact sum does not exceed the ceiling (R136). -/
def Account.allows (a : Account) (amount : Nat) : Bool := decide (a.committed + a.charged + amount ≤ a.ceiling)

/-- The settled amount of an order (R137). -/
def settledAmount (o : Order) : Nat :=
  o.prices.orderFee + (if o.rush then o.prices.rushFee else 0) + o.goodFrames * o.prices.frame +
    o.goodLabels * o.prices.labelFee

/-- The account's part of a settlement, in its four steps (R137). -/
def Account.settle (a : Account) (o : Order) : Account :=
  { a with
    charged := a.charged + settledAmount o
    committed := a.committed - o.held
    goodFrames := satAdd Config.maxSum a.goodFrames o.goodFrames
    settledOrders := satAdd Config.maxCount a.settledOrders 1 }

/-- Settle an order: its account is charged, its reservation released, the amount kept with the record (R137). -/
def settleOrder (n : Nat) (s : State) : State :=
  match s.order? n with
  | none => s
  | some o =>
    updOrder n (fun x => { x with held := 0, settled := some (settledAmount o) })
      (updAccount o.account (fun a => a.settle o) s)

end Sys2Proof.Machine
end

