-- ==== Sys2Proof/Machine/Reports.lean ====
section
/-!
DEFINITION. The report queue: what is offered to it, and its taking of the earliest offers while slots are free (R9,
R95, R192).
-/

namespace Sys2Proof.Machine

/-- A report offered to the queue. -/
inductive Offer where
  | order (e : Ending)
  | roll (k : Back) (stamp : Nat) (r : RollReport)
deriving DecidableEq, Repr

/-- The moment an offered report was composed. -/
def Offer.stamp : Offer → Nat
  | .order e => e.stamp
  | .roll _ t _ => t

/-- The waiting ROLL REPORT of a back. -/
def rollOffer (s : State) (k : Back) : Option Offer := (s.roll k).report.map (fun p => .roll k p.1 p.2)

/-- The reports offered: the head of the ending list and the waiting reports of A and B. -/
def offers (s : State) : List Offer :=
  (s.queue.ending.head?.map Offer.order).toList ++ (rollOffer s .a).toList ++ (rollOffer s .b).toList

/-- The earlier of two offers. -/
def earlier (x y : Offer) : Offer := if y.stamp < x.stamp then y else x

/-- The offered report composed earliest. -/
def earliest : List Offer → Option Offer
  | [] => none
  | x :: rest => some (rest.foldl earlier x)

/-- A report enters the report queue, and the arbiter chooses (R192, R193). -/
def enterReport (r : Report) (s : State) : State := arbiter (s.setLink { s.link with reports := s.link.reports ++ [r] })

/-- A CLOSING roll whose report is taken enters CLOSED; a LOST roll stays LOST (R192; assumption 18). -/
def reportTaken (r : Roll) : Roll := { r with report := none, state := if r.state = .closing then .closed else r.state }

/-- The queue takes an offer: an order leaves the Order Queue, a CLOSING roll enters CLOSED (R9, R192). -/
def takeOffer (x : Offer) (s : State) : State :=
  match x with
  | .order e =>
    enterReport (.order e.report) (s.setQueue { s.queue with
      orders := s.queue.orders.filter (fun o => o.number != e.number), ending := s.queue.ending.tail })
  | .roll k _ r => enterReport (.roll r) (updRoll k reportTaken s)

/-- Take offers while slots and offers remain, at most `fuel` of them. -/
def drainFuel : Nat → State → State
  | 0, s => s
  | fuel + 1, s =>
    if s.link.reports.length < Config.reportCapacity then
      match earliest (offers s) with
      | none => s
      | some x => drainFuel fuel (takeOffer x s)
    else s

/-- Take the offered reports into the free slots of the report queue (R192). The first report in may begin to be sent at
once, and leaves its slot to one more. -/
def drainReports (s : State) : State := drainFuel (Config.reportCapacity + 1 - s.link.reports.length) s

end Sys2Proof.Machine
end

