-- ==== Sys2Proof/Machine/Orders.lean ====
section
/-!
DEFINITION. The Order Queue's shared operations: numbers (R3), owed work (R10, R11), counters and spans (R12, R13,
R79 to R81, R102), entry to ENDING (R8, R9), waiting reasons and wanted sets (R14 to R16).
-/

namespace Sys2Proof.Machine

/-! ## Numbers (R3) -/

/-- The number after a number, passing from 65535 to 1. -/
def nextNumber (n : Nat) : Nat := if 65535 ≤ n then 1 else n + 1

/-- The first number from `n` on that is not taken, looking at most `fuel` steps ahead. -/
def freeNumber (taken : List Nat) : Nat → Nat → Nat
  | 0, n => n
  | fuel + 1, n => if taken.contains n then freeNumber taken fuel (nextNumber n) else n

/-- The number the next admitted order takes (R3). -/
def Queue.freeNumber (q : Queue) : Nat :=
  Machine.freeNumber (q.orders.map (fun o => o.number)) q.orders.length q.nextNumber

/-! ## Owed work (R10, R11) -/

/-- Work remaining: the next set is not past end or the redo list is not empty (R2). -/
def Order.workRemaining (o : Order) : Bool := o.next.isSome || !o.redo.isEmpty

/-- The cursor after an item: the next step, else step 1 of the next copy, else past end (R10). -/
def Order.cursorAfter (o : Order) (item : Nat × Nat) : Option (Nat × Nat) :=
  if item.2 < o.pattern.steps then some (item.1, item.2 + 1)
  else if item.1 < o.copies then some (item.1 + 1, 1)
  else none

/-- An item joins the redo list at its tail; the list holds one item for each (copy, step) (R11). -/
def Order.owe (o : Order) (item : Nat × Nat) : Order :=
  if o.redo.contains item then o else { o with redo := o.redo ++ [item] }

/-- An item of the order is put into a firing: a REDO item leaves the redo list, the item at the next set moves the
cursor on (R10, R11, R31). -/
def Order.fired (o : Order) (w : WorkItem) : Order :=
  if w.kind = .redo then { o with redo := o.redo.filter (fun i => i != (w.copy, w.step)) }
  else if o.next = some (w.copy, w.step) then { o with next := o.cursorAfter (w.copy, w.step) }
  else o

/-- The planned exposures from the cursor to the end of the last copy, in shooting order. -/
def plannedFrom (steps copies : Nat) (cursor : Option (Nat × Nat)) : List (Nat × Nat) :=
  match cursor with
  | none => []
  | some (c, st) =>
    ((List.range' c (copies + 1 - c)).flatMap (fun copy => (List.range' 1 steps).map (fun step => (copy, step)))).drop
      (st - 1)

/-- The work items an order brings to a visit (R27). -/
def Order.workItems (o : Order) : List WorkItem :=
  o.redo.map (fun i => { order := o.number, copy := i.1, step := i.2, kind := .redo }) ++
  (plannedFrom o.pattern.steps o.copies o.next).map (fun i =>
    { order := o.number, copy := i.1, step := i.2, kind := if i.2 = 1 then .setStart else .inSet })

/-! ## Outcomes of frames -/

/-- Extend the frame spans with a good frame (R13). Where several spans name the back and roll id and end at p − 1, the
first of them is extended: the model's choice (assumption 54). -/
def addSpan (k : Back) (rollId : Text) (p : Nat) (o : Order) : Order :=
  let extends_ (x : Span) : Bool := decide (x.back = k ∧ x.rollId = rollId ∧ x.last + 1 = p)
  match o.spans.findIdx? extends_ with
  | some i => { o with spans := o.spans.modify i (fun x => { x with last := p }) }
  | none =>
    if o.spans.length < 8 then
      { o with spans := o.spans ++ [{ back := k, rollId := rollId, first := p, last := p }] }
    else { o with more := true }

/-- Remove every span that names a back and roll (R13, R102). -/
def dropSpans (k : Back) (rollId : Text) (o : Order) : Order :=
  { o with spans := o.spans.filter (fun x => !(decide (x.back = k ∧ x.rollId = rollId))) }

/-- A frame counts good (R78 step 2, R12). -/
def Order.good (o : Order) (k : Back) (rollId : Text) (p : Nat) : Order :=
  addSpan k rollId p { o with goodFrames := o.goodFrames + 1 }

/-- A TIMING spoil (R79): below the limit it uses a reshoot and is owed again. -/
def Order.timingSpoil (o : Order) (limit : Nat) (item : Nat × Nat) : Order :=
  let o1 := { o with timingSpoils := o.timingSpoils + 1 }
  if !o.cancelRequested && decide (o.reshoots < limit) then { o1.owe item with reshoots := o.reshoots + 1 } else o1

/-- A TIMING spoil at the reshoot limit ends the order with RESHOOT-LIMIT (R79). -/
def Order.reshootLimit (o : Order) (limit : Nat) : Bool := !o.cancelRequested && decide (limit ≤ o.reshoots)

/-- A LAMP spoil, told at the abort (R80). -/
def Order.lampSpoil (o : Order) (item : Nat × Nat) : Order :=
  let o1 := { o with lampSpoils := satAdd 255 o.lampSpoils 1 }
  if o.cancelRequested then o1 else o1.owe item

/-- A cut frame: owed again unless the order is cancel-requested (R81, R83). -/
def Order.cutFrame (o : Order) (item : Nat × Nat) : Order := if o.cancelRequested then o else o.owe item

/-- A good frame of the order is fogged (R102). -/
def Order.fogged (o : Order) (item : Nat × Nat) (labelled : Bool) : Order :=
  let o1 := { o with goodFrames := o.goodFrames - 1, goodLabels := if labelled then o.goodLabels - 1 else o.goodLabels }
  if o.cancelRequested then o1 else o1.owe item

/-- The order is QUEUED or ACTIVE. -/
def Order.live (o : Order) : Bool := o.state != .ending

/-- The order with a number, when it is QUEUED or ACTIVE. -/
def State.live? (s : State) (n : Nat) : Option Order := (s.order? n).filter Order.live

/-- Change a QUEUED or ACTIVE order. -/
def updLive (n : Nat) (f : Order → Order) (s : State) : State := updOrder n (fun o => if o.live then f o else o) s

/-! ## Entry to ENDING (R8, R9) -/

/-- The ORDER REPORT of a record (R9). -/
def Order.report (o : Order) (kind : EndKind) : OrderReport :=
  { number := o.number, tag := o.tag, endKind := kind, account := o.account, reserved := o.reserved,
    settled := o.settled.getD 0, goodFrames := o.goodFrames, spoils := o.timingSpoils + o.lampSpoils,
    goodLabels := o.goodLabels, density := o.density, spans := o.spans, more := o.more }

/-- All items of an order leave whichever work list holds them (R34). -/
def removeItems (n : Nat) (s : State) : State :=
  updVisit (fun v => { v with lists :=
    { a := v.lists.a.filter (fun w => w.order != n), b := v.lists.b.filter (fun w => w.order != n) } }) s

/-- The order ceases to be a member of the visit (R21). -/
def removeMember (n : Nat) (s : State) : State :=
  updVisit (fun v => { v with members := v.members.filter (fun m => m.order != n) }) s

/-- A report is composed: it is stamped with the moment, and the clock moves on (R192). -/
def tick (s : State) : State := s.setLink { s.link with clock := s.link.clock + 1 }

/-- An order enters ENDING with an end kind: it leaves the visit, is settled, and its report joins the ending list
(R8, R9, R34). An order that is ENDING already is left as it is. -/
def endOrder (kind : EndKind) (n : Nat) (s : State) : State :=
  match s.live? n with
  | none => s
  | some o =>
    let s1 := settleOrder n (removeMember n (removeItems n s))
    let s2 := updOrder n (fun x => { x with state := .ending, endKind := some kind, waiting := .none }) s1
    let done := { o with settled := some (settledAmount o) }
    tick (s2.setQueue { s2.queue with
      ending := s2.queue.ending ++ [{ number := n, stamp := s2.link.clock, report := done.report kind }] })

/-- End several orders, in the order given. -/
def endOrders (kind : EndKind) (ns : List Nat) (s : State) : State := ns.foldl (fun t n => endOrder kind n t) s

/-- A class B fault is told: the report of the order it ended enters the report queue, as a slot is free, and then
ORDER-FAULT is raised (R162 steps 2 and 3, R192). -/
def tellFault (s : State) : State := raise .orderFault (drainReports s)

/-- A class B fault is raised for an order, and ends it; for an order that is ENDING, or gone, it is not raised (R162). -/
def failOrder (kind : ClassB) (n : Nat) (s : State) : State :=
  if (s.live? n).isSome then tellFault (endOrder (.faulted kind) n s) else s

/-- A class B fault is raised for several orders, in the order given (R28, R52). -/
def failOrders (kind : ClassB) (ns : List Nat) (s : State) : State := ns.foldl (fun t n => failOrder kind n t) s

/-! ## Waiting reasons and wanted sets (R14 to R16) -/

/-- A roll of the stock is READY on one of the backs. -/
def State.stockReady (s : State) (stock : Nat) : Bool := s.rolls.a.readyFor stock || s.rolls.b.readyFor stock

/-- The waiting reason of an order (R14). -/
def waitingOf (s : State) (o : Order) : Waiting :=
  if o.state ≠ .queued then .none
  else if s.magazine ≠ some o.magazine then .magazine
  else if s.stockReady o.stock then .none
  else .stock

/-- A back's roll is in READY or LEADER and carries the stock (R15). -/
def Roll.offers (r : Roll) (stock : Nat) : Bool :=
  (r.state == .ready || r.state == .leader) && r.stock? == some stock

/-- The stock codes wanted (R15). -/
def State.wantedStocks (s : State) : List Nat :=
  (((s.queue.orders.filter (fun o => o.state == .queued)).map (fun o => o.stock)).filter
    (fun c => !(s.rolls.a.offers c || s.rolls.b.offers c))).eraseDups

/-- The magazines wanted (R16). -/
def State.wantedMagazines (s : State) : List Nat :=
  (((s.queue.orders.filter (fun o => o.state == .queued)).map (fun o => o.magazine)).filter
    (fun m => s.magazine != some m)).eraseDups

/-- The members of the new set that are not in the old one. -/
def entering (old new : List Nat) : List Nat := new.filter (fun n => !old.contains n)

/-- Raise a flag a number of times. -/
def raiseTimes (f : EventFlag) : Nat → State → State
  | 0, s => s
  | n + 1, s => raiseTimes f n (raise f s)

/-- Bring the waiting reasons and both wanted sets up to date; each code and each number that enters its set raises the
set's flag (R14 to R16). The flag of the stocks comes before that of the magazines: the model's choice (assumption 8). -/
def refreshWanted (s : State) : State :=
  let stocks := s.wantedStocks
  let magazines := s.wantedMagazines
  let s1 := s.setQueue { s.queue with
    orders := s.queue.orders.map (fun o => { o with waiting := waitingOf s o })
    wantedStock := stocks
    wantedMagazine := magazines }
  raiseTimes .magazineWanted (entering s.queue.wantedMagazine magazines).length
    (raiseTimes .stockWanted (entering s.queue.wantedStock stocks).length s1)

end Sys2Proof.Machine
end

