-- ==== Sys2Proof/Machine/Rolls.lean ====
section
/-!
DEFINITION. The Roll Tracker's shared operations: writing positions (R92, R97, R100, R101), the leader (R90), SUSPECT
(R94), closing and its report (R95, R98), blanking (R97).
-/

namespace Sys2Proof.Machine

/-- A back's list is dropped: emptied, and kept empty for the rest of the visit (R34). -/
def dropList (k : Back) (s : State) : State :=
  updVisit (fun v => { v with lists := v.lists.set k [], dropped := v.dropped.set k true }) s

/-- The back's advance-owed flag clears (R33). -/
def clearOwed (k : Back) (s : State) : State := updVisit (fun v => { v with owed := v.owed.set k false }) s

/-- The positions from `lo` to `hi` become BLANK (R97, R100). -/
def blankRange (lo hi : Nat) (r : Roll) : Roll :=
  { r with film := r.film.map (fun f => { f with
      map := f.map.mapIdx (fun i e => if lo ≤ i + 1 ∧ i + 1 ≤ hi then { MapEntry.fresh with state := .blank } else e) }) }

/-- The number of map entries for which a condition holds. -/
def Roll.count (r : Roll) (p : MapEntry → Bool) : Nat :=
  (r.film.map (fun f => (f.map.filter p).length)).getD 0

/-- The ROLL REPORT as the roll stands (R98). -/
def Roll.rollReport (r : Roll) (k : Back) (cause : CloseCause) : RollReport :=
  { back := k, rollId := r.id, stock := r.stock?.getD 0, frames := r.frames, cause := cause, counter := r.counter,
    lastCount := r.lastCount, cut := r.cut,
    unused := r.count (fun e => e.state == .unused), exposed := r.count (fun e => e.state == .exposed),
    spoiled := r.count (fun e => e.state == .spoiled), blank := r.count (fun e => e.state == .blank),
    fogged := r.count (fun e => e.state == .fogged), short := r.count (fun e => e.clamp == .short),
    long := r.count (fun e => e.clamp == .long), unlabeled := r.count (fun e => e.unlabeled) }

/-- Compose the ROLL REPORT of a back: it waits for the report queue, and ROLL-CLOSED is raised (R95 step 3, R103). -/
def composeReport (k : Back) (cause : CloseCause) (s : State) : State :=
  raise .rollClosed (tick (updRoll k (fun r => { r with report := some (s.link.clock, r.rollReport k cause) }) s))

/-- A roll enters CLOSING with its cause; its list is dropped and its advance-owed flag clears (R33, R34, R95 step 1).
The pass-through ends (R183). -/
def enterClosing (k : Back) (cause : CloseCause) (s : State) : State :=
  clearOwed k (dropList k
    (updRoll k (fun r => { r with state := .closing, closeCause := some cause, passThrough := .idle }) s))

/-- The rest of a close: its report is composed and offered, or with the engine RESETTING the back enters CLOSED at once
with no report and no flag (R95 step 3, R106). -/
def finishClose (k : Back) (s : State) : State :=
  if s.gate.engine = .resetting then updRoll k (fun r => { r with state := .closed }) s
  else composeReport k ((s.roll k).closeCause.getD .desk) s

/-- A roll closes for a cause other than BLANKED, and offers its report (R95 steps 1 and 3). -/
def closeRollFor (k : Back) (cause : CloseCause) (s : State) : State := finishClose k (enterClosing k cause s)

/-- A roll enters SUSPECT; leaving READY drops its list, and the pass-through ends (R34, R94, R183). -/
def enterSuspect (k : Back) (s : State) : State :=
  let s1 := updRoll k (fun r => { r with state := .suspect, passThrough := .idle }) s
  if (s.roll k).state = .ready then dropList k s1 else s1

/-- Blank a roll that cannot hold the next set, and send the blanking advance (R97 steps 1 to 5). -/
def blankRoll (k : Back) (s : State) : State :=
  let r := s.roll k
  let s1 := enterClosing k .blanked s
  let s2 := updRoll k (fun x => { blankRange r.counter r.frames x with counter := r.frames + 1 }) s1
  issue k.slot (.advance .frame r.free) .blanking (chargeFrames .blank k r.free s2)

/-- The film LOAD ROLL makes (R89). -/
def newFilm (rollId : Text) (e : StockEntry) (x : Settings) : Film :=
  { rollId := rollId, stock := e.code, frames := e.frames, leaderFrames := x.leaderFrames, leaderMode := x.leaderMode,
    map := List.replicate e.frames MapEntry.fresh }

/-- The roll record LOAD ROLL writes (R89). -/
def loadedRoll (rollId : Text) (e : StockEntry) (x : Settings) (r : Roll) : Roll :=
  { r with
    state := if x.leaderFrames = 0 then .ready else .leader
    film := some (newFilm rollId e x)
    leaderRemaining := x.leaderFrames
    counter := 1
    closeCause := none
    headerDone := false
    cut := none
    lastCount := none
    passThrough := .idle }

/-- In AUTO leader mode, entering LEADER sends the leader-form ADVANCE (R90). -/
def sendLeader (k : Back) (s : State) : State :=
  let r := s.roll k
  if r.state = .leader ∧ (r.film.map (fun f => f.leaderMode)) = some .auto then
    issue k.slot (.advance .leader r.leaderRemaining) .leader s
  else s

/-- The roll map entry of a frame record, with the state and cause given (R78 step 1, R92, R101). -/
def frameEntry (f : FrameRec) (state : EntryState) (cause : Option SpoilCause) (measured : Option Nat) : MapEntry :=
  { MapEntry.fresh with
    state := state
    item := some (f.item.order, f.item.copy, f.item.step)
    time := some f.time
    measured := measured
    clamp := f.clamp
    redo := f.item.kind == .redo
    cause := cause }

/-- Write an entry and move the counter past it (R92 steps 1 and 2). -/
def writeFrame (k : Back) (p : Nat) (e : MapEntry) (s : State) : State :=
  updRoll k (fun r => { writeEntry p (fun _ => e) r with counter := r.counter + 1 }) s

/-- Record the count a back reports for the loaded roll (R88). -/
def recordCount (k : Back) (c : Nat) (s : State) : State := updRoll k (fun r => { r with lastCount := some c }) s

end Sys2Proof.Machine
end

