-- ==== Sys2Proof/Machine/Labels.lean ====
section
/-!
DEFINITION. The Label Composer: texts (R113, R119, R120), the run of a template (R111 to R115), the queueing of a
frame label (R116 to R118) and the feeding of the printer (R124).
-/

namespace Sys2Proof.Machine

/-! ## Texts -/

/-- Decimal digits with no leading zeros. -/
def digitsFuel : Nat → Nat → Text
  | 0, n => [48 + n % 10]
  | fuel + 1, n => if n < 10 then [48 + n] else digitsFuel fuel (n / 10) ++ [48 + n % 10]

/-- A number in decimal digits (R113). -/
def digits (n : Nat) : Text := digitsFuel 8 n

/-- Two digits (R113, PUT DATE). -/
def twoDigits (n : Nat) : Text := [48 + n / 10 % 10, 48 + n % 10]

/-- The letter of a back. -/
def backLetter : Back → Nat
  | .a => 65
  | .b => 66

/-- PUT DATE: year, month and day joined by hyphens; ten hyphens when absent (R113). -/
def dateText : Option Date → Text
  | none => List.replicate 10 45
  | some d => digits d.year ++ 45 :: (twoDigits d.month ++ 45 :: twoDigits d.day)

/-- PUT STEP: a difference in tenths of a stop, with its sign and one decimal (R113). -/
def stopsText (d : Int) : Text :=
  let body := digits (d.natAbs / 10) ++ 46 :: digits (d.natAbs % 10)
  if d < 0 then 45 :: body else if 0 < d then 43 :: body else body

/-- PUT ROLL: the back letter, a space, the roll id (R113). -/
def rollText (k : Back) (rollId : Text) : Text := backLetter k :: 32 :: rollId

/-! ## The run of a template (R111) -/

/-- What a run reads: the entry with its place, its order, and the settings' job date (R113). -/
structure RunEnv where
  entry : MapEntry
  back : Back
  rollId : Text
  position : Nat
  order : Order
  jobDate : Option Date
  templates : List (Option Template)
deriving DecidableEq, Repr

/-- The state of a run (R111). The current line is the last line opened, or beyond line 3; the running template is
what is left of its steps, and the executed count is what is left of the 48. -/
structure Run where
  lines : List Text
  beyond : Bool
  continued : Bool
  truncated : Bool
  templateError : Bool
deriving DecidableEq, Repr

/-- A run at its start (R111). -/
def Run.start : Run := { lines := [[]], beyond := false, continued := false, truncated := false, templateError := false }

/-- Put a text on the current line; what does not fit in 24 characters is cut (R112). -/
def Run.put (r : Run) (t : Text) : Run :=
  if r.beyond then { r with truncated := r.truncated || !t.isEmpty }
  else
    let line := r.lines.getLast?.getD []
    { r with
      lines := r.lines.dropLast ++ [line ++ t.take (24 - line.length)]
      truncated := r.truncated || decide (24 < line.length + t.length) }

/-- Open the next line; from line 3 the current line is beyond (R112). -/
def Run.newLine (r : Run) : Run :=
  if r.beyond then r else if r.lines.length < 3 then { r with lines := r.lines ++ [[]] } else { r with beyond := true }

/-- The step of the entry's work item. -/
def MapEntry.step (e : MapEntry) : Nat := (e.item.map (fun i => i.2.2)).getD 0

/-- A condition of SKIP IF, against the entry and the order (R114). -/
def RunEnv.holds (x : RunEnv) : SkipCond → Bool
  | .spoiled => x.entry.state == .spoiled
  | .timeClamped => x.entry.clamp != .none
  | .offNominal => x.entry.step != x.order.pattern.nominal
  | .titleAbsent => x.order.title.isNone
  | .courseAbsent => x.order.course.isNone
  | .redo => x.entry.redo

/-- The text a step puts, for the steps that put text (R112, R113). -/
def RunEnv.text (x : RunEnv) (literals : List Text) : TStep → Option Text
  | .putCatalog => some (x.order.catalog.getD [])
  | .putTitle => some (x.order.title.getD [])
  | .putCourse => some (x.order.course.getD [])
  | .putAccount => some (digits x.order.account)
  | .putOrder => some (digits x.order.number)
  | .putRoll => some (rollText x.back x.rollId)
  | .putFrame => some (digits x.position)
  | .putStep => some (stopsText (x.order.offset x.entry.step - x.order.offset x.order.pattern.nominal))
  | .putDate => some (dateText x.jobDate)
  | .putLiteral n => some (literals.getD n [])
  | .space n => some (List.replicate n 32)
  | .nextLine => none
  | .skipIf _ _ => none
  | .continueAt _ => none
  | .omit_ => none
  | .end_ => none

/-- Run the steps left, with the number of steps that may still be executed; none is a label omitted
(R111 to R115). A 48th step that is itself an OMIT, or a CONTINUE AT that fails, ends the run as that step does, and not as
the count of 48 does: the model's choice (assumption 50). -/
def runSteps (x : RunEnv) : Nat → List TStep → List Text → Run → Option Run
  | 0, _, _, r => some r
  | _ + 1, [], _, r => some r
  | fuel + 1, st :: rest, literals, r =>
    match st with
    | .end_ => some r
    | .omit_ => none
    | .nextLine => runSteps x fuel rest literals r.newLine
    | .skipIf c n => runSteps x fuel (if x.holds c then rest.drop n else rest) literals r
    | .continueAt t =>
      match r.continued, (x.templates[t]?).getD none with
      | false, some tp => runSteps x fuel tp.steps tp.literals { r with continued := true }
      | _, _ => some { r with templateError := true }
    | other => runSteps x fuel rest literals (r.put ((x.text literals other).getD []))

/-- Run an order's template against an entry; a run executes at most 48 steps (R111). -/
def runTemplate (x : RunEnv) (t : Template) : Option Run := runSteps x 48 t.steps t.literals Run.start

/-! ## The label queue -/

/-- The sync interval; none when it is off (R120). -/
def Settings.syncInterval (x : Settings) : Option Nat := if x.syncExponent = 0 then none else some (2 ^ x.syncExponent)

/-- Free records of the label queue (R121). -/
def Labels.free (l : Labels) : Nat := Config.labelCapacity - l.queue.length

/-- The label check of a firing start (R122). -/
def State.labelCheck (s : State) : Bool :=
  s.settings.labelPolicy == .skip || decide (Config.labelReserve ≤ s.labels.free)

/-- The HEADER record of a roll (R119). -/
def headerRecord (s : State) (k : Back) : LabelRec :=
  { kind := .header, back := k, rollId := (s.roll k).id, position := none, order := none,
    lines := [[82, 79, 76, 76, 32] ++ rollText k (s.roll k).id, (s.rollStock k).name, dateText s.settings.jobDate],
    truncated := false, templateError := false }

/-- One back's line of a SYNC record: six and two hyphens for a back with no roll on the stand (R120). That the position has
no leading zero is the model's choice (assumption 56). -/
def syncLine (k : Back) (shown : Option (Text × Nat)) : Text :=
  match shown with
  | some (rollId, p) => rollText k rollId ++ 32 :: digits p
  | none => rollText k (List.replicate 6 45) ++ 32 :: List.replicate 2 45

/-- What a SYNC record shows of a back, given the frame label that follows it (R120). -/
def syncShown (s : State) (k labelled : Back) (p : Nat) : Option (Text × Nat) :=
  if k = labelled then some ((s.roll k).id, p)
  else if (s.roll k).state.onFilm then some ((s.roll k).id, (s.roll k).counter)
  else none

/-- The SYNC record that precedes a frame label (R120). -/
def syncRecord (s : State) (k : Back) (p : Nat) : LabelRec :=
  { kind := .sync, back := k, rollId := (s.roll k).id, position := none, order := none,
    lines := [[83, 89, 78, 67], syncLine .a (syncShown s .a k p), syncLine .b (syncShown s .b k p)],
    truncated := false, templateError := false }

/-- A SYNC is due: the interval is on and the counter has reached it (R117). -/
def State.syncDue (s : State) : Bool := s.settings.syncInterval.any (fun i => decide (i ≤ s.labels.syncCounter))

/-- The record that precedes a frame label, if any (R117). -/
def preceding (s : State) (k : Back) (p : Nat) : Option LabelRec :=
  if !(s.roll k).headerDone then some (headerRecord s k)
  else if s.syncDue then some (syncRecord s k p)
  else none

/-- A HEADER or SYNC enters the label queue, with its effects (R117, R139). -/
def queuePreceding (k : Back) (x : LabelRec) (s : State) : State :=
  let s1 := chargeLabel (s.setLabels { s.labels with queue := s.labels.queue ++ [x], syncCounter := 0 })
  if x.kind = .header then updRoll k (fun r => { r with headerDone := true }) s1 else s1

/-- A FRAME record enters the label queue, with its effects on the counts, the entry, the order and the house account
(R117, R121, R139). -/
def queueFrame (k : Back) (p : Nat) (e : MapEntry) (x : LabelRec) (s : State) : State :=
  let l := s.labels
  let s1 := s.setLabels { l with
    queue := l.queue ++ [x]
    syncCounter := satAdd 64 l.syncCounter 1
    truncated := if x.truncated then satAdd Config.maxCount l.truncated 1 else l.truncated
    templateErrors := if x.templateError then satAdd Config.maxCount l.templateErrors 1 else l.templateErrors }
  let s2 := updRoll k (writeEntry p (fun y => { y with labelled := true })) s1
  match e.state, x.order with
  | .exposed, some n => updLive n (fun o => { o with goodLabels := o.goodLabels + 1 }) s2
  | .spoiled, _ => chargeLabel s2
  | _, _ => s2

/-- The FRAME record of a run (R111, R121). -/
def frameRecord (s : State) (k : Back) (p n : Nat) (r : Run) : LabelRec :=
  { kind := .frame, back := k, rollId := (s.roll k).id, position := some p, order := some n, lines := r.lines,
    truncated := r.truncated, templateError := r.templateError }

/-- Queue a frame label with what precedes it when there is room; without room the SKIP policy flags the entry
UNLABELED and queues nothing (R117, R118, R122). -/
def queueLabel (k : Back) (p : Nat) (e : MapEntry) (x : LabelRec) (s : State) : State :=
  let first := preceding s k p
  if first.toList.length + 1 ≤ s.labels.free then
    queueFrame k p e x (first.elim s (fun h => queuePreceding k h s))
  else if s.labels.noted.get k = some .skip then updRoll k (writeEntry p (fun y => { y with unlabeled := true })) s
  else s

/-- Compose the frame label of the entry just written (R116). -/
def composeLabel (k : Back) (p : Nat) (s : State) : State :=
  match (s.roll k).entry? p with
  | none => s
  | some e =>
    match (e.item.map (fun i => i.1)).bind s.order? with
    | none => s
    | some o =>
      match o.template.bind (fun t => (s.labels.templates[t]?).getD none) with
      | none => s
      | some tp =>
        let x : RunEnv :=
          { entry := e, back := k, rollId := (s.roll k).id, position := p, order := o, jobDate := s.settings.jobDate,
            templates := s.labels.templates }
        match runTemplate x tp with
        | none => s
        | some r => queueLabel k p e (frameRecord s k p o.number r) s

/-! ## Printing (R124) -/

/-- What PRINT carries of a record. -/
def LabelRec.job (x : LabelRec) : PrintJob :=
  { kind := x.kind, truncated := x.truncated, templateError := x.templateError, lines := x.lines }

/-- A print of the Label Composer is outstanding on the printer. -/
def State.printOutstanding (s : State) : Bool := s.bus.printer.issuers.contains .label

/-- Send PRINT for the head record when the printer can take it (R124). -/
def tryPrint (s : State) : State :=
  match s.labels.queue with
  | [] => s
  | x :: _ =>
    let u := s.bus.printer
    if u.state = .present ∧ u.printer = some .ready ∧ u.outstanding = none then
      issue .printer (.print x.job) .label (s.setLabels { s.labels with printing := true })
    else s

end Sys2Proof.Machine
end

