-- ==== Sys2Proof/Machine/Gate.lean ====
section
/-!
DEFINITION. The Gate Sequencer: holding a visit and its resume record (R39, R153, R154), raising a class A fault
(R156 to R159), the phases of a visit (R28, R29, R35 to R37), the firing tests and the start of a firing (R30 to
R32), the choice of a visit (R22 to R27), and the end of a stop (R151).
-/

namespace Sys2Proof.Machine

/-! ## At rest (R21 note 1) -/

/-- No feeder or meter command of the visit is outstanding or waiting, no firing is in flight, and neither
advance-owed flag is set. -/
def State.atRest (s : State) : Bool :=
  !s.visitCommand .feeder && !s.visitCommand .meter && s.timer.firing.isNone &&
  s.gate.visit.all (fun v => !v.owed.a && !v.owed.b)

/-! ## Holding (R39, R153, R154) -/

/-- The firing with a serial is complete: it has ended and every frame record it made is resolved (R82). -/
def firingComplete (s : State) (serial : Nat) : Bool :=
  s.timer.firing.all (fun f => f.serial != serial) && s.timer.frames.a.all (fun f => f.serial != serial) &&
  s.timer.frames.b.all (fun f => f.serial != serial)

/-- A back's parts of the firings that are not complete, the latest first (R82). -/
def openShots (s : State) (k : Back) : List CutShot :=
  (s.gate.fired.get k).filter (fun x => !firingComplete s x.serial)

/-- One back's entry of the cut firing: its part of the firing that is not complete, resolved or not (R154); of two such
firings the later one that included it (assumption 11). -/
def cutShot (s : State) (k : Back) : Option CutShot := (openShots s k).head?

/-- The backs of the firing that has started and is not complete (R154). -/
def cutShots (s : State) : List CutShot := (cutShot s .a).toList ++ (cutShot s .b).toList

/-- The resume record at a hold: made when there is none; a class A fault makes an existing one's cause FAULT
(R153). -/
def heldResume (cause : HoldCause) (s : State) : Resume :=
  match s.gate.resume with
  | some r => { r with cause := if cause = .fault then .fault else r.cause }
  | none => { cause := cause, cutFiring := cutShots s }

/-- The open visit becomes held; a class A fault also clears release requested (R39, R40). The label wait closes
(R123; assumption 10). -/
def holdVisit (cause : HoldCause) (s : State) : State :=
  match s.gate.visit with
  | none => s
  | some v =>
    setLabelWait false (s.setGate { s.gate with
      visit := some { v with held := true, release := if cause = .fault then false else v.release }
      resume := some (heldResume cause s) })

/-- A part with its outcome, when it is the given back's part of the firing with the given serial. -/
def CutShot.resolved (serial : Nat) (k : Back) (outcome : CutOutcome) (c : CutShot) : CutShot :=
  if c.serial = serial ∧ c.back = k then { c with outcome := outcome } else c

/-- What has become of one back's frame of a firing: its outcome is brought up to date in the resume record, and where a
later one is made from (R154). -/
def cutOutcome (serial : Nat) (k : Back) (outcome : CutOutcome) (s : State) : State :=
  s.setGate { s.gate with
    resume := s.gate.resume.map (fun r => { r with cutFiring := r.cutFiring.map (CutShot.resolved serial k outcome) })
    fired := s.gate.fired.set k ((s.gate.fired.get k).map (CutShot.resolved serial k outcome)) }

/-! ## Class A faults (R156 to R159) -/

/-- The fault unit of a slot. -/
def faultUnit : UnitSlot → FaultUnit
  | .feeder => .feeder
  | .meter => .meter
  | .backA => .backA
  | .backB => .backB
  | .printer => .printer

/-- A fault record as a fault is raised, with the state of the open visit (R156). -/
def faultRec (s : State) (kind : FaultKind) (unit : FaultUnit) (order : Option Nat) (k : Option Back)
    (position : Option Nat) : FaultRec :=
  { kind := kind, unit := unit, order := order, back := k, position := position,
    visit := s.gate.visit.map (fun v => v.state) }

/-- A fault record that names the position of the open visit. -/
def visitFault (s : State) (kind : FaultKind) (unit : FaultUnit) : FaultRec :=
  faultRec s kind unit none none (s.gate.visit.map (fun v => v.position))

/-- Raise a class A fault: it becomes current and the engine FAULTED with the visit held (R157), it fills the
pending slot or is lost while FAULTED (R158), and it is not recorded while RESETTING (R159). -/
def raiseFault (f : FaultRec) (s : State) : State :=
  match s.gate.engine with
  | .resetting => s
  | .faulted =>
    raise .deferred (s.setEvents { s.events with pendingFault := some (s.events.pendingFault.getD f) })
  | _ =>
    holdVisit .fault (raise .engineStopped (raise .fault
      ((s.setEvents { s.events with current := some f }).setGate
        { s.gate with engine := .faulted, stopKind := none })))

/-! ## Closing a visit (R37) -/

/-- The numbers of the members with, or without, work remaining, in admission order. -/
def membersWith (work : Bool) (v : Visit) (s : State) : List Nat :=
  (s.queue.orders.filter (fun o =>
    o.live && v.members.any (fun m => m.order == o.number) && o.workRemaining == work)).map (fun o => o.number)

/-- Every member with work remaining goes back to QUEUED (R7). -/
def requeue (ns : List Nat) (s : State) : State :=
  ns.foldl (fun t n => updOrder n (fun o => { o with state := .queued }) t) s

/-- The visit ends: its members go back to QUEUED or end DONE, and the record ceases to exist with its lists, zone
table and resume record (R37). -/
def endVisit (s : State) : State :=
  match s.gate.visit with
  | none => s
  | some v =>
    let s1 := endOrders .done (membersWith false v s) (requeue (membersWith true v s) s)
    setLabelWait false (s1.setGate { s1.gate with visit := none, resume := none })

/-- The visit closes: the reports of the members it ended enter the report queue, and the wanted sets are brought up to
date before anything that follows the close (R37, R192). With no visit open there is nothing to close (R161). -/
def closeVisit (s : State) : State :=
  match s.gate.visit with
  | none => s
  | some _ => refreshWanted (drainReports (endVisit s))

/-! ## Feeder and meter commands -/

/-- Send the visit's LOAD; with the feeder slot not PRESENT, UNIT-LOST is raised (R28, R41). -/
def sendLoad (s : State) : State :=
  match s.gate.visit with
  | none => s
  | some v =>
    if s.present .feeder then issue .feeder (.load v.position) .visit s
    else raiseFault (visitFault s .unitLost .feeder) s

/-- Send the visit's RETURN; with the feeder slot not PRESENT, UNIT-LOST is raised (R36, R41). -/
def sendReturn (s : State) : State :=
  if s.present .feeder then issue .feeder .ret .visit s else raiseFault (visitFault s .unitLost .feeder) s

/-- Enter RETURNING: with no slide in the gate the visit closes at once; otherwise the RETURN is sent, unless the
visit is held (R36, R39). -/
def enterReturning (s : State) : State :=
  match s.gate.visit with
  | none => s
  | some v =>
    let s1 := setLabelWait false (updVisit (fun x => { x with state := .returning }) s)
    if !v.slide then closeVisit s1 else if v.held then s1 else sendReturn s1

/-- Begin a metering phase: LAMP rises and the meter is sent SCAN (R29). -/
def beginMetering (s : State) : State :=
  issue .meter .scan .visit
    (updVisit (fun v => { v with metering := true, zones := [], rereads := [] }) (s.setTimer { s.timer with lamp := true }))

/-- Enter METERING: with the meter slot not PRESENT, UNIT-LOST is raised, held or not (R41; assumption 28); a held
visit waits (R39); otherwise the phase begins. -/
def enterMetering (s : State) : State :=
  let s1 := updVisit (fun v => { v with state := .metering }) s
  if !s1.present .meter then raiseFault (visitFault s1 .unitLost .meter) s1
  else if s1.gate.visit.any (fun v => v.held) then s1
  else beginMetering s1

/-- A metering phase in progress is cut: LAMP falls, the zone table and the re-reads are lost (R29, R53). -/
def cutMetering (s : State) : State :=
  if s.gate.visit.any (fun v => v.metering) then
    updVisit (fun v => { v with metering := false, zones := [], rereads := [] })
      (s.setTimer { s.timer with lamp := false })
  else s

/-! ## From EXPOSING to RETURNING (R35, R40) -/

/-- The test of R35: both lists empty, or release requested (R40), with no firing in flight and neither advance owed.
It is off while the cleanup of LINK RESET drives the visit (R164). -/
def leavesExposing (s : State) (v : Visit) : Bool :=
  s.gate.engine != .resetting && v.state == .exposing && s.timer.firing.isNone && !v.owed.a && !v.owed.b &&
  ((v.lists.a.isEmpty && v.lists.b.isEmpty) || v.release)

/-- Make the test of R35. -/
def testReturning (s : State) : State := if s.gate.visit.any (leavesExposing s) then enterReturning s else s

/-! ## Firings (R30 to R32) -/

/-- A back is ready (R30). -/
def backReady (s : State) (v : Visit) (k : Back) : Bool :=
  !(v.lists.get k).isEmpty && (s.roll k).state == .ready && !v.owed.get k

/-- The head item of a ready back's list (R31). -/
def candidate (s : State) (v : Visit) (k : Back) : Option WorkItem :=
  if backReady s v k then (v.lists.get k).head? else none

/-- The step count of an order's pattern snapshot. -/
def stepsOfOrder (s : State) (n : Nat) : Nat := ((s.order? n).map (fun o => o.pattern.steps)).getD 0

/-- The set-fit check: made for a SET-START item alone (R32). -/
def fits (s : State) (k : Back) (w : WorkItem) : Bool :=
  w.kind != .setStart || decide (stepsOfOrder s w.order ≤ (s.roll k).free)

/-- Every condition of R30 but the label check. Under STEP no advance of the last firing may be outstanding either: an
earlier firing's advance on the other back does not matter (R30 note, R152). -/
def firingConditions (s : State) (v : Visit) : Bool :=
  s.gate.engine == .running && !v.held && !v.release && s.timer.firing.isNone &&
  (!s.gate.stepMode || firingComplete s s.timer.serial) && (backReady s v .a || backReady s v .b)

/-- The entry of an included back: its item, time and indication, and the position the frame will take
(R31, R56, R69). -/
def makeShot (s : State) (k : Back) (w : WorkItem) : Shot :=
  let t := (s.order? w.order).elim (0, Clamp.none) (fun o => itemTime s k o w.step)
  { item := w, time := t.1, clamp := t.2, rollId := (s.roll k).id, position := (s.roll k).counter, shutter := .open_ }

/-- The largest time among the backs still in a firing (R70, R83). -/
def largestTime (shots : PerBack (Option Shot)) : Nat :=
  let t (x : Option Shot) : Nat := x.elim 0 (fun y => if y.shutter = .cut then 0 else y.time)
  max (t shots.a) (t shots.b)

/-- The firing record, built from the included backs and the settings as they stand (R69, R70). -/
def makeFiring (s : State) (serial : Nat) (shots : PerBack (Option Shot)) : Firing :=
  { serial := serial, shots := shots, preOpen := s.settings.preOpen,
    deadline := s.settings.preOpen + s.settings.lampRise,
    lampFall := s.settings.preOpen + largestTime shots, phase := .opening, tolerance := s.settings.tolerance }

/-- An item is put into a firing: it leaves its list, its order's cursor or redo list moves (R10, R11, R31), and the
label policy in force is noted for its back (R122). -/
def takeItem (k : Back) (w : WorkItem) (s : State) : State :=
  let s1 := updVisit (fun v => { v with lists := v.lists.set k (v.lists.get k).tail }) s
  let s2 := updOrder w.order (fun o => o.fired w) s1
  s2.setLabels { s2.labels with noted := s2.labels.noted.set k (some s2.settings.labelPolicy) }

/-- A back's part of a firing that starts: its outcome is PENDING (R154). -/
def startedShot (serial : Nat) (k : Back) (x : Shot) : CutShot :=
  { serial := serial, back := k, item := x.item, rollId := x.rollId, position := x.position, outcome := .pending }

/-- A back's parts as a firing starts: the new one, when the back is included, before those of the firings that are not
complete (R154). -/
def firedShots (s : State) (serial : Nat) (k : Back) (x : Option Shot) : List CutShot :=
  (x.map (startedShot serial k)).toList ++ openShots s k

/-- Start a firing of the given items: the record is armed, the shutter lines of the included backs rise and the
exposure timer starts at 0; a label wait closes (R31, R69, R72, R123). -/
def armFiring (wa wb : Option WorkItem) (s : State) : State :=
  let n := s.timer.serial + 1
  let shots : PerBack (Option Shot) := { a := wa.map (makeShot s .a), b := wb.map (makeShot s .b) }
  let s1 := s.setTimer { s.timer with
    firing := some (makeFiring s n shots), count := some 0, serial := n, shutters := { a := wa.isSome, b := wb.isSome } }
  let s2 := s1.setGate { s1.gate with
    fired := { a := firedShots s n .a shots.a, b := firedShots s n .b shots.b } }
  setLabelWait false (wb.elim id (takeItem .b) (wa.elim id (takeItem .a) s2))

/-- A candidate that fails the set-fit check has its roll blanked and closed (R32). -/
def blankUnfit (k : Back) (w : Option WorkItem) (s : State) : State :=
  if w.any (fun x => !fits s k x) then blankRoll k s else s

/-- Start a firing with every ready back whose candidate fits; with none left, R35 is tested (R31, R32). -/
def startFiring (v : Visit) (s : State) : State :=
  let ca := candidate s v .a
  let cb := candidate s v .b
  let wa := ca.filter (fits s .a)
  let wb := cb.filter (fits s .b)
  let s1 := blankUnfit .b cb (blankUnfit .a ca s)
  if wa.isNone && wb.isNone then testReturning (setLabelWait false s1) else armFiring wa wb s1

/-- Test whether a firing may start (R30), with the label wait (R123). -/
def testFiring (s : State) : State :=
  match s.gate.visit with
  | none => s
  | some v =>
    if v.state ≠ .exposing ∨ s.gate.engine = .resetting then s
    else if !firingConditions s v then setLabelWait false s
    else if s.labelCheck then startFiring v s
    else if s.labels.labelWait then s
    else raise .labelHold (setLabelWait true s)

/-- The tests of R30 and R35, as an event of both calls for them. -/
def testVisit (s : State) : State := testReturning (testFiring s)

/-- Enter EXPOSING (R30, R35). -/
def enterExposing (s : State) : State := testVisit (updVisit (fun v => { v with state := .exposing }) s)

/-- A REDO item is placed at the head of a back's list while that list is in force (R33). -/
def placeRedo (k : Back) (w : WorkItem) (s : State) : State :=
  updVisit (fun v =>
    if v.dropped.get k then v
    else { v with lists := v.lists.set k ({ w with kind := .redo } :: v.lists.get k) }) s

/-! ## Going on (R39, R148, R150) -/

/-- The visit ceases to be held, and the resume record is discarded (R148, R150, R153). -/
def unhold (s : State) : State :=
  s.setGate { s.gate with visit := s.gate.visit.map (fun v => { v with held := false }), resume := none }

/-- A visit that ceased to be held under RUN continues from its visit state (R39). -/
def continueVisit (s : State) : State :=
  match s.gate.visit with
  | none => s
  | some v =>
    match v.state with
    | .loading => if s.visitCommand .feeder then s else sendLoad s
    | .metering => if v.metering then s else enterMetering s
    | .exposing => testVisit s
    | .returning => if s.visitCommand .feeder then s else sendReturn s

/-- A visit with release requested takes its path (R40, R150). -/
def releasePath (s : State) : State :=
  match s.gate.visit with
  | none => s
  | some v =>
    match v.state with
    | .loading => if s.visitCommand .feeder then s else enterReturning s
    | .metering => if v.metering then s else enterReturning s
    | .exposing => testReturning s
    | .returning => if s.visitCommand .feeder then s else sendReturn s

/-! ## The choice of a visit (R22 to R27) -/

/-- An order is eligible (R23). -/
def eligible (s : State) (o : Order) : Bool :=
  o.state == .queued && !o.cancelRequested && s.magazine == some o.magazine && s.stockReady o.stock

/-- The winner among the eligible orders: the first rush order, else the earliest admitted (R24). -/
def winner (s : State) : Option Order :=
  let es := s.queue.orders.filter (eligible s)
  (es.find? (fun o => o.rush)).orElse (fun _ => es.head?)

/-- The orders taken into a visit, rush orders first, each group in admission order (R25). -/
def chosen (s : State) (w : Order) : List Order :=
  let all :=
    if s.settings.merge then
      s.queue.orders.filter (fun o => eligible s o && o.magazine == w.magazine && o.position == w.position)
    else [w]
  all.filter (fun o => o.rush) ++ all.filter (fun o => !o.rush)

/-- The back an order is assigned to: the READY roll of its stock with more free positions, on equal counts A
(R26). -/
def assignBack (s : State) (stock : Nat) : Back :=
  if !s.rolls.a.readyFor stock then .b
  else if !s.rolls.b.readyFor stock then .a
  else if s.rolls.a.free < s.rolls.b.free then .b
  else .a

/-- One back's work list at the opening (R27). -/
def openingList (s : State) (orders : List Order) (k : Back) : List WorkItem :=
  (orders.filter (fun o => assignBack s o.stock == k)).flatMap Order.workItems

/-- The visit record at opening (R21). -/
def openVisit (s : State) (w : Order) (orders : List Order) : Visit :=
  { magazine := w.magazine, position := w.position, state := .loading, held := false, release := false,
    slide := false, members := orders.map (fun o => { order := o.number, back := assignBack s o.stock }),
    lists := { a := openingList s orders .a, b := openingList s orders .b }, dropped := ⟨false, false⟩,
    owed := ⟨false, false⟩, metering := false, rereads := [], zones := [] }

/-- A chosen order goes from QUEUED to ACTIVE (R7, R24). -/
def activate (ns : List Nat) (o : Order) : Order :=
  if ns.contains o.number then { o with state := .active, waiting := .none } else o

/-- Open a visit for a winner: its members become ACTIVE and the LOAD is sent (R24, R28). -/
def open_ (w : Order) (s : State) : State :=
  let orders := chosen s w
  let ns := orders.map (fun o => o.number)
  let s1 := s.setGate { s.gate with visit := some (openVisit s w orders) }
  sendLoad (s1.setQueue { s1.queue with orders := s1.queue.orders.map (activate ns) })

/-- The choice of a visit, with the engine RUNNING and no visit open (R22). -/
def choose (s : State) : State :=
  if s.gate.engine = .running ∧ s.gate.visit = none then
    match winner s with
    | some w => open_ w s
    | none => s
  else s

/-! ## The end of a stop (R151) -/

/-- A stop in progress has ended. -/
def stopDone (s : State) : Bool :=
  s.gate.engine == .stopping &&
  (s.gate.visit.isNone || (s.gate.stopKind == some .hold && s.atRest))

/-- The engine enters STOPPED (R147). -/
def enterStopped (s : State) : State :=
  raise .engineStopped (s.setGate { s.gate with engine := .stopped, stopKind := none })

/-- Test the end of a stop in progress (R151). -/
def stopEnds (s : State) : State := if stopDone s then enterStopped s else s

end Sys2Proof.Machine
end

