-- ==== Sys2Proof/Machine/Firing.lean ====
section
/-!
DEFINITION. The Firing Timer's shared operations: the end and the abort of a firing (R72, R75), the leaving of a lost
back (R83), frame records and the outcome of a frame (R76 to R81), the STEP hold (R152), and the completion of a
cancel (R18).
-/

namespace Sys2Proof.Machine

/-- The backs, in the order A, B. -/
def bothBacks : List Back := [.a, .b]

/-- The entry of a back still included in the firing in flight. -/
def State.shot? (s : State) (k : Back) : Option Shot :=
  (s.timer.firing.bind (fun f => f.shots.get k)).filter (fun x => x.shutter != .cut)

/-- The frame record of a firing's entry (R76). -/
def frameOf (f : Firing) (x : Shot) (lamp : Bool) : FrameRec :=
  { serial := f.serial, rollId := x.rollId, position := x.position, item := x.item, time := x.time, clamp := x.clamp,
    expected := f.preOpen + x.time, allowed := max ((f.preOpen + x.time) * f.tolerance / 100) 5, lampSpoiled := lamp }

/-- The frame records after a firing: one for each back still included, the others as they stand (R76). -/
def framesAfter (s : State) (f : Firing) (lamp : Bool) : PerBack (Option FrameRec) :=
  { a := (s.shot? .a).elim s.timer.frames.a (fun x => some (frameOf f x lamp))
    b := (s.shot? .b).elim s.timer.frames.b (fun x => some (frameOf f x lamp)) }

/-- The lines fall, the exposure timer stops and the firing record ceases to exist, leaving the frame records given
(R72, R75). -/
def dropLines (frames : PerBack (Option FrameRec)) (s : State) : State :=
  s.setTimer { s.timer with
    firing := none, count := none, frames := frames, lamp := false, shutters := ⟨false, false⟩ }

/-- A back's advance after a firing: the advance-owed flag is set and ADVANCE 1 is issued (R33, R92). -/
def oweAdvance (k : Back) (s : State) : State :=
  issue k.slot (.advance .frame 1) .firing (updVisit (fun v => { v with owed := v.owed.set k true }) s)

/-- The backs still included in the firing in flight. -/
def includedBacks (s : State) : List Back := bothBacks.filter (fun k => (s.shot? k).isSome)

/-- Issue the advances of the backs given. -/
def oweAdvances (ks : List Back) (s : State) : State := ks.foldl (fun t k => oweAdvance k t) s

/-- The normal end of a firing (R33, R72): frame records are made, the advances issued, and the next firing tested
(R30). -/
def endFiring (s : State) : State :=
  match s.timer.firing with
  | none => s
  | some f => testVisit (oweAdvances (includedBacks s) (dropLines (framesAfter s f false) s))

/-- A LAMP spoil is told to its order, which may place a REDO item (R80). -/
def tellLampSpoil (k : Back) (w : WorkItem) (s : State) : State :=
  match s.live? w.order with
  | none => s
  | some o =>
    let s1 := updOrder w.order (fun x => x.lampSpoil (w.copy, w.step)) s
    if o.cancelRequested then s1 else placeRedo k w s1

/-- The LAMP-FAIL fault of an abort: the first included back in the order A, B (R75 step 4, R156). -/
def lampFault (s : State) : FaultRec :=
  match s.shot? .a, s.shot? .b with
  | some x, _ => faultRec s .lampFail .lamp (some x.item.order) (some .a) (some x.position)
  | none, some y => faultRec s .lampFail .lamp (some y.item.order) (some .b) (some y.position)
  | none, none => faultRec s .lampFail .lamp none none none

/-- Spoil one included back's frame at an abort: its order is told and the house account charged (R75 steps 2 and
3). -/
def spoilShot (k : Back) (x : Option Shot) (s : State) : State :=
  match x with
  | none => s
  | some y => chargeFrames .spoiled k 1 (tellLampSpoil k y.item s)

/-- The abort of a firing with cause LAMP-FAIL (R75). -/
def abortFiring (s : State) : State :=
  match s.timer.firing with
  | none => s
  | some f =>
    let s1 := dropLines (framesAfter s f true) s
    let s2 := spoilShot .b (s.shot? .b) (spoilShot .a (s.shot? .a) s1)
    let s3 := cutOutcomeIncluded f.serial s (raiseFault (lampFault s) s2)
    testVisit (oweAdvances (includedBacks s) s3)
where
  /-- The included backs' frames of the cut firing show SPOILED LAMP (R154). -/
  cutOutcomeIncluded (serial : Nat) (before after : State) : State :=
    (includedBacks before).foldl (fun t k => cutOutcome serial k .spoiledLamp t) after

/-! ## A lost back leaves the firing (R83) -/

/-- A frame is cut: its order is owed it again unless cancel-requested, the house account is charged, and the
resume record shows CUT (R81, R83, R154). -/
def cutPending (serial : Nat) (k : Back) (w : WorkItem) (s : State) : State :=
  cutOutcome serial k .cut (chargeFrames .cut k 1 (updLive w.order (fun o => o.cutFrame (w.copy, w.step)) s))

/-- A firing that no back is left in ends at once: LAMP falls and no frame record is made (R83). -/
def endEmpty (s : State) : State := if (includedBacks s).isEmpty then dropLines s.timer.frames s else s

/-- An included back leaves the firing: its shutter falls, its shutter state becomes CUT, its frame is cut and the
LAMP fall time is formed anew; with no back left the firing ends with it (R83). -/
def leaveFiring (k : Back) (s : State) : State :=
  match s.timer.firing, s.shot? k with
  | some f, some x =>
    let shots := f.shots.set k (some { x with shutter := .cut })
    let f1 := { f with shots := shots, lampFall := f.preOpen + largestTime shots }
    endEmpty (cutPending f.serial k x.item
      (s.setTimer { s.timer with firing := some f1, shutters := s.timer.shutters.set k false }))
  | _, _ => s

/-! ## The completion of a firing (R152) -/

/-- A firing of the open visit has become complete with STEP on and the engine RUNNING: the visit is held and the
engine stops (R152; assumption 9). -/
def stepHold (serial : Nat) (s : State) : State :=
  if s.gate.engine = .running ∧ s.gate.stepMode = true ∧ s.gate.visit.any (fun v => !v.held) = true ∧
      firingComplete s serial = true then
    holdVisit .step (s.setGate { s.gate with engine := .stopping, stopKind := some .hold })
  else s

/-- What becomes of the firing after a back has left it. With no back left it has ended and is looked at as complete;
with the other back's shutter closed it ends as at the fall of LAMP; otherwise it runs on (R83). -/
def firingAfterLoss (serial : Nat) (s : State) : State :=
  match s.timer.firing with
  | none => testVisit (stepHold serial s)
  | some f =>
    if (includedBacks s).all (fun k => (s.shot? k).any (fun x => x.shutter == .closed)) then
      if f.phase = .lit then endFiring s else abortFiring s
    else s

/-- The STEP hold, after a back's frame record has been resolved without a completion (R82, R152). -/
def stepAfterFrame (f : Option FrameRec) (s : State) : State := f.elim s (fun x => stepHold x.serial s)

/-- What the loss of a back leaves of the firing it was in, or of the firing whose frame record it held (R82, R83). -/
def afterLoss (k : Back) (before s : State) : State :=
  match before.timer.firing, before.shot? k with
  | some f, some _ => firingAfterLoss f.serial s
  | _, _ => stepAfterFrame (before.timer.frames.get k) s

/-! ## The completion of a cancel (R18) -/

/-- An order has a part in flight: an item in the firing, or a frame whose advance is outstanding or waiting. -/
def inFlight (s : State) (n : Nat) : Bool :=
  bothBacks.any (fun k => (s.shot? k).any (fun x => x.item.order == n) ||
    (s.timer.frames.get k).any (fun f => f.item.order == n))

/-- The cancel-requested ACTIVE orders with no part in flight. -/
def cancelsDone (s : State) : List Nat :=
  (s.queue.orders.filter (fun o => o.state == .active && o.cancelRequested && !inFlight s o.number)).map
    (fun o => o.number)

/-- They enter ENDING as CANCELLED, and their reports enter the report queue (R18, R192). -/
def completeCancels (s : State) : State := drainReports (endOrders .cancelled (cancelsDone s) s)

/-! ## Outcomes at an advance completion (R77 to R79) -/

/-- The timing check (R77). -/
def timingGood (f : FrameRec) (m : Nat) : Bool := decide (f.expected ≤ m + f.allowed) && decide (m ≤ f.expected + f.allowed)

/-- What a completion makes of a frame. -/
def frameOutcome (f : FrameRec) (m : Nat) : CutOutcome :=
  if f.lampSpoiled then .spoiledLamp else if timingGood f m then .exposed else .spoiledTiming

/-- The roll map entry a completion writes (R78 step 1). -/
def completedEntry (f : FrameRec) (m : Nat) : MapEntry :=
  match frameOutcome f m with
  | .exposed => frameEntry f .exposed none (some m)
  | .spoiledLamp => frameEntry f .spoiled (some .lamp) (some m)
  | _ => frameEntry f .spoiled (some .timing) (some m)

/-- The Order Queue applies the outcome (R78 step 2): a good frame counts and extends a span; a TIMING spoil is
weighed against the reshoot limit, which may end the order (R79). What R162 has come of that is told past the steps of R78,
whose label is of that order (assumption 49). -/
def applyOutcome (k : Back) (f : FrameRec) (m : Nat) (s : State) : State :=
  match frameOutcome f m with
  | .exposed => updLive f.item.order (fun o => o.good k f.rollId f.position) s
  | .spoiledTiming =>
    let limit := s.settings.reshootLimit
    let s1 := updLive f.item.order (fun o => o.timingSpoil limit (f.item.copy, f.item.step)) s
    if (s.live? f.item.order).any (fun o => o.reshootLimit limit) then
      endOrder (.faulted .reshootLimit) f.item.order s1
    else s1
  | _ => s

/-- A TIMING spoil that earned a REDO item has it placed at the head of the back's list (R33, R78 step 3). -/
def redoAfter (k : Back) (f : FrameRec) (m : Nat) (before s : State) : State :=
  let earns := (before.live? f.item.order).any (fun o =>
    !o.cancelRequested && decide (o.reshoots < before.settings.reshootLimit))
  if frameOutcome f m = .spoiledTiming ∧ earns = true then placeRedo k f.item s else s

/-- A TIMING spoil is charged to the house account (R78 step 4). -/
def chargeOutcome (k : Back) (f : FrameRec) (m : Nat) (s : State) : State :=
  if frameOutcome f m = .spoiledTiming then chargeFrames .spoiled k 1 s else s

end Sys2Proof.Machine
end

