-- ==== Sys2Proof/Machine/Operands.lean ====
section
/-!
DEFINITION. The operand forms of the desk frames: ranges, clamps and named values of the fields (R1, R6, R42, R64,
R107, R108, R140, R173, R196, R197, R202).
-/

namespace Sys2Proof.Machine

/-- A value within both ends. -/
def inRange (lo hi v : Nat) : Bool := decide (lo ≤ v) && decide (v ≤ hi)

/-- A signed value within both ends. -/
def inRangeInt (lo hi v : Int) : Bool := decide (lo ≤ v) && decide (v ≤ hi)

/-- The nearer end of a range for a value outside it (R1, R197). -/
def clampInt (lo hi v : Int) : Int := if v < lo then lo else if hi < v then hi else v

/-- A character code that can be held: 32 to 126. -/
def printable (c : Nat) : Bool := inRange 32 126 c

/-- A character outside the codes 32 to 126 is replaced by a space (R1 note 2, R43, R108). -/
def cleanChar (c : Nat) : Nat := if printable c then c else 32

/-- A text held to its first characters, each within the codes (R1 notes 2 and 3, R43, R108). -/
def cleanText (max : Nat) (t : Text) : Text := (t.take max).map cleanChar

/-- Whether holding the text changed it. -/
def textClamped (max : Nat) (t : Text) : Bool := cleanText max t != t

/-- A text of length 0 is recorded as absent (R1 note 2). -/
def optionalText (max : Nat) (t : Text) : Option Text := if t.isEmpty then none else some (cleanText max t)

/-- A text filled out with spaces (R43). -/
def padText (n : Nat) (t : Text) : Text := t ++ List.replicate (n - t.length) 32

/-- A back byte: 0 for A, 1 for B (R202). -/
def backOf (n : Nat) : Option Back := if n = 0 then some .a else if n = 1 then some .b else none

/-- A unit address (R203). -/
def slotOf (u : Byte) : Option UnitSlot :=
  match u.toNat with
  | 1 => some .feeder
  | 2 => some .meter
  | 3 => some .backA
  | 4 => some .backB
  | 5 => some .printer
  | _ => none

/-! ## Orders (R1, R6) -/

/-- The metering mode byte (R201). -/
def modeOf (n : Nat) : Option MeterMode :=
  match n with
  | 0 => some .average
  | 1 => some .centre
  | 2 => some .spot
  | 3 => some .fixed
  | _ => none

/-- The fields of check 1 of R4 within range; the stray flag bits of R201 fail here too. -/
def orderFieldsGood (f : OrderFields) : Bool :=
  inRange 1 250 f.magazine && inRange 1 120 f.position && inRange 1 9 f.copies && decide (f.pattern ≤ 15) &&
  f.template.all (fun t => decide (t ≤ 7)) && decide (f.mode ≤ 3) && (f.mode != 3 || f.fixedDensity.isSome) &&
  decide (f.strayFlags = 0)

/-- The fixed density the record keeps: in FIXED mode alone, held to 400 (R1 note 1). -/
def heldDensity (f : OrderFields) : Option Nat := if f.mode = 3 then f.fixedDensity.map (fun d => min d 400) else none

/-- The fields that a clamp changes (R6). -/
def orderClamps (f : OrderFields) : OrderClamps :=
  { fixedDensity := decide (f.mode = 3) && (f.fixedDensity.any (fun d => decide (400 < d)))
    correction := clampInt (-20) 20 f.correction != f.correction
    catalog := textClamped 16 f.catalog
    title := textClamped 40 f.title
    course := textClamped 12 f.course }

/-! ## Tables -/

/-- The fields of a stock entry within the ranges of R42 (R43 check 2). -/
def stockFieldsGood (f : StockFields) : Bool :=
  inRange 1 255 f.code && inRangeInt (-60) 60 f.speed && inRange 12 72 f.frames && inRangeInt (-100) 100 f.knee &&
  decide (f.slope ≤ 50)

/-- The entry a stock write makes (R43). -/
def stockEntryOf (f : StockFields) : StockEntry :=
  { code := f.code, name := padText 8 (cleanText 8 f.name), speed := f.speed, frames := f.frames, knee := f.knee,
    slope := f.slope, price := f.price }

/-- A pattern that may be written (R65 check 2). -/
def patternFieldsGood (f : PatternFields) : Bool :=
  inRange 1 15 f.number && inRange 1 7 f.stepCount && decide (f.offsets.length = f.stepCount) &&
  f.offsets.all (inRangeInt (-30) 30) && inRange 1 f.stepCount f.nominal

/-- A condition of SKIP IF by its number (R114, R199). -/
def skipCondOf (n : Nat) : Option SkipCond :=
  match n with
  | 1 => some .spoiled
  | 2 => some .timeClamped
  | 3 => some .offNominal
  | 4 => some .titleAbsent
  | 5 => some .courseAbsent
  | 6 => some .redo
  | _ => none

/-- A step that takes no operand carries 0 in its operand byte (R199); assumption 32. -/
def plainStep (st : TStep) (operand : Nat) : Option TStep := if operand = 0 then some st else none

/-- A template step by its number and operand, when both are in range (R107, R199). -/
def rawStep? (w : RawStep) : Option TStep :=
  match w.code with
  | 1 => plainStep .putCatalog w.operand
  | 2 => plainStep .putTitle w.operand
  | 3 => plainStep .putCourse w.operand
  | 4 => plainStep .putAccount w.operand
  | 5 => plainStep .putOrder w.operand
  | 6 => plainStep .putRoll w.operand
  | 7 => plainStep .putFrame w.operand
  | 8 => plainStep .putStep w.operand
  | 9 => plainStep .putDate w.operand
  | 10 => if w.operand ≤ 3 then some (.putLiteral w.operand) else none
  | 11 => if inRange 1 8 w.operand then some (.space w.operand) else none
  | 12 => plainStep .nextLine w.operand
  | 13 => if inRange 1 4 (w.operand % 16) then (skipCondOf (w.operand / 16)).map (fun c => .skipIf c (w.operand % 16))
          else none
  | 14 => if w.operand ≤ 7 then some (.continueAt w.operand) else none
  | 15 => plainStep .omit_ w.operand
  | 16 => plainStep .end_ w.operand
  | _ => none

/-- The steps of a template, when every one of them is a step of R107 with its operand in range. -/
def stepsOf : List RawStep → Option (List TStep)
  | [] => some []
  | w :: rest =>
    match rawStep? w, stepsOf rest with
    | some st, some more => some (st :: more)
    | _, _ => none

/-- The program a template write makes, when its fields are in range (R108 check 2). -/
def programOf (f : TemplateFields) : Option Template :=
  if f.number ≤ 7 && inRange 1 24 f.steps.length && decide (f.literals.length ≤ 4) then
    (stepsOf f.steps).map (fun steps =>
      { steps := steps, literals := f.literals.map (cleanText 12) ++ List.replicate (4 - f.literals.length) [] })
  else none

/-- A fee by its key (R199). -/
inductive FeeName where
  | order
  | rush
  | label
deriving DecidableEq, Repr

def feeOf (n : Nat) : Option FeeName :=
  match n with
  | 1 => some .order
  | 2 => some .rush
  | 3 => some .label
  | _ => none

def Fees.get (f : Fees) : FeeName → Nat
  | .order => f.order
  | .rush => f.rush
  | .label => f.label

def Fees.set (f : Fees) (n : FeeName) (v : Nat) : Fees :=
  match n with
  | .order => { f with order := v }
  | .rush => { f with rush := v }
  | .label => { f with label := v }

/-! ## Commands of DIRECT frames (R173, R177, R203, R204) -/

/-- LOAD: a position of 1 to 120. -/
def loadOf (p : Nat) : Option UnitCmd := if inRange 1 120 p then some (.load p) else none

/-- SPOT: a zone of 1 to 9. -/
def spotOf (z : Nat) : Option UnitCmd := if inRange 1 9 z then some (.spot z) else none

/-- ADVANCE: a form of the table and a count of 1 to 72. A DIRECT ADVANCE is always sent in leader form (R182);
assumption 27. -/
def advanceOf (f : AdvanceFields) : Option UnitCmd :=
  if f.form ≤ 1 && inRange 1 72 f.count then some (.advance .leader f.count) else none

/-- TEST SHUTTER: a time of 10 to 250,000 tm. -/
def testShutterOf (t : Nat) : Option UnitCmd := if inRange 10 250000 t then some (.testShutter t) else none

/-- The record kind byte of PRINT (R204). -/
def labelKindOf (n : Nat) : Option LabelKind :=
  match n with
  | 1 => some .header
  | 2 => some .frame
  | 3 => some .sync
  | _ => none

/-- PRINT: a record kind, flags of the two bits, 1 to 3 lines of 0 to 24 characters (R121, R204); assumption 33. -/
def printOf (f : PrintFields) : Option UnitCmd :=
  if f.flags ≤ 3 && inRange 1 3 f.lines.length && f.lines.all (fun l => decide (l.length ≤ 24) && l.all printable) then
    (labelKindOf f.kind).map (fun k =>
      .print { kind := k, truncated := f.flags % 2 == 1, templateError := f.flags / 2 == 1, lines := f.lines })
  else none

/-- The kind of unit that takes a command (R173). -/
def CmdName.unit : CmdName → UnitKind
  | .load => .feeder
  | .ret => .feeder
  | .scan => .meter
  | .spot => .meter
  | .advance => .back
  | .readCount => .back
  | .testShutter => .back
  | .print => .printer

/-- The kind byte of a unit command on the bus (R203). -/
def CmdName.code : CmdName → Nat
  | .load => 0x10
  | .ret => 0x11
  | .scan => 0x20
  | .spot => 0x21
  | .advance => 0x30
  | .readCount => 0x31
  | .testShutter => 0x32
  | .print => 0x40

/-! ## Settings (R196, R197) -/

/-- February has 29 days in a year divisible by 4 (R197). -/
def daysIn (year month : Nat) : Nat :=
  if month = 2 then (if year % 4 = 0 then 29 else 28)
  else if month = 4 || month = 6 || month = 9 || month = 11 then 30
  else 31

/-- A real day of a year 2000 to 2099 (R197). -/
def Date.real (d : Date) : Bool :=
  inRange 2000 2099 d.year && inRange 1 12 d.month && inRange 1 (daysIn d.year d.month) d.day

/-- The date a job date value spells: year × 10,000 + month × 100 + day (R202). -/
def dateOf (v : Int) : Date :=
  { year := v.toNat / 10000, month := v.toNat / 100 % 100, day := v.toNat % 100 }

/-- The value of a job date, −1 when absent (R202). -/
def dateValue : Option Date → Int
  | none => -1
  | some d => d.year * 10000 + d.month * 100 + d.day

/-- Check 2 of R197 for the value of one item. -/
def settingGood (i : SettingItem) : Bool :=
  inRange 1 21 i.item &&
  (if 10 ≤ i.item ∧ i.item ≤ 13 then inRangeInt 0 1 i.value
   else if i.item = 15 then i.value == -1 || (decide (0 ≤ i.value) && (dateOf i.value).real)
   else if i.item = 21 then inRangeInt 0 4095 i.value
   else true)

/-- No item number appears twice (R197 check 2). -/
def itemsDistinct : List SettingItem → Bool
  | [] => true
  | i :: rest => rest.all (fun j => j.item != i.item) && itemsDistinct rest

/-- The value carried for an item, or the value given. -/
def carriedOr (n : Nat) (stands : Int) (items : List SettingItem) : Int :=
  ((items.find? (fun i => i.item == n)).map (fun i => i.value)).getD stands

/-- The range of a numeric item (R196). -/
def settingRange (n : Nat) : Option (Int × Int) :=
  match n with
  | 1 => some (1000, 20000)
  | 2 => some (-50, 50)
  | 3 => some (10, 500)
  | 4 => some (10000, 250000)
  | 5 => some (200, 2000)
  | 6 => some (10, 500)
  | 7 => some (1, 20)
  | 8 => some (0, 7)
  | 9 => some (0, 4)
  | 14 => some (0, 6)
  | 16 => some (100, 5000)
  | 17 => some (500, 20000)
  | 18 => some (100, 5000)
  | 19 => some (200, 5000)
  | 20 => some (500, 20000)
  | _ => none

/-- The value an item takes: a numeric value outside its range takes the nearer end, a sync exponent of 1 or 2
takes 3 (R197). -/
def settingClamped (i : SettingItem) : SettingItem :=
  match settingRange i.item with
  | none => i
  | some (lo, hi) =>
    if i.item = 14 ∧ (i.value = 1 ∨ i.value = 2) then { i with value := 3 } else { i with value := clampInt lo hi i.value }

/-- Items of group B may be written in any engine state but RESETTING (R196). -/
def groupB (n : Nat) : Bool := n == 11 || n == 13 || n == 14 || n == 21

/-- The record with one item written (R196). A setting of two choices carries 0 for the first and 1 for the
second (R202). -/
def writeSetting (x : Settings) (i : SettingItem) : Settings :=
  match i.item with
  | 1 => { x with tref := i.value.toNat }
  | 2 => { x with calibration := i.value }
  | 3 => { x with floor := i.value.toNat }
  | 4 => { x with ceiling := i.value.toNat }
  | 5 => { x with preOpen := i.value.toNat }
  | 6 => { x with lampRise := i.value.toNat }
  | 7 => { x with tolerance := i.value.toNat }
  | 8 => { x with reshootLimit := i.value.toNat }
  | 9 => { x with leaderFrames := i.value.toNat }
  | 10 => { x with leaderMode := if i.value = 0 then .auto else .manual }
  | 11 => { x with passThrough := decide (i.value = 0) }
  | 12 => { x with merge := decide (i.value = 0) }
  | 13 => { x with labelPolicy := if i.value = 0 then .hold else .skip }
  | 14 => { x with syncExponent := i.value.toNat }
  | 15 => { x with jobDate := if i.value = -1 then none else some (dateOf i.value) }
  | 16 => { x with pollPeriod := i.value.toNat }
  | 17 => { x with feederTimeout := i.value.toNat }
  | 18 => { x with meterTimeout := i.value.toNat }
  | 19 => { x with backTimeout := i.value.toNat }
  | 20 => { x with printerTimeout := i.value.toNat }
  | 21 => { x with noticeMask := BitVec.ofNat 12 i.value.toNat }
  | _ => x

/-- The whole record, its 21 items in ascending order (R198). -/
def settingItems (x : Settings) : List SettingItem :=
  [⟨1, x.tref⟩, ⟨2, x.calibration⟩, ⟨3, x.floor⟩, ⟨4, x.ceiling⟩, ⟨5, x.preOpen⟩, ⟨6, x.lampRise⟩, ⟨7, x.tolerance⟩,
   ⟨8, x.reshootLimit⟩, ⟨9, x.leaderFrames⟩, ⟨10, if x.leaderMode = .auto then 0 else 1⟩,
   ⟨11, if x.passThrough then 0 else 1⟩, ⟨12, if x.merge then 0 else 1⟩,
   ⟨13, if x.labelPolicy = .hold then 0 else 1⟩, ⟨14, x.syncExponent⟩, ⟨15, dateValue x.jobDate⟩,
   ⟨16, x.pollPeriod⟩, ⟨17, x.feederTimeout⟩, ⟨18, x.meterTimeout⟩, ⟨19, x.backTimeout⟩, ⟨20, x.printerTimeout⟩,
   ⟨21, x.noticeMask.toNat⟩]

end Sys2Proof.Machine
end

