-- ==== Sys2Proof/Machine/Loss.lean ====
section
/-!
DEFINITION. The loss of a roll (R101 to R103), the loss of a unit (R41, R172, R174, R176) and the timeout of a unit
command (R81, R94, R175, R176).
-/

namespace Sys2Proof.Machine

/-! ## The loss of a roll (R101 to R103) -/

/-- A back in the firing is cut from it, and its frame is written at the counter, SPOILED TIMING (R83, R101 step 1). -/
def loseShot (k : Back) (s : State) : State :=
  match s.timer.firing, s.shot? k with
  | some f, some x =>
    writeFrame k (s.roll k).counter (frameEntry (frameOf f x false) .spoiled (some .timing) none) (leaveFiring k s)
  | _, _ => s

/-- A frame record ceases to exist (R76). -/
def dropFrame (k : Back) (s : State) : State := s.setTimer { s.timer with frames := s.timer.frames.set k none }

/-- A frame record is cut: a PENDING frame is owed again and charged, a LAMP spoil was told at its abort (R81). -/
def cutFrameRec (k : Back) (f : FrameRec) (s : State) : State :=
  dropFrame k (if f.lampSpoiled then cutOutcome f.serial k .cut s else cutPending f.serial k f.item s)

/-- A frame record of a lost back is cut, and its frame written at its position (R81, R101 step 1). -/
def loseFrame (k : Back) (s : State) : State :=
  match s.timer.frames.get k with
  | none => s
  | some f =>
    writeFrame k f.position (frameEntry f .spoiled (some (if f.lampSpoiled then .lamp else .timing)) none)
      (cutFrameRec k f s)

/-- The EXPOSED entries of a map, ascending: order, copy and step, and whether labelled (R101 step 2). -/
def exposedItems (r : Roll) : List ((Nat × Nat × Nat) × Bool) :=
  ((r.film.map (fun f => f.map)).getD []).filterMap (fun e =>
    if e.state = .exposed then e.item.map (fun i => (i, e.labelled)) else none)

/-- The order effect of one fogged entry, and its charge (R102). -/
def fogItem (k : Back) (s : State) (x : (Nat × Nat × Nat) × Bool) : State :=
  if (s.live? x.1.1).isSome then
    chargeFrames .fogged k 1 (updOrder x.1.1 (fun o => o.fogged x.1.2 x.2) s)
  else s

/-- An EXPOSED entry becomes FOGGED (R86, R101 step 2). -/
def fogEntry (e : MapEntry) : MapEntry := if e.state = .exposed then { e with state := .fogged } else e

/-- Fog a roll: every EXPOSED entry becomes FOGGED, the orders still QUEUED or ACTIVE lose those frames, and then
their spans on the roll (R101 step 2, R102). -/
def fogRoll (k : Back) (s : State) : State :=
  let r := s.roll k
  let s1 := updRoll k (fun x => { x with film := x.film.map (fun f => { f with map := f.map.map fogEntry }) }) s
  let s2 := (exposedItems r).foldl (fogItem k) s1
  s2.setQueue { s2.queue with
    orders := s2.queue.orders.map (fun o => if o.live then dropSpans k r.id o else o) }

/-- A roll is lost: cut frames, fog, close as LOST, and the ROLL REPORT, which enters the report queue with those of the
cancels that end (R101 to R103, R192; assumption 20). The ROLL REPORT is composed before those of the cancels: the model's
choice (assumption 49). Then the firing it was in, STEP and R35 are taken up, so that a LAMP-FAIL of the other back's firing
(R83) is raised last: the model's choice (assumption 52). -/
def rollLost (k : Back) (s : State) : State :=
  let s1 := fogRoll k (loseFrame k (loseShot k s))
  let s2 := updRoll k (fun r => { r with state := .lost, closeCause := some .lost, passThrough := .idle }) s1
  testReturning (afterLoss k s (completeCancels (clearOwed k (dropList k (composeReport k .lost s2)))))

/-- A back's slot has left PRESENT, other than by a command timeout (R87). -/
def backGone (k : Back) (s : State) : State :=
  match (s.roll k).state with
  | .unloaded => updRoll k (fun r => { r with state := .noBack }) s
  | .closed => updRoll k (fun r => { r with state := .noBack }) s
  | .leader => rollLost k s
  | .ready => rollLost k s
  | .suspect => rollLost k s
  | .closing => rollLost k s
  | .noBack => s
  | .lost => s

/-! ## The loss of a unit -/

/-- A slot changes state: its change flag is set, an outstanding poll is gone, and UNIT-CHANGE is raised (R168,
R170 to R172). -/
def changeSlot (u : UnitSlot) (st : SlotState) (s : State) : State :=
  raise .unitChange (updSlot u (fun x => { x with state := st, changed := true, poll := none }) s)

/-- A forwarded DIRECT frame or a RESYNC ROLL is answered when its command is resolved by a loss or a withdrawal
(R100, R176, R180); the print is no longer outstanding (R126). -/
def answerLost (c : Issued) (s : State) : State :=
  match c.issuer with
  | .direct tag => answerDeferred 2#8 tag c.cmd.name.code .absent .none s
  | .resync tag => answerDeferred 3#8 tag 19 (.refused .noUnit) .none s
  | .label => s.setLabels { s.labels with printing := false }
  | .visit => s
  | .cutPhase => s
  | .firing => s
  | .leader => s
  | .blanking => s

/-- The commands of a slot, the outstanding one first. -/
def Slot.commands (x : Slot) : List Issued :=
  x.outstanding.toList.map (fun o => { cmd := o.cmd, issuer := o.issuer }) ++ x.waiting

/-- The cleanup keeps the failure of the slide's return, the first one known (R164, R165; assumption 19). -/
def keepFailure (kind : FaultKind) (s : State) : State :=
  s.setGate { s.gate with cleanup := s.gate.cleanup.map (fun c =>
    { c with failure := some (c.failure.getD (visitFault s kind .feeder)) }) }

/-- The meter is needed by the open visit: it is METERING, or LOADING with a member that is not FIXED (R41). -/
def meterNeeded (s : State) : Bool :=
  s.gate.visit.any (fun v =>
    v.state == .metering ||
    (v.state == .loading && v.members.any (fun m => (s.order? m.order).any (fun o => o.mode != .fixed))))

/-- What the loss of a PRESENT slot hands on to the block that uses the unit (R41, R172). A feeder lost with a
command of the visit outstanding fails the cleanup's return (R165). -/
def handOnLoss (u : UnitSlot) (visitSent : Bool) (s : State) : State :=
  match u with
  | .feeder =>
    let s1 := updSlot .feeder (fun x => { x with magazine := none }) s
    let s2 := if visitSent then keepFailure .unitLost s1 else s1
    if s2.gate.visit.isSome then raiseFault (visitFault s2 .unitLost .feeder) s2 else s2
  | .meter => if meterNeeded s then raiseFault (visitFault s .unitLost .meter) (cutMetering s) else s
  | .backA => backGone .a (dropList .a s)
  | .backB => backGone .b (dropList .b s)
  | .printer => updSlot .printer (fun x => { x with printer := none }) s

/-- A PRESENT slot is lost by silence, DETACHING or a wrong kind: its commands are abandoned or withdrawn and
answered, and the loss is handed on (R171, R172, R174, R176). The replies join after UNIT-CHANGE is raised and before what
the loss raises and reports: the model's choice (assumption 52). -/
def slotLost (u : UnitSlot) (st : SlotState) (s : State) : State :=
  let x := s.slot u
  let visitSent := x.outstanding.any (fun o => o.issuer == .visit)
  let s1 := changeSlot u st (updSlot u (fun y => { y with outstanding := none, waiting := [] }) s)
  handOnLoss u visitSent (x.commands.foldl (fun t c => answerLost c t) s1)

/-! ## The timeout of a unit command (R175) -/

/-- The ADVANCE 1 after a firing has timed out or been withdrawn: the roll becomes SUSPECT, the frame is cut, the
cut position recorded and the advance-owed flag clears (R81, R94, R33). -/
def advanceLost (k : Back) (s : State) : State :=
  let s1 := if (s.roll k).state = .ready then enterSuspect k s else s
  match s.timer.frames.get k with
  | none => clearOwed k s1
  | some f => clearOwed k (cutFrameRec k f (updRoll k (fun r => { r with cut := some f.position }) s1))

/-- Another command to a back has timed out: a LEADER or READY roll becomes SUSPECT, and a back in the firing leaves
it with the cut position recorded (R94). -/
def otherTimeout (k : Back) (s : State) : State :=
  match (s.roll k).state with
  | .leader => enterSuspect k s
  | .ready =>
    let cut := (s.shot? k).map (fun x => x.position)
    let s1 := enterSuspect k (leaveFiring k s)
    if cut.isSome then updRoll k (fun r => { r with cut := cut }) s1 else s1
  | .noBack => s
  | .unloaded => s
  | .suspect => s
  | .closing => s
  | .closed => s
  | .lost => s

/-- The roll's part of a timed-out command to a back slot. -/
def backTimeout (u : UnitSlot) (s : State) : State := u.back.elim s (fun k => otherTimeout k s)

/-- The issuing block takes the timeout of its command (R175 step 1). -/
def takeTimeout (u : UnitSlot) (c : Issued) (s : State) : State :=
  match c.issuer with
  | .visit => if u = .feeder then keepFailure .unitTimeout s else cutMetering s
  | .cutPhase => s
  | .firing => u.back.elim s (fun k => advanceLost k s)
  | .leader => backTimeout u s
  | .blanking => u.back.elim s (fun k => drainReports (finishClose k s))
  | .resync tag => answerDeferred 3#8 tag 19 (.refused .unitTimeout) .none s
  | .label => s.setLabels { s.labels with printing := false }
  | .direct tag => answerDeferred 2#8 tag c.cmd.name.code (.refused .unitTimeout) .none (backTimeout u s)

/-- A waiting command is withdrawn from a slot made ABSENT by a timeout (R176): the 740's own advances as a timeout
of them, a visit's command as not sent, a DIRECT frame answered ABSENT. -/
def withdraw (u : UnitSlot) (s : State) (c : Issued) : State :=
  match c.issuer with
  | .firing => u.back.elim s (fun k => advanceLost k s)
  | .leader => backTimeout u s
  | .blanking => u.back.elim s (fun k => drainReports (finishClose k s))
  | .visit => s
  | .cutPhase => s
  | .resync _ => answerLost c s
  | .label => answerLost c s
  | .direct _ => answerLost c s

/-- The slot made ABSENT by a timeout, its commands withdrawn: its unit's own fields, the back's list, and an UNLOADED or
CLOSED back enters NO-BACK; a metering phase in progress is cut, the meter being lost during it (R29, R34, R53, R87,
R168, R175 step 2). -/
def absentUnit (u : UnitSlot) (s : State) : State :=
  match u with
  | .feeder => updSlot .feeder (fun x => { x with magazine := none }) s
  | .meter => cutMetering s
  | .backA => noBackAfter .a (dropList .a s)
  | .backB => noBackAfter .b (dropList .b s)
  | .printer => updSlot .printer (fun x => { x with printer := none }) s
where
  /-- An UNLOADED or CLOSED back enters NO-BACK (R87). -/
  noBackAfter (k : Back) (t : State) : State :=
    if (t.roll k).state = .unloaded ∨ (t.roll k).state = .closed then updRoll k (fun r => { r with state := .noBack }) t
    else t

/-- The UNIT-TIMEOUT fault (R156): for a back's ADVANCE 1 after a firing the frame's order and cut position, for the
visit's LOAD or RETURN the visit's position. -/
def timeoutFault (before s : State) (u : UnitSlot) (o : Outstanding) : FaultRec :=
  match u.back with
  | some k =>
    let f := if o.issuer = .firing then before.timer.frames.get k else none
    faultRec s .unitTimeout (faultUnit u) (f.map (fun x => x.item.order)) (some k) (f.map (fun x => x.position))
  | none =>
    if u = .feeder ∧ o.issuer = .visit then visitFault s .unitTimeout .feeder
    else faultRec s .unitTimeout (faultUnit u) none none none

/-- Steps 1 and 2 of R175: the issuing block takes the timeout; the slot becomes ABSENT with its change flag set and
UNIT-CHANGE raised, and its waiting commands are withdrawn in their order. -/
def timedOut (u : UnitSlot) (o : Outstanding) (s : State) : State :=
  let s1 := takeTimeout u { cmd := o.cmd, issuer := o.issuer } (clearOutstanding u s)
  let s2 := changeSlot u .absent (updSlot u (fun y => { y with waiting := [] }) s1)
  absentUnit u ((s.slot u).waiting.foldl (withdraw u) s2)

/-- The expiry of a command's timeout: steps 1 and 2 of R175, in which a firing that loses its last back ends, then
UNIT-TIMEOUT; then what it leaves of cancels, of a firing that another back is in, of STEP and of R35. A back that leaves
a firing in LAMP-RISING whose other shutter is CLOSED has LAMP-FAIL arise in the same event: UNIT-TIMEOUT is then the
first of the two (R83, R158; assumptions 40 and 47). -/
def commandTimeout (u : UnitSlot) (o : Outstanding) (s : State) : State :=
  let s1 := timedOut u o s
  let s2 := completeCancels (raiseFault (timeoutFault s s1 u o) s1)
  testReturning (u.back.elim s2 (fun k => afterLoss k s s2))

end Sys2Proof.Machine
end

