-- ==== Sys2Proof/Machine/Cleanup.lean ====
section
/-!
DEFINITION. LINK RESET: the entry actions (R163, with R20, R106, R128, R131, R176, R195) and the cleanup (R84, R164
to R166).
-/

namespace Sys2Proof.Machine

/-! ## Entry actions (R163) -/

/-- Every order not ENDING is settled as CANCELLED, without a report; the queue, the ending list and the wanted sets
are emptied (R20, R131). -/
def resetOrders (s : State) : State :=
  let s1 := ((s.queue.orders.filter Order.live).map (fun o => o.number)).foldl (fun t n => settleOrder n t) s
  s1.setQueue { s1.queue with orders := [], ending := [], wantedStock := [], wantedMagazine := [] }

/-- The engine enters RESETTING; an open visit is no longer held and has no members and empty lists; the resume
record is discarded and STEP mode is off (R163). -/
def resetEngine (s : State) : State :=
  s.setGate { s.gate with
    engine := .resetting, stopKind := none, stepMode := false, resume := none,
    cleanup := some { stage := .lines, failure := none },
    visit := s.gate.visit.map (fun v => { v with held := false, release := false, members := [], lists := ⟨[], []⟩ }) }

/-- The fault record, the pending slot, the event flags and the traps are emptied (R163, R179, R188). -/
def resetFlags (s : State) : State :=
  s.setEvents { flags := 0#12, risen := 0#12, current := none, pendingFault := none,
                traps := { film := false, shutter := false, busy := false }, lastTrap := none }

/-- The label queue is emptied; the sync counter becomes the interval, or 0 when it is off (R128). -/
def resetLabelQueue (s : State) : State :=
  s.setLabels { s.labels with
    queue := [], printing := false, syncCounter := s.settings.syncInterval.getD 0, labelWait := false,
    noted := ⟨none, none⟩, truncated := 0, templateErrors := 0 }

/-- A roll's waiting report is discarded, and a CLOSING roll whose report waited enters CLOSED; the pass-through ends
(R106). -/
def resetRoll (r : Roll) : Roll :=
  { r with
    state := if r.state = .closing ∧ r.report.isSome = true then .closed else r.state
    report := none
    passThrough := .idle }

/-- The link's queues are emptied and its reservations released (R195). -/
def resetLinkQueues (s : State) : State :=
  s.setLink { s.link with buffer := [], replies := [], reserved := 0, notice := false, reports := [] }

/-- No reply goes to a deferred frame any more (R176, R187). -/
def silence : Issuer → Issuer
  | .direct _ => .direct none
  | .resync _ => .resync none
  | .visit => .visit
  | .cutPhase => .cutPhase
  | .firing => .firing
  | .leader => .leader
  | .blanking => .blanking
  | .label => .label

/-- A slot at LINK RESET: its change flag clears (R168), a waiting forwarded DIRECT frame is withdrawn without an
answer, and what stays sends no reply (R176). -/
def resetSlotCommands (x : Slot) : Slot :=
  { x with
    changed := false
    outstanding := x.outstanding.map (fun o => { o with issuer := silence o.issuer })
    waiting := (x.waiting.filter (fun c => match c.issuer with | .direct _ => false | _ => true)).map
      (fun c => { c with issuer := silence c.issuer }) }

/-- The same for every slot. -/
def resetBusCommands (s : State) : State :=
  s.setBus { s.bus with
    feeder := resetSlotCommands s.bus.feeder, meter := resetSlotCommands s.bus.meter,
    backA := resetSlotCommands s.bus.backA, backB := resetSlotCommands s.bus.backB,
    printer := resetSlotCommands s.bus.printer }

/-- All entry actions of LINK RESET (R163). -/
def resetEntry (s : State) : State :=
  let s1 := resetEngine (resetOrders s)
  let s2 := resetLabelQueue (resetFlags s1)
  resetLinkQueues (resetBusCommands (s2.setRolls { a := resetRoll s2.rolls.a, b := resetRoll s2.rolls.b }))

/-! ## Stage 1: the lines fall (R84, R164) -/

/-- A PENDING frame record becomes SPOILED LAMP and is charged (R84). -/
def spoilFrame (k : Back) (s : State) : State :=
  match s.timer.frames.get k with
  | none => s
  | some f =>
    if f.lampSpoiled then s
    else chargeFrames .spoiled k 1
      (s.setTimer { s.timer with frames := s.timer.frames.set k (some { f with lampSpoiled := true }) })

/-- A meter command of the phase still outstanding is no longer the visit's; one waiting is withdrawn (R53, R164). -/
def cutMeterSlot (x : Slot) : Slot :=
  { x with
    outstanding := x.outstanding.map (fun o => if o.issuer = .visit then { o with issuer := .cutPhase } else o)
    waiting := x.waiting.filter (fun c => c.issuer != .visit) }

/-- The firing in flight is aborted: a frame record is made for each included back, every frame record becomes
SPOILED LAMP and is charged where it was not, and the advances are issued (R84, R106). -/
def resetFiring (s : State) : State :=
  let frames := match s.timer.firing with
    | some f => framesAfter s f false
    | none => s.timer.frames
  let ks := includedBacks s
  let s1 := dropLines frames s
  oweAdvances ks (spoilFrame .b (spoilFrame .a s1))

/-- Stage 1 of the cleanup, but for the wait for the meter's command of the cut phase (`phaseAtRest`). -/
def linesFall (s : State) : State := updSlot .meter cutMeterSlot (cutMetering (resetFiring s))

/-- Stage 1 has ended: a meter command of the phase that fell has been resolved, by its completion, its timeout or the loss
of the meter. A forwarded DIRECT frame is not waited for (R164). -/
def phaseAtRest (s : State) : Bool := !((s.slot .meter).issuers.any (fun i => i == .cutPhase))

/-! ## Stages 2 to 5 (R164 to R166) -/

/-- The cleanup goes to a stage. -/
def setStage (x : Stage) (s : State) : State :=
  s.setGate { s.gate with cleanup := s.gate.cleanup.map (fun c => { c with stage := x }) }

/-- An advance of the 740's own, or the READ COUNT of a RESYNC ROLL (R164 stage 2). -/
def filmIssuer : Issuer → Bool
  | .firing => true
  | .leader => true
  | .blanking => true
  | .resync _ => true
  | .visit => false
  | .cutPhase => false
  | .label => false
  | .direct _ => false

/-- Stage 2 has ended: none is outstanding or waiting. -/
def filmAtRest (s : State) : Bool := !(s.bus.backA.issuers.any filmIssuer) && !(s.bus.backB.issuers.any filmIssuer)

/-- Stage 3 begins: a LOAD of the visit that waits is withdrawn as not sent (R164). -/
def beginSlide (s : State) : State :=
  setStage .slide (updSlot .feeder (fun x => { x with waiting := x.waiting.filter (fun c =>
    !(decide (c.issuer = .visit) && decide (c.cmd.name = .load))) }) s)

/-- Stage 3: a LOAD or RETURN in flight is awaited; then the slide is returned, unless that has failed (R164, R165). -/
def returnSlide (c : Cleanup) (s : State) : State :=
  if s.visitCommand .feeder then s
  else if c.failure.isNone && s.gate.visit.any (fun v => v.slide) then
    let s1 := updVisit (fun v => { v with state := .returning }) s
    if s1.present .feeder then issue .feeder .ret .visit s1 else setStage .visitClose (keepFailure .unitLost s1)
  else setStage .visitClose s

/-- Stages 4 and 5: the visit closes, and the engine enters STOPPED, or FAULTED with the failure of the slide's return
as current fault (R166). FAULT is raised before ENGINE-STOPPED: the model's choice (assumption 53). -/
def endCleanup (c : Cleanup) (s : State) : State :=
  let s1 := closeVisit s
  match c.failure with
  | none => enterStopped (s1.setGate { s1.gate with cleanup := none })
  | some f =>
    raise .engineStopped (raise .fault
      ((s1.setEvents { s1.events with current := some f }).setGate
        { s1.gate with engine := .faulted, stopKind := none, cleanup := none }))

/-- One stage further, when the stage in progress has ended. -/
def cleanupStep (s : State) : State :=
  match s.gate.cleanup with
  | none => s
  | some c =>
    match c.stage with
    | .lines => if phaseAtRest s then setStage .film s else s
    | .film => if filmAtRest s then beginSlide s else s
    | .slide => returnSlide c s
    | .visitClose => endCleanup c s

/-- The cleanup, as far as it goes without waiting: four stages to enter. -/
def runCleanup (s : State) : State := cleanupStep (cleanupStep (cleanupStep (cleanupStep s)))

end Sys2Proof.Machine
end

