-- ==== Sys2Proof/Machine/Wrap.lean ====
section
/-!
DEFINITION. The transmitter's choice at the events of its own (R193); what every step that can change the stand ends with:
the cleanup, the wanted sets, the end of a stop and the choice of a visit (assumption 8); and the taking of a desk frame
(R186, R187; assumption 1).
-/

namespace Sys2Proof.Machine

/-! ## The transmitter (R193) -/

/-- The arbiter's choice; when a report begins to be sent, its slot is free for a waiting report, and what that
changes is an event of the choice of a visit (R22, R192). -/
def transmit (s : State) : State :=
  let s1 := arbiter s
  if s1.link.reports.length < s.link.reports.length then choose (drainReports s1) else s1

/-! ## The end of a step -/

/-- What a step that changes the stand ends with (assumption 8). -/
def settle (s : State) : State := choose (stopEnds (refreshWanted (runCleanup s)))

/-! ## Taking a desk frame (R186, R187) -/

/-- A reply entry is free (R187). -/
def Link.entryFree (l : Link) : Bool := decide (l.replies.length + l.reserved < Config.replyCapacity)

/-- A frame that cannot be taken yet joins the receive buffer while it has room, and is discarded otherwise (R184,
R185). -/
def bufferFrame (c : Instr) (s : State) : State :=
  match Desk.encode c with
  | none => s
  | some f =>
    if s.link.buffer.length < Config.bufferCapacity then s.setLink { s.link with buffer := s.link.buffer ++ [f] } else s

/-- The state as a desk frame is taken, when it can be: a reply entry is free, and the frame is the head of the receive
buffer, or arrives with the buffer empty (R186, R187; assumption 1). -/
def taken (c : Instr) (s : State) : Option State :=
  if s.link.entryFree then
    match s.link.buffer with
    | [] => some s
    | f :: rest => if Desk.decode f = c then some (s.setLink { s.link with buffer := rest }) else none
  else none

/-- The frame that spells a command is taken, and its action answers it; a frame that cannot be taken as it arrives joins
the receive buffer (R184, R186; assumption 1). -/
def takeFrame (c : Instr) (act : State → State) (s : State) : State :=
  match taken c s with
  | some t => act t
  | none => bufferFrame c s

/-- A frame that is only answered: no other block changes. -/
def replyOnly (c : Instr) (act : State → State) (s : State) : State := takeFrame c act s

/-- A frame whose taking may change the stand. -/
def deskAct (c : Instr) (act : State → State) (s : State) : State := takeFrame c (fun t => settle (act t)) s

/-- The checks every MANAGE command begins with: RESETTING is refused BUSY (R167), and fields that do not agree with
the command's layout are refused BAD-FIELD (R200). -/
def checked {α : Type} (tag : Byte) (code : Nat) (f : Fields α) (body : α → State → State) (s : State) : State :=
  if s.gate.engine = .resetting then answer tag code (.refused .busy) .none s
  else
    match f with
    | .mismatched => answer tag code (.refused .badField) .none s
    | .given x => body x s

/-- The same for a command whose every reply carries the account number it names (07, 7.6). A frame whose payload does not
agree with its layout is answered without a number, even where its bytes would hold one (assumption 41). -/
def checkedNaming {α : Type} (tag : Byte) (code : Nat) (f : Fields α) (data : α → ReplyData)
    (body : α → State → State) (s : State) : State :=
  match f with
  | .mismatched => checked tag code f body s
  | .given x => if s.gate.engine = .resetting then answer tag code (.refused .busy) (data x) s else body x s

/-- The answer REFUSED with a reason and no data. -/
def refuse (tag : Byte) (code : Nat) (r : Reason) (s : State) : State := answer tag code (.refused r) .none s

end Sys2Proof.Machine
end

