-- ==== Sys2Proof/Machine/LinkCmds.lean ====
section
/-!
DEFINITION. Power-on, the receiver, the desk link's events that take no frame, and the frames no block owns (10), with READ STATUS (R194), ACK
EVENTS (R190), SET NOTICE MASK (R191) and CLEAR TRAPS (R181).
-/

namespace Sys2Proof.Machine

/-- The outcome of a command: every command of the 740 goes on. -/
abbrev Out := Host.Outcome State Fault Refusal

/-- POWER_ON: every block at its power-on state; the input lines stand as the desk and the lamp drive them, and the
queue of this model stays (assumption 3). -/
def execPowerOn (s : State) : Out :=
  .next (((State.reset.setPending s.pending).setLink { State.resetLink with deskReady := s.link.deskReady }).setTimer
    { State.resetTimer with lampSense := s.timer.lampSense })

/-! ## The receiver (R184) -/

/-- A whole frame is judged: with a good check and room in the buffer it joins the tail (R184, R185). -/
def judgeFrame (c t : Byte) (len : Nat) (got : List Byte) (l : Link) : Link :=
  let payload := got.take len
  if Desk.natOf (got.drop len) = (crc16 (c :: t :: BitVec.ofNat 8 len :: payload)).toNat ∧
      l.buffer.length < Config.bufferCapacity then
    { l with buffer := l.buffer ++ [{ cls := c, tag := t, payload := payload }] }
  else l

/-- The receiver takes one byte (R184). -/
def Link.receive (l : Link) (x : Byte) : Link :=
  match l.receiver with
  | .hunt => if x = 0xA5#8 then { l with receiver := .cls } else l
  | .cls => { l with receiver := .tag x }
  | .tag c => { l with receiver := .length c x }
  | .length c t => if x.toNat ≤ 250 then { l with receiver := .body c t x.toNat [] } else { l with receiver := .hunt }
  | .body c t len got =>
    if got.length + 1 < len + 2 then { l with receiver := .body c t len (got ++ [x]) }
    else judgeFrame c t len (got ++ [x]) { l with receiver := .hunt }

/-- BYTE_GAP_EXPIRY: the partial frame is abandoned (R184). -/
def execByteGapExpiry (s : State) : Out := .next (s.setLink { s.link with receiver := .hunt })

/-! ## The transmitter (R193) -/

/-- DESK_READY_INACTIVE: the line becomes inactive; a frame begun is sent whole (R193). -/
def execDeskReadyInactive (s : State) : Out := .next (s.setLink { s.link with deskReady := false })

/-! ## Frames that no block owns (R186) -/

/-- UNKNOWN_CLASS: answered UNKNOWN-CLASS with the frame's class and tag (R186). -/
def execUnknownClass (cls tag : Byte) (s : State) : Out :=
  .next (replyOnly (.unknownClass cls tag)
    (addReply { cls := cls, tag := tag, command := 0, result := .unknownClass, data := .none }) s)

/-- PAYLOAD_LENGTH_DISCARD: the frame is discarded without a reply, and its reply entry released at once (R186). -/
def execPayloadLengthDiscard (cls tag : Byte) (s : State) : Out :=
  .next (takeFrame (.payloadLengthDiscard cls tag) id s)

/-- UNKNOWN_MANAGE_COMMAND: answered REFUSED BAD-FIELD in every engine state (R167, R186). -/
def execUnknownManageCommand (tag code : Byte) (s : State) : Out :=
  .next (replyOnly (.unknownManageCommand tag code) (refuse tag code.toNat .badField) s)

/-! ## Event flags and traps -/

/-- Every slot's change flag clears (R168). -/
def clearChanges (x : Bus) : Bus :=
  { x with
    feeder := { x.feeder with changed := false }
    meter := { x.meter with changed := false }
    backA := { x.backA with changed := false }
    backB := { x.backB with changed := false }
    printer := { x.printer with changed := false } }

/-- ACK EVENTS past its checks (R190). -/
def ackEvents (tag : Byte) (named : EventSet) (s : State) : State :=
  let before := s.events.flags
  let after := before &&& ~~~named
  let s1 := s.setEvents { s.events with flags := after }
  let s2 := if hasFlag named .unitChange then s1.setBus (clearChanges s1.bus) else s1
  answer tag 10 .ok (.sets before after) s2

/-- ACK EVENTS clears the flags it names (R190). -/
def execAckEvents (tag : Byte) (f : Fields EventSet) (s : State) : Out :=
  .next (replyOnly (.ackEvents tag f) (checked tag 10 f (ackEvents tag)) s)

/-- SET NOTICE MASK past its checks (R191). -/
def setNoticeMask (tag : Byte) (mask : EventSet) (s : State) : State :=
  answer tag 11 .ok (.sets s.settings.noticeMask mask) (s.setSettings { s.settings with noticeMask := mask })

/-- SET NOTICE MASK replaces the notice mask whole (R191). -/
def execSetNoticeMask (tag : Byte) (f : Fields EventSet) (s : State) : Out :=
  .next (replyOnly (.setNoticeMask tag f) (checked tag 11 f (setNoticeMask tag)) s)

/-- CLEAR TRAPS past its checks (R181). -/
def clearTraps (tag : Byte) (_ : Unit) (s : State) : State :=
  answer tag 12 .ok (.traps s.events.traps s.events.lastTrap)
    (s.setEvents { s.events with traps := { film := false, shutter := false, busy := false }, lastTrap := none })

/-- CLEAR TRAPS answers with the trap flags and the last-trap record, and clears them (R181). -/
def execClearTraps (tag : Byte) (f : Fields Unit) (s : State) : Out :=
  .next (replyOnly (.clearTraps tag f) (checked tag 12 f (clearTraps tag)) s)

/-! ## READ STATUS (R194) -/

/-- What READ STATUS carries of a roll (R104, R183). Before the back's first LOAD ROLL the free positions are absent: the
model's choice (assumption 5). -/
def rollStatus (s : State) (k : Back) : RollStatus :=
  let r := s.roll k
  { state := r.state, rollId := r.film.map (fun f => f.rollId), stock := r.stock?, counter := r.counter,
    free := r.film.map (fun _ => r.free), leaderRemaining := r.leaderRemaining, reportWaiting := r.report.isSome,
    commandOutstanding := (s.slot k.slot).outstanding.isSome, passThrough := r.passThrough }

/-- What READ STATUS carries of a slot (R168). -/
def slotStatus (x : Slot) : SlotStatus :=
  { state := x.state, changed := x.changed, command := x.outstanding.map (fun o => o.cmd.name),
    waiting := x.waiting.length, magazine := x.magazine, printer := x.printer }

/-- What READ STATUS carries of the labels (R121). -/
def labelStatus (s : State) : LabelStatus :=
  { policy := s.settings.labelPolicy, held := s.labels.queue.length, free := s.labels.free,
    printOutstanding := s.printOutstanding, labelWait := s.labels.labelWait, syncCounter := s.labels.syncCounter,
    interval := s.settings.syncInterval, truncated := s.labels.truncated, templateErrors := s.labels.templateErrors }

/-- The controller-ready line: active while the receive buffer holds fewer than 4 frames (R185). -/
def Link.controllerReady (l : Link) : Bool := decide (l.buffer.length < Config.bufferCapacity)

/-- The content of READ STATUS at one instant (R194). The records in the Order Queue by state are given as three counts
(assumption 42). -/
def statusOf (s : State) : Status :=
  { engine := s.gate.engine, stopKind := s.gate.stopKind, stepMode := s.gate.stepMode,
    stage := s.gate.cleanup.map (fun c => c.stage), current := s.events.current,
    pendingFault := s.events.pendingFault, flags := s.events.flags, risen := s.events.risen,
    mask := s.settings.noticeMask, traps := s.events.traps, lastTrap := s.events.lastTrap, visit := s.gate.visit,
    firing := s.timer.firing, frames := s.timer.frames, rolls := ⟨rollStatus s .a, rollStatus s .b⟩,
    queued := s.countOrders (fun o => o.state == .queued), active := s.countOrders (fun o => o.state == .active),
    ending := s.countOrders (fun o => o.state == .ending), endingList := s.queue.ending.length,
    wantedStock := s.queue.wantedStock, wantedMagazine := s.queue.wantedMagazine, labels := labelStatus s,
    units := [slotStatus s.bus.feeder, slotStatus s.bus.meter, slotStatus s.bus.backA, slotStatus s.bus.backB,
      slotStatus s.bus.printer],
    bufferFrames := s.link.buffer.length, repliesHeld := s.link.replies.length, reservations := s.link.reserved,
    noticeHeld := s.link.notice, reportsHeld := s.link.reports.length, controllerReady := s.link.controllerReady,
    deskReady := s.link.deskReady }

/-- READ STATUS once its frame is taken: it is taken in every engine state, RESETTING among them (R194); fields that
it does not have are refused BAD-FIELD (R200). -/
def readStatus (tag : Byte) (f : Fields Unit) (s : State) : State :=
  match f with
  | .mismatched => refuse tag 9 .badField s
  | .given _ => answer tag 9 .ok (.status (statusOf s)) s

/-- READ STATUS returns the state of the 740 in one reply (R194). -/
def execReadStatus (tag : Byte) (f : Fields Unit) (s : State) : Out :=
  .next (replyOnly (.readStatus tag f) (readStatus tag f) s)

end Sys2Proof.Machine
end

