-- ==== Sys2Proof/Machine/EngineCmds.lean ====
section
/-!
DEFINITION. Engine control: RUN, STOP HOLD, STOP RELEASE, STEP ON, STEP OFF, CLEAR FAULT, READ RESUME and LINK RESET
(08).
-/

namespace Sys2Proof.Machine

/-- RUN past its first check (R148). -/
def runEngine (tag : Byte) (_ : Unit) (s : State) : State :=
  match s.gate.engine with
  | .faulted => refuse tag 1 .faulted s
  | .stopping => refuse tag 1 .busy s
  | .stopped =>
    continueVisit (unhold ((answer tag 1 .ok (.engine .running none) s).setGate { s.gate with engine := .running }))
  | _ => answer tag 1 .ok (.engine .running none) s

/-- RUN lets the stand work (R148). -/
def execRun (tag : Byte) (f : Fields Unit) (s : State) : Out :=
  .next (deskAct (.run tag f) (checked tag 1 f (runEngine tag)) s)

/-- The engine of an open visit that has been held: STOPPED at rest, else STOPPING with stop kind HOLD (R149,
R160). -/
def restOrStop (s : State) : State :=
  if s.gate.visit.isNone || s.atRest then enterStopped s
  else s.setGate { s.gate with engine := .stopping, stopKind := some .hold }

/-- STOP HOLD past its first check (R149). -/
def stopHold (tag : Byte) (_ : Unit) (s : State) : State :=
  match s.gate.engine with
  | .running =>
    match s.gate.visit with
    | none => answer tag 2 .ok (.engine .stopped none) (enterStopped s)
    | some _ =>
      let s1 := restOrStop (holdVisit .stop s)
      answer tag 2 .ok (.engine s1.gate.engine none) s1
  | .stopping => answer tag 2 .ok (.engine .stopping (if s.gate.stopKind = some .release then some .release else none)) s
  | e => answer tag 2 .ok (.engine e none) s

/-- STOP HOLD stops the stand and keeps the slide in the gate (R149). -/
def execStopHold (tag : Byte) (f : Fields Unit) (s : State) : Out :=
  .next (deskAct (.stopHold tag f) (checked tag 2 f (stopHold tag)) s)

/-- Release requested is set and the engine enters STOPPING with stop kind RELEASE; a held visit ceases to be held,
its resume record is discarded, and the visit takes its path (R150). -/
def release (s : State) : State :=
  releasePath (setLabelWait false (s.setGate { s.gate with
    engine := .stopping, stopKind := some .release, resume := none,
    visit := s.gate.visit.map (fun v => { v with held := false, release := true }) }))

/-- STOP RELEASE past its first check (R150). -/
def stopRelease (tag : Byte) (_ : Unit) (s : State) : State :=
  match s.gate.engine with
  | .faulted => refuse tag 3 .faulted s
  | .running =>
    if s.gate.visit.isNone then answer tag 3 .ok (.engine .stopped none) (enterStopped s)
    else answer tag 3 .ok (.engine .stopping none) (release s)
  | .stopping =>
    if s.gate.stopKind = some .release then answer tag 3 .ok (.engine .stopping none) s
    else answer tag 3 .ok (.engine .stopping none) (release s)
  | .stopped =>
    if s.gate.visit.isNone then answer tag 3 .ok (.engine .stopped none) s
    else answer tag 3 .ok (.engine .stopping none) (release s)
  | .resetting => refuse tag 3 .busy s

/-- STOP RELEASE stops the stand and sends the slide back (R150). -/
def execStopRelease (tag : Byte) (f : Fields Unit) (s : State) : Out :=
  .next (deskAct (.stopRelease tag f) (checked tag 3 f (stopRelease tag)) s)

/-- Set the STEP mode and answer with it (R152). -/
def setStep (tag : Byte) (code : Nat) (on : Bool) (s : State) : State :=
  answer tag code .ok (.step on s.gate.engine) (s.setGate { s.gate with stepMode := on })

/-- STEP ON (R152). -/
def execStepOn (tag : Byte) (f : Fields Unit) (s : State) : Out :=
  .next (replyOnly (.stepOn tag f) (checked tag 4 f (fun _ => setStep tag 4 true)) s)

/-- STEP OFF (R152). -/
def execStepOff (tag : Byte) (f : Fields Unit) (s : State) : Out :=
  .next (replyOnly (.stepOff tag f) (checked tag 5 f (fun _ => setStep tag 5 false)) s)

/-- The fault is a GATE-JAM of LOADING or RETURNING (R161). -/
def jamOfGate (f : Option FaultRec) : Bool :=
  f.any (fun x => x.kind == .gateJam && (x.visit == some .loading || x.visit == some .returning))

/-- CLEAR FAULT past its checks: the current fault is removed, a GATE-JAM's visit closes, and the pending fault is
promoted or the engine leaves FAULTED (R160, R161). -/
def removeFault (tag : Byte) (s : State) : State :=
  let s1 := s.setEvents { s.events with current := none, pendingFault := none }
  let s2 := if jamOfGate s.events.current then closeVisit s1 else s1
  match s.events.pendingFault with
  | some p =>
    answer tag 6 .ok (.promoted .faulted p) (raise .fault (s2.setEvents { s2.events with current := some p }))
  | none =>
    let s3 := restOrStop s2
    answer tag 6 .ok (.engine s3.gate.engine none) s3

/-- CLEAR FAULT past its first check (R160). -/
def clearFault (tag : Byte) (_ : Unit) (s : State) : State :=
  if s.gate.engine = .faulted then removeFault tag s else refuse tag 6 .notFaulted s

/-- CLEAR FAULT removes the current fault (R160). -/
def execClearFault (tag : Byte) (f : Fields Unit) (s : State) : Out :=
  .next (deskAct (.clearFault tag f) (checked tag 6 f (clearFault tag)) s)

/-- The feeder or meter command a held visit will send when it goes on (R39, R153). -/
def pendingCommand (s : State) (v : Visit) : PendingCmd :=
  match v.state with
  | .loading => if s.visitCommand .feeder then .none else .load
  | .metering => if v.metering then .none else .scan
  | .exposing => .none
  | .returning => if s.visitCommand .feeder then .none else .ret

/-- One back's fields of the resume record, which follow the visit (R153). -/
def resumeBack (v : Visit) (k : Back) : ResumeBack :=
  { head := (v.lists.get k).head?, items := (v.lists.get k).length, dropped := v.dropped.get k, owed := v.owed.get k }

/-- The resume record of a held visit (R153, R154). -/
def resumeView (s : State) (v : Visit) (r : Resume) : ResumeView :=
  { magazine := v.magazine, position := v.position, state := v.state, cause := r.cause, slide := v.slide,
    pending := pendingCommand s v, backs := ⟨resumeBack v .a, resumeBack v .b⟩,
    firingCut := !r.cutFiring.isEmpty, cutFiring := r.cutFiring, engine := s.gate.engine }

/-- READ RESUME past its first check (R155). -/
def readResume (tag : Byte) (_ : Unit) (s : State) : State :=
  match s.gate.visit, s.gate.resume with
  | some v, some r => answer tag 7 .ok (.resume (resumeView s v r)) s
  | _, _ => refuse tag 7 .notHeld s

/-- READ RESUME returns the resume record (R155). -/
def execReadResume (tag : Byte) (f : Fields Unit) (s : State) : Out :=
  .next (replyOnly (.readResume tag f) (checked tag 7 f (readResume tag)) s)

/-- LINK RESET past its check: the entry actions, its reply as first entry of the emptied queue, and the fall of the
lines; the cleanup goes on as the step ends (R163, R164, R195). -/
def linkReset (tag : Byte) (_ : Unit) (s : State) : State :=
  linesFall (answer tag 8 .ok (.engine .resetting none) (resetEntry s))

/-- LINK RESET brings the 740 back to a known state (R163 to R166). -/
def execLinkReset (tag : Byte) (f : Fields Unit) (s : State) : Out :=
  .next (deskAct (.linkReset tag f) (checked tag 8 f (linkReset tag)) s)

end Sys2Proof.Machine
end

