-- ==== Sys2Proof/Machine/TableCmds.lean ====
section
/-!
DEFINITION. SET SETTINGS and READ SETTINGS (R197, R198), and LOAD ENTRY and READ ENTRY of the four tables (R43 to R46,
R65 to R67, R108 to R110, R133, R134, R199).
-/

namespace Sys2Proof.Machine

/-! ## Settings -/

/-- The reason SET SETTINGS is refused for, past its first check (R197). -/
def settingsRefusal (items : List SettingItem) (s : State) : Option Reason :=
  if !(items.all settingGood && itemsDistinct items) then some .badField
  else if carriedOr 4 s.settings.ceiling items ≤ carriedOr 3 s.settings.floor items then some .floorCeiling
  else if !(items.all (fun i => groupB i.item) || (s.gate.engine == .stopped && s.gate.visit.isNone)) then some .busy
  else none

/-- The numbers of the items a clamp changed, in the order in which the frame carried them: the model's choice (R197;
assumption 43). -/
def clampedNumbers (items : List SettingItem) : List Nat :=
  (items.filter (fun i => settingClamped i != i)).map (fun i => i.item)

/-- The record after the write (R197). -/
def writtenSettings (items : List SettingItem) (x : Settings) : Settings :=
  items.foldl (fun y i => writeSetting y (settingClamped i)) x

/-- Every item is written; a changed label policy is an event of the firing test (R30, R122, R197). -/
def writeSettings (tag : Byte) (items : List SettingItem) (s : State) : State :=
  let x := writtenSettings items s.settings
  let clamps := clampedNumbers items
  let s1 := answer tag 13 (if clamps.isEmpty then .ok else .clamped) (.settings (settingItems x) clamps) (s.setSettings x)
  if x.labelPolicy = s.settings.labelPolicy then s1 else testVisit s1

/-- SET SETTINGS past its first check (R197). -/
def setSettings (tag : Byte) (items : List SettingItem) (s : State) : State :=
  match settingsRefusal items s with
  | some r => refuse tag 13 r s
  | none => writeSettings tag items s

/-- SET SETTINGS writes a list of items (R197). -/
def execSetSettings (tag : Byte) (f : Fields (List SettingItem)) (s : State) : Out :=
  .next (deskAct (.setSettings tag f) (checked tag 13 f (setSettings tag)) s)

/-- READ SETTINGS returns all 21 items (R198). -/
def execReadSettings (tag : Byte) (f : Fields Unit) (s : State) : Out :=
  .next (replyOnly (.readSettings tag f)
    (checked tag 14 f (fun _ t => answer tag 14 .ok (.settings (settingItems t.settings) []) t)) s)

/-! ## The Stock Table -/

/-- A roll in LEADER, READY, SUSPECT or CLOSING carries the code (R45). -/
def Roll.carriesOnFilm (r : Roll) (code : Nat) : Bool := r.state.onFilm && r.stock? == some code

/-- Either back's roll does. -/
def State.stockOnFilm (s : State) (code : Nat) : Bool := s.rolls.a.carriesOnFilm code || s.rolls.b.carriesOnFilm code

/-- A code is present in the Stock Table. -/
def State.hasStock (s : State) (code : Nat) : Bool := (s.stock? code).isSome

/-- The places with an entry written: in the place of its code, else in the first free place (R43; assumption 15). -/
def putStock (e : StockEntry) (places : List (Option StockEntry)) : List (Option StockEntry) :=
  match places.findIdx? (fun p => p.any (fun x => x.code == e.code)) with
  | some i => places.set i (some e)
  | none =>
    match places.findIdx? (fun p => p.isNone) with
    | some i => places.set i (some e)
    | none => places

/-- The reason a stock write is refused for, past its first check (R43). -/
def stockWriteRefusal (f : StockFields) (s : State) : Option Reason :=
  if !stockFieldsGood f then some .badField
  else if s.stockOnFilm f.code then some .inUse
  else if !s.hasStock f.code && s.tables.stocks.all Option.isSome then some .tableFull
  else none

/-- LOAD ENTRY of a stock, past its first check (R43). -/
def writeStock (tag : Byte) (f : StockFields) (s : State) : State :=
  match stockWriteRefusal f s with
  | some r => refuse tag 15 r s
  | none =>
    answer tag 15 (if textClamped 8 f.name then .clamped else .ok) .none
      (s.setTables { s.tables with stocks := putStock (stockEntryOf f) s.tables.stocks })

/-- LOAD_ENTRY_STOCK_WRITE (R43). -/
def execLoadEntryStockWrite (tag : Byte) (f : Fields StockFields) (s : State) : Out :=
  .next (replyOnly (.loadEntryStockWrite tag f) (checked tag 15 f (writeStock tag)) s)

/-- The reason a stock deletion is refused for, past its first check (R44). -/
def stockDeleteRefusal (code : Nat) (s : State) : Option Reason :=
  if !inRange 1 255 code then some .badField
  else if !s.hasStock code then some .noEntry
  else if s.stockOnFilm code || s.queue.orders.any (fun o => o.stock == code) then some .inUse
  else none

/-- The places without a code. -/
def dropStock (code : Nat) (places : List (Option StockEntry)) : List (Option StockEntry) :=
  places.map (fun p => if p.any (fun x => x.code == code) then none else p)

/-- LOAD ENTRY of a stock with no fields, past its first check (R44). -/
def deleteStock (tag : Byte) (code : Nat) (s : State) : State :=
  match stockDeleteRefusal code s with
  | some r => refuse tag 15 r s
  | none => answer tag 15 .ok .none (s.setTables { s.tables with stocks := dropStock code s.tables.stocks })

/-- LOAD_ENTRY_STOCK_DELETE (R44). -/
def execLoadEntryStockDelete (tag : Byte) (f : Fields Nat) (s : State) : Out :=
  .next (replyOnly (.loadEntryStockDelete tag f) (checked tag 15 f (deleteStock tag)) s)

/-- A roll carries a stock code when its roll record holds that code, in any back state: the state limits of R45 are those
of the IN-USE checks alone (R45). -/
def Roll.carries (r : Roll) (code : Nat) : Bool := r.stock? == some code

/-- The use of a stock code: of each back, whether its roll carries it, and its state (R46). -/
def stockUse (s : State) (code : Nat) : StockUse :=
  { carries := ⟨s.rolls.a.carries code, s.rolls.b.carries code⟩,
    states := ⟨s.rolls.a.state, s.rolls.b.state⟩, orders := s.countOrders (fun o => o.stock == code),
    wanted := s.queue.wantedStock.contains code }

/-- READ ENTRY of the Stock Table, past its first check (R46). -/
def readStock (tag : Byte) (key : Option Nat) (s : State) : State :=
  match key with
  | none => answer tag 16 .ok (.keys (s.tables.stocks.filterMap (fun p => p.map (fun e => e.code)))) s
  | some code =>
    match s.stock? code with
    | none => refuse tag 16 .noEntry s
    | some e => answer tag 16 .ok (.stockEntry e (stockUse s code)) s

/-- READ_ENTRY_STOCK (R46). -/
def execReadEntryStock (tag : Byte) (f : Fields (Option Nat)) (s : State) : Out :=
  .next (replyOnly (.readEntryStock tag f) (checked tag 16 f (readStock tag)) s)

/-! ## The Bracket Pattern Table -/

/-- A pattern entry, when it is loaded. -/
def State.pattern? (s : State) (n : Nat) : Option Pattern := (s.tables.patterns[n]?).getD none

/-- LOAD ENTRY of a pattern, past its first check (R65). -/
def writePattern (tag : Byte) (f : PatternFields) (s : State) : State :=
  if patternFieldsGood f then
    answer tag 15 .ok .none (s.setTables { s.tables with
      patterns := s.tables.patterns.set f.number (some { offsets := f.offsets, nominal := f.nominal }) })
  else refuse tag 15 .badField s

/-- LOAD_ENTRY_PATTERN_WRITE (R65). -/
def execLoadEntryPatternWrite (tag : Byte) (f : Fields PatternFields) (s : State) : Out :=
  .next (replyOnly (.loadEntryPatternWrite tag f) (checked tag 15 f (writePattern tag)) s)

/-- LOAD ENTRY of a pattern with no fields, past its first check (R66). -/
def emptyPattern (tag : Byte) (n : Nat) (s : State) : State :=
  if !inRange 1 15 n then refuse tag 15 .badField s
  else if (s.pattern? n).isNone then refuse tag 15 .noEntry s
  else answer tag 15 .ok .none (s.setTables { s.tables with patterns := s.tables.patterns.set n none })

/-- LOAD_ENTRY_PATTERN_EMPTY (R66). -/
def execLoadEntryPatternEmpty (tag : Byte) (f : Fields Nat) (s : State) : Out :=
  .next (replyOnly (.loadEntryPatternEmpty tag f) (checked tag 15 f (emptyPattern tag)) s)

/-- The numbers of the loaded places of a table, ascending (R67, R110). -/
def loadedNumbers {α : Type} (places : List (Option α)) : List Nat :=
  ((places.zipIdx 0).filter (fun p => p.1.isSome)).map (fun p => p.2)

/-- READ ENTRY of the Bracket Pattern Table, past its first check (R67). -/
def readPattern (tag : Byte) (key : Option Nat) (s : State) : State :=
  match key with
  | none => answer tag 16 .ok (.keys (loadedNumbers s.tables.patterns)) s
  | some n =>
    if 15 < n then refuse tag 16 .badField s
    else
      match s.pattern? n with
      | none => refuse tag 16 .noEntry s
      | some p => answer tag 16 .ok (.patternEntry p) s

/-- READ_ENTRY_PATTERN (R67). -/
def execReadEntryPattern (tag : Byte) (f : Fields (Option Nat)) (s : State) : Out :=
  .next (replyOnly (.readEntryPattern tag f) (checked tag 16 f (readPattern tag)) s)

/-! ## The Label Template Table -/

/-- A template, when it is loaded. -/
def State.template? (s : State) (n : Nat) : Option Template := (s.labels.templates[n]?).getD none

/-- The number of orders in the Order Queue that name a template. -/
def State.ordersNaming (s : State) (n : Nat) : Nat := s.countOrders (fun o => o.template == some n)

/-- LOAD ENTRY of a template, past its first check (R108). -/
def writeTemplate (tag : Byte) (f : TemplateFields) (s : State) : State :=
  match programOf f with
  | none => refuse tag 15 .badField s
  | some p =>
    if s.ordersNaming f.number ≠ 0 then refuse tag 15 .inUse s
    else
      answer tag 15 (if f.literals.any (textClamped 12) then .clamped else .ok) .none
        (s.setLabels { s.labels with templates := s.labels.templates.set f.number (some p) })

/-- LOAD_ENTRY_TEMPLATE_WRITE (R108). -/
def execLoadEntryTemplateWrite (tag : Byte) (f : Fields TemplateFields) (s : State) : Out :=
  .next (replyOnly (.loadEntryTemplateWrite tag f) (checked tag 15 f (writeTemplate tag)) s)

/-- LOAD ENTRY of a template with no program, past its first check (R109). -/
def emptyTemplate (tag : Byte) (n : Nat) (s : State) : State :=
  if 7 < n then refuse tag 15 .badField s
  else if (s.template? n).isNone then refuse tag 15 .noEntry s
  else if s.ordersNaming n ≠ 0 then refuse tag 15 .inUse s
  else answer tag 15 .ok .none (s.setLabels { s.labels with templates := s.labels.templates.set n none })

/-- LOAD_ENTRY_TEMPLATE_EMPTY (R109). -/
def execLoadEntryTemplateEmpty (tag : Byte) (f : Fields Nat) (s : State) : Out :=
  .next (replyOnly (.loadEntryTemplateEmpty tag f) (checked tag 15 f (emptyTemplate tag)) s)

/-- READ ENTRY of the Label Template Table, past its first check (R110). -/
def readTemplate (tag : Byte) (key : Option Nat) (s : State) : State :=
  match key with
  | none => answer tag 16 .ok (.keys (loadedNumbers s.labels.templates)) s
  | some n =>
    if 7 < n then refuse tag 16 .badField s
    else
      match s.template? n with
      | none => refuse tag 16 .noEntry s
      | some t => answer tag 16 .ok (.templateEntry t (s.ordersNaming n)) s

/-- READ_ENTRY_TEMPLATE (R110). -/
def execReadEntryTemplate (tag : Byte) (f : Fields (Option Nat)) (s : State) : Out :=
  .next (replyOnly (.readEntryTemplate tag f) (checked tag 16 f (readTemplate tag)) s)

/-! ## The Fee Table -/

/-- LOAD ENTRY of a fee, past its first check; no value sets the fee to 0 (R133). -/
def writeFee (tag : Byte) (f : FeeFields) (s : State) : State :=
  match feeOf f.fee with
  | none => refuse tag 15 .badField s
  | some n =>
    answer tag 15 .ok (.feeChange (s.charge.fees.get n) (f.value.getD 0))
      (s.setCharge { s.charge with fees := s.charge.fees.set n (f.value.getD 0) })

/-- LOAD_ENTRY_FEE (R133). -/
def execLoadEntryFee (tag : Byte) (f : Fields FeeFields) (s : State) : Out :=
  .next (replyOnly (.loadEntryFee tag f) (checked tag 15 f (writeFee tag)) s)

/-- READ ENTRY of the Fee Table, past its first check (R134). -/
def readFee (tag : Byte) (key : Option Nat) (s : State) : State :=
  match key with
  | none => answer tag 16 .ok (.fees s.charge.fees) s
  | some k =>
    match feeOf k with
    | none => refuse tag 16 .badField s
    | some n => answer tag 16 .ok (.fee (s.charge.fees.get n)) s

/-- READ_ENTRY_FEE (R134). -/
def execReadEntryFee (tag : Byte) (f : Fields (Option Nat)) (s : State) : Out :=
  .next (replyOnly (.readEntryFee tag f) (checked tag 16 f (readFee tag)) s)

/-- LOAD_ENTRY_BAD_SELECTOR: a selector other than 1 to 4 is refused BAD-FIELD, after BUSY while RESETTING (R199). -/
def execLoadEntryBadSelector (tag : Byte) (reading : Bool) (selector : Option Byte) (s : State) : Out :=
  .next (replyOnly (.loadEntryBadSelector tag reading selector)
    (checked tag (if reading then 16 else 15) (.mismatched : Fields Unit) (fun _ t => t)) s)

end Sys2Proof.Machine
end

