-- ==== Sys2Proof/Machine/AccountCmds.lean ====
section
/-!
DEFINITION. The account commands (R140 to R146). Every reply of theirs carries the account number (07, 7.6).
-/

namespace Sys2Proof.Machine

/-- A refusal that carries the account number. -/
def refuseAccount (tag : Byte) (code n : Nat) (r : Reason) (s : State) : State :=
  answer tag code (.refused r) (.accountNumber n) s

/-- The orders in the Order Queue that name an account. -/
def State.ordersOf (s : State) (n : Nat) : Nat := s.countOrders (fun o => o.account == n)

/-- OPEN ACCOUNT past its first check (R140). -/
def openAccount (tag : Byte) (f : AccountSum) (s : State) : State :=
  if f.number = 0 then refuseAccount tag 24 f.number .houseRefused s
  else if (s.charge.account? f.number).isSome then refuseAccount tag 24 f.number .exists_ s
  else if Config.accountCapacity ≤ s.charge.accounts.length then refuseAccount tag 24 f.number .tableFull s
  else
    answer tag 24 .ok (.accountCeiling f.number f.amount) (s.setCharge { s.charge with
      accounts := insertAccount
        { number := f.number, isOpen := true, ceiling := f.amount, committed := 0, charged := 0, goodFrames := 0,
          settledOrders := 0 } s.charge.accounts })

/-- OPEN ACCOUNT adds an account (R140). -/
def execOpenAccount (tag : Byte) (f : Fields AccountSum) (s : State) : Out :=
  .next (replyOnly (.openAccount tag f)
    (checkedNaming tag 24 f (fun x => .accountNumber x.number) (openAccount tag)) s)

/-- READ ACCOUNT past its first check (R141). -/
def readAccount (tag : Byte) (key : Option Nat) (s : State) : State :=
  match key with
  | none => answer tag 25 .ok (.keys (0 :: s.charge.accounts.map (fun a => a.number))) s
  | some n =>
    if n = 0 then answer tag 25 .ok (.house s.charge.house (s.ordersOf 0)) s
    else
      match s.charge.account? n with
      | none => refuseAccount tag 25 n .noAccount s
      | some a => answer tag 25 .ok (.account a a.headroom (s.ordersOf n)) s

/-- READ ACCOUNT returns account records (R141). -/
def execReadAccount (tag : Byte) (f : Fields (Option Nat)) (s : State) : Out :=
  .next (replyOnly (.readAccount tag f)
    (checkedNaming tag 25 f (fun n => n.elim .none .accountNumber) (readAccount tag)) s)

/-- A command on an account other than house: the checks 2 and 3 that SET CEILING, SUSPEND, REOPEN and DELETE
ACCOUNT share (R142, R143, R146). -/
def onAccount (tag : Byte) (code n : Nat) (act : Account → State → State) (s : State) : State :=
  if n = 0 then refuseAccount tag code n .houseRefused s
  else
    match s.charge.account? n with
    | none => refuseAccount tag code n .noAccount s
    | some a => act a s

/-- SET CEILING on an account present (R142). -/
def putCeiling (tag : Byte) (f : AccountSum) (a : Account) (s : State) : State :=
  if f.amount < a.committed + a.charged then
    answer tag 26 (.refused .ceilingLow) (.ceilingLow f.number (a.committed + a.charged)) s
  else
    answer tag 26 .ok (.ceilingSet f.number f.amount (f.amount - a.committed - a.charged))
      (updAccount f.number (fun x => { x with ceiling := f.amount }) s)

/-- SET CEILING changes an account's ceiling (R142). -/
def execSetCeiling (tag : Byte) (f : Fields AccountSum) (s : State) : Out :=
  .next (replyOnly (.setCeiling tag f)
    (checkedNaming tag 26 f (fun x => .accountNumber x.number) (fun x => onAccount tag 26 x.number (putCeiling tag x))) s)

/-- The state of an account is set, and answered (R143). -/
def putOpen (tag : Byte) (code n : Nat) (isOpen : Bool) (_ : Account) (s : State) : State :=
  answer tag code .ok (.accountState n isOpen) (updAccount n (fun x => { x with isOpen := isOpen }) s)

/-- SUSPEND ACCOUNT stops new admission to an account (R143). -/
def execSuspendAccount (tag : Byte) (f : Fields Nat) (s : State) : Out :=
  .next (replyOnly (.suspendAccount tag f)
    (checkedNaming tag 27 f .accountNumber (fun n => onAccount tag 27 n (putOpen tag 27 n false))) s)

/-- REOPEN ACCOUNT restores it (R143). -/
def execReopenAccount (tag : Byte) (f : Fields Nat) (s : State) : Out :=
  .next (replyOnly (.reopenAccount tag f)
    (checkedNaming tag 28 f .accountNumber (fun n => onAccount tag 28 n (putOpen tag 28 n true))) s)

/-- CREDIT past its first check: charged falls by the amount and stops at 0 (R144). -/
def credit (tag : Byte) (f : AccountSum) (s : State) : State :=
  if f.number = 0 then
    let h := s.charge.house
    answer tag 29 .ok (.credited 0 (min f.amount h.charged) (h.charged - f.amount))
      (s.setCharge { s.charge with house := { h with charged := h.charged - f.amount } })
  else
    match s.charge.account? f.number with
    | none => refuseAccount tag 29 f.number .noAccount s
    | some a =>
      answer tag 29 .ok (.credited f.number (min f.amount a.charged) (a.charged - f.amount))
        (updAccount f.number (fun x => { x with charged := x.charged - f.amount }) s)

/-- CREDIT takes an amount off an account's charged sum (R144). -/
def execCredit (tag : Byte) (f : Fields AccountSum) (s : State) : Out :=
  .next (replyOnly (.credit tag f)
    (checkedNaming tag 29 f (fun x => .accountNumber x.number) (credit tag)) s)

/-- CLEAR CHARGED past its first check (R145). -/
def clearCharged (tag : Byte) (n : Nat) (s : State) : State :=
  if n = 0 then
    answer tag 30 .ok (.closedBooks 0 s.charge.house.charged 0 0) (s.setCharge { s.charge with
      house := { charged := 0, blank := 0, spoiled := 0, cut := 0, fogged := 0, labels := 0 } })
  else
    match s.charge.account? n with
    | none => refuseAccount tag 30 n .noAccount s
    | some a =>
      answer tag 30 .ok (.closedBooks n a.charged a.goodFrames a.settledOrders)
        (updAccount n (fun x => { x with charged := 0, goodFrames := 0, settledOrders := 0 }) s)

/-- CLEAR CHARGED starts an account's spending afresh (R145). -/
def execClearCharged (tag : Byte) (f : Fields Nat) (s : State) : Out :=
  .next (replyOnly (.clearCharged tag f)
    (checkedNaming tag 30 f .accountNumber (clearCharged tag)) s)

/-- DELETE ACCOUNT on an account present (R146). -/
def dropAccount (tag : Byte) (n : Nat) (a : Account) (s : State) : State :=
  if a.committed ≠ 0 ∨ s.ordersOf n ≠ 0 then refuseAccount tag 31 n .inUse s
  else
    answer tag 31 .ok (.closedBooks n a.charged a.goodFrames a.settledOrders)
      (s.setCharge { s.charge with accounts := s.charge.accounts.filter (fun x => x.number != n) })

/-- DELETE ACCOUNT removes an account (R146). -/
def execDeleteAccount (tag : Byte) (f : Fields Nat) (s : State) : Out :=
  .next (replyOnly (.deleteAccount tag f)
    (checkedNaming tag 31 f .accountNumber (fun n => onAccount tag 31 n (dropAccount tag n))) s)

end Sys2Proof.Machine
end

