-- ==== Sys2Proof/Machine/RollCmds.lean ====
section
/-!
DEFINITION. LOAD ROLL, CLOSE ROLL, RESYNC ROLL and READ ROLL MAP (R89, R96, R99, R104), and DISCARD LABELS (R127).
-/

namespace Sys2Proof.Machine

/-- The reason LOAD ROLL is refused for on a back, past check 2 (R89). -/
def loadRollRefusal (k : Back) (stock : Nat) (s : State) : Option Reason :=
  if !s.present k.slot then some .noUnit
  else if (s.roll k).state ≠ .unloaded ∧ (s.roll k).state ≠ .closed then some .rollState
  else if !s.hasStock stock then some .noStock
  else if (s.roll k).report.isSome then some .busy
  else none

/-- LOAD ROLL past its first check (R89). -/
def loadRoll (tag : Byte) (f : LoadRollFields) (s : State) : State :=
  match backOf f.back with
  | none => refuse tag 17 .badField s
  | some k =>
    if !(inRange 1 255 f.stock && decide (f.rollId.length = 6) && f.rollId.all printable) then refuse tag 17 .badField s
    else
      match loadRollRefusal k f.stock s, s.stock? f.stock with
      | none, some e =>
        let s1 := updRoll k (loadedRoll f.rollId e s.settings) s
        sendLeader k (answer tag 17 .ok (.rollLoaded (s1.roll k).state e.frames) s1)
      | some r, _ => refuse tag 17 r s
      | none, none => refuse tag 17 .noStock s

/-- LOAD ROLL puts a new roll on a back (R89, R90). -/
def execLoadRoll (tag : Byte) (f : Fields LoadRollFields) (s : State) : Out :=
  .next (deskAct (.loadRoll tag f) (checked tag 17 f (loadRoll tag)) s)

/-- The reason CLOSE ROLL is refused for, past check 2 (R96). -/
def closeRollRefusal (k : Back) (s : State) : Option Reason :=
  let st := (s.roll k).state
  if st ≠ .leader ∧ st ≠ .ready ∧ st ≠ .suspect then some .rollState
  else if (s.shot? k).isSome || (s.timer.frames.get k).isSome || (s.slot k.slot).outstanding.isSome then some .busy
  else none

/-- CLOSE ROLL past its first check (R96): the roll closes, and the reply names the state it entered, CLOSING. The dropped
list is an event of R35. -/
def closeRoll (tag : Byte) (b : Nat) (s : State) : State :=
  match backOf b with
  | none => refuse tag 18 .badField s
  | some k =>
    match closeRollRefusal k s with
    | some r => refuse tag 18 r s
    | none =>
      let cause : CloseCause := if (s.roll k).state = .suspect then .suspect else .desk
      testReturning (answer tag 18 .ok (.backState .closing) (drainReports (closeRollFor k cause s)))

/-- CLOSE ROLL takes a roll off at the desk's word (R96). -/
def execCloseRoll (tag : Byte) (f : Fields Nat) (s : State) : Out :=
  .next (deskAct (.closeRoll tag f) (checked tag 18 f (closeRoll tag)) s)

/-- The reason RESYNC ROLL is refused for, past check 2 (R99). -/
def resyncRefusal (k : Back) (s : State) : Option Reason :=
  if (s.roll k).state ≠ .suspect then some .rollState
  else if (s.roll k).leaderRemaining ≠ 0 then some .leader
  else if !s.present k.slot then some .noUnit
  else if (s.slot k.slot).outstanding.isSome then some .busy
  else none

/-- A deferred frame reserves a reply entry (R187). -/
def reserve (s : State) : State := s.setLink { s.link with reserved := s.link.reserved + 1 }

/-- RESYNC ROLL past its first check (R99). -/
def resyncRoll (tag : Byte) (b : Nat) (s : State) : State :=
  match backOf b with
  | none => refuse tag 19 .badField s
  | some k =>
    match resyncRefusal k s with
    | some r => refuse tag 19 r s
    | none => issue k.slot .readCount (.resync (some tag)) (reserve s)

/-- RESYNC ROLL asks a SUSPECT roll's back for its count; the reply is deferred (R99, R187). -/
def execResyncRoll (tag : Byte) (f : Fields Nat) (s : State) : Out :=
  .next (replyOnly (.resyncRoll tag f) (checked tag 19 f (resyncRoll tag)) s)

/-- The entries from a position on, in ascending order, at most `count` of them (R104). -/
def mapFrom (r : Roll) (first count : Nat) : List MapEntry :=
  ((((r.film.map (fun f => f.map)).getD []).drop (first - 1))).take count

/-- READ ROLL MAP past its first check (R104). -/
def readRollMap (tag : Byte) (f : RollMapFields) (s : State) : State :=
  match backOf f.back with
  | none => refuse tag 20 .badField s
  | some k =>
    let r := s.roll k
    if r.film.isNone then refuse tag 20 .noRoll s
    else
      match f.range with
      | none => answer tag 20 .ok (.rollMap k r none []) s
      | some (first, count) =>
        if inRange 1 r.frames first && inRange 1 16 count then
          answer tag 20 .ok (.rollMap k r (some first) (mapFrom r first count)) s
        else refuse tag 20 .badField s

/-- READ ROLL MAP returns a roll record and entries of its map (R104). -/
def execReadRollMap (tag : Byte) (f : Fields RollMapFields) (s : State) : Out :=
  .next (replyOnly (.readRollMap tag f) (checked tag 20 f (readRollMap tag)) s)

/-- The label queue after DISCARD LABELS: a record being printed stays (R127). -/
def keptLabels (l : Labels) : List LabelRec := if l.printing then l.queue.take 1 else []

/-- DISCARD LABELS past its first check; records leaving are events of the firing test (R30, R121, R127). -/
def discardLabels (tag : Byte) (_ : Unit) (s : State) : State :=
  let n := s.labels.queue.length - (keptLabels s.labels).length
  let s1 := answer tag 23 .ok (.discarded n (s.labels.printing && !s.labels.queue.isEmpty))
    (s.setLabels { s.labels with queue := keptLabels s.labels })
  if n = 0 then s1 else testVisit s1

/-- DISCARD LABELS empties the label queue (R127). -/
def execDiscardLabels (tag : Byte) (f : Fields Unit) (s : State) : Out :=
  .next (deskAct (.discardLabels tag f) (checked tag 23 f (discardLabels tag)) s)

end Sys2Proof.Machine
end

