-- ==== Sys2Proof/Machine/OrderCmds.lean ====
section
/-!
DEFINITION. ORDER frames (R1 to R6, R135, R136), CANCEL ORDER (R17, R18) and READ ORDER (R19).
-/

namespace Sys2Proof.Machine

/-- What the tables give an ORDER frame that passes checks 1 to 6 of R4. -/
structure OrderTerms where
  account : Account
  pattern : Pattern
  prices : Prices
  mode : MeterMode
deriving DecidableEq, Repr

/-- The named template is loaded, or none is named (R4 check 6). -/
def templateGood (s : State) (t : Option Nat) : Bool := t.all (fun n => (s.template? n).isSome)

/-- The prices in force for a stock (R5, R132). -/
def pricesOf (s : State) (e : StockEntry) : Prices :=
  { frame := e.price, orderFee := s.charge.fees.order, rushFee := s.charge.fees.rush, labelFee := s.charge.fees.label }

/-- Checks 1 to 6 of R4, in their order. -/
def orderTerms (f : OrderFields) (s : State) : Except Reason OrderTerms :=
  if !orderFieldsGood f then .error .badField
  else if f.account = 0 then .error .houseRefused
  else
    match s.charge.account? f.account with
    | none => .error .noAccount
    | some a =>
      if !a.isOpen then .error .suspended
      else
        match s.stock? f.stock with
        | none => .error .noStock
        | some e =>
          match s.pattern? f.pattern with
          | none => .error .noPattern
          | some p =>
            if !templateGood s f.template then .error .noTemplate
            else
              match modeOf f.mode with
              | none => .error .badField
              | some m => .ok { account := a, pattern := p, prices := pricesOf s e, mode := m }

/-- The reservation of a frame under its terms (R135). -/
def frameReservation (f : OrderFields) (t : OrderTerms) : Nat :=
  reservation t.prices f.rush f.template.isSome f.copies t.pattern.steps

/-- The record of an admitted order (R1, R2, R5, R6). -/
def newOrder (number : Nat) (tag : Byte) (f : OrderFields) (t : OrderTerms) : Order :=
  let amount := frameReservation f t
  { number := number, tag := tag, account := f.account, magazine := f.magazine, position := f.position,
    stock := f.stock, copies := f.copies, patternEntry := f.pattern, mode := t.mode, fixedDensity := heldDensity f,
    correction := clampInt (-20) 20 f.correction, template := f.template, rush := f.rush,
    catalog := optionalText 16 f.catalog, title := optionalText 40 f.title, course := optionalText 12 f.course,
    state := .queued, cancelRequested := false, endKind := none, pattern := t.pattern, prices := t.prices,
    reserved := amount, held := amount, settled := none, next := some (1, 1), redo := [], goodFrames := 0,
    timingSpoils := 0, lampSpoils := 0, reshoots := 0, goodLabels := 0, density := none, spans := [], more := false,
    waiting := .none }

/-- An ORDER frame's reply (R187, R201): the class ORDER, command 0. -/
def answerOrder (tag : Byte) (result : Result) (data : ReplyData) (s : State) : State :=
  addReply { cls := 1#8, tag := tag, command := 0, result := result, data := data } s

/-- Admission (R5, R136): the order joins the tail with its number, its account's committed sum rises by the
reservation, and the frame is answered ACCEPTED. -/
def admitOrder (tag : Byte) (f : OrderFields) (t : OrderTerms) (s : State) : State :=
  let n := s.queue.freeNumber
  let amount := frameReservation f t
  let s1 := s.setQueue { s.queue with
    orders := s.queue.orders ++ [newOrder n tag f t], nextNumber := nextNumber n }
  answerOrder tag .accepted (.accepted n amount (t.account.headroom - amount) (orderClamps f))
    (updAccount f.account (fun a => { a with committed := a.committed + amount }) s1)

/-- The whole of admission: the checks of R4 in their order, and the step's end when the order is admitted. -/
def takeOrder (tag : Byte) (f : OrderFields) (s : State) : State :=
  match orderTerms f s with
  | .error r => answerOrder tag (.refused r) .none s
  | .ok t =>
    if Config.orderCapacity ≤ s.queue.orders.length then
      answerOrder tag (.refused .queueFull) .none s
    else if !t.account.allows (frameReservation f t) then
      answerOrder tag (.refused .overCeiling) (.overCeiling (frameReservation f t) t.account.headroom) s
    else if s.gate.engine = .resetting then answerOrder tag (.refused .busy) .none s
    else settle (admitOrder tag f t s)

/-- ORDER_FRAME (R4). -/
def execOrderFrame (tag : Byte) (f : OrderFields) (s : State) : Out :=
  .next (takeFrame (.orderFrame tag f) (takeOrder tag f) s)

/-- CANCEL ORDER marks an ACTIVE order: its items leave the lists, and it ends at once when it has no part in flight
(R17, R18, R38). -/
def markCancelled (n : Nat) (s : State) : State :=
  completeCancels (removeItems n (updOrder n (fun o => { o with cancelRequested := true }) s))

/-- The state an order has after the command. -/
def stateAfter (s : State) (n : Nat) : OrderState := ((s.order? n).map (fun o => o.state)).getD .ending

/-- CANCEL ORDER past its first check (R17). -/
def cancelOrder (tag : Byte) (n : Nat) (s : State) : State :=
  match s.order? n with
  | none => refuse tag 21 .noOrder s
  | some o =>
    match o.state with
    | .ending => refuse tag 21 .ending s
    | .queued => answer tag 21 .ok (.cancelled .ending false) (drainReports (endOrder .cancelled n s))
    | .active =>
      if o.cancelRequested then answer tag 21 .ok (.cancelled .active true) s
      else
        let s1 := markCancelled n s
        testReturning (answer tag 21 .ok (.cancelled (stateAfter s1 n) true) s1)

/-- CANCEL ORDER ends an order's claim on the stand (R17). -/
def execCancelOrder (tag : Byte) (f : Fields Nat) (s : State) : Out :=
  .next (deskAct (.cancelOrder tag f) (checked tag 21 f (cancelOrder tag)) s)

/-- READ ORDER past its first check (R19). -/
def readOrder (tag : Byte) (n : Nat) (s : State) : State :=
  match s.order? n with
  | none => refuse tag 22 .noOrder s
  | some o => answer tag 22 .ok (.order o) s

/-- READ ORDER returns an order's record (R19). -/
def execReadOrder (tag : Byte) (f : Fields Nat) (s : State) : Out :=
  .next (replyOnly (.readOrder tag f) (checked tag 22 f (readOrder tag)) s)

end Sys2Proof.Machine
end

