-- ==== Sys2Proof/Machine/DirectCmds.lean ====
section
/-!
DEFINITION. DIRECT frames: the judgement (R177, R178, R182), the trap (R179) and the forwarding (R173, R180).
-/

namespace Sys2Proof.Machine

/-- The reply to a DIRECT frame. -/
def answerDirect (tag : Byte) (code : Nat) (result : Result) (data : ReplyData) (s : State) : State :=
  addReply { cls := 2#8, tag := tag, command := code, result := result, data := data } s

/-- The pass-through conditions of a DIRECT ADVANCE (R182). -/
def passThroughAllowed (s : State) (k : Back) (count : Nat) : Bool :=
  ((s.roll k).film.map (fun f => f.leaderMode)) == some .manual && s.settings.passThrough &&
  (s.roll k).state == .leader && decide (count ≤ (s.roll k).leaderRemaining)

/-- The condition of check 4: none when the frame may be forwarded, else the trap reason (R178). -/
def trapReason (s : State) (u : UnitSlot) (cmd : UnitCmd) : Option Reason :=
  match u with
  | .feeder => if s.gate.engine = .stopped ∧ s.gate.visit = none then none else some .busy
  | .meter => if s.gate.visit.all (fun v => v.held && !v.metering) then none else some .busy
  | .printer => if s.labels.queue.isEmpty && !s.printOutstanding then none else some .busy
  | .backA => backReason .a
  | .backB => backReason .b
where
  /-- The condition of a back, by its command. -/
  backReason (k : Back) : Option Reason :=
    match cmd with
    | .readCount => none
    | .testShutter _ =>
      if (s.roll k).state = .unloaded ∨ (s.roll k).state = .closed then none else some .shutter
    | .advance _ n => if passThroughAllowed s k n then none else some .film
    | _ => some .busy

/-- The trap flag of a reason (R179). -/
def Traps.set (t : Traps) (r : Reason) : Traps :=
  match r with
  | .film => { t with film := true }
  | .shutter => { t with shutter := true }
  | _ => { t with busy := true }

/-- A trap: its flag and the last-trap record are set, TRAP is raised and the frame answered TRAPPED (R179). -/
def trap (tag : Byte) (u : UnitSlot) (cmd : UnitCmd) (r : Reason) (s : State) : State :=
  let e := s.events
  answerDirect tag cmd.name.code (.trapped r) .none
    (raise .trap (s.setEvents { e with traps := e.traps.set r, lastTrap := some (u, cmd.name) }))

/-- A forwarded ADVANCE puts the back's pass-through IN-SEQUENCE (R182, R183). -/
def beginSequence (u : UnitSlot) (cmd : UnitCmd) (s : State) : State :=
  match u.back, cmd with
  | some k, .advance _ _ => updRoll k (fun r => { r with passThrough := .inSequence }) s
  | _, _ => s

/-- Forward a frame: a reply entry is reserved and the command issued to the slot (R173, R177, R187). -/
def forward (tag : Byte) (u : UnitSlot) (cmd : UnitCmd) (s : State) : State :=
  issue u cmd (.direct (some tag)) (beginSequence u cmd (reserve s))

/-- The checks of R177 past the first two, for a slot and a command its unit takes. -/
def judgeSlot (tag : Byte) (u : UnitSlot) (cmd : UnitCmd) (s : State) : State :=
  if !s.present u then answerDirect tag cmd.name.code .absent .none s
  else
    match trapReason s u cmd with
    | some r => trap tag u cmd r s
    | none => if (s.slot u).hasDirect then trap tag u cmd .busy s else forward tag u cmd s

/-- The judgement of a DIRECT frame (R177): `code` is the command byte answered, `cmd` the command its fields spell
when they agree with the layout and are in range. -/
def judgeDirect (tag unit : Byte) (code : Nat) (cmd : Option UnitCmd) (s : State) : State :=
  if s.gate.engine = .resetting then answerDirect tag code (.refused .busy) .none s
  else
    match slotOf unit, cmd with
    | some u, some c =>
      if u.expects = c.name.unit then judgeSlot tag u c s else answerDirect tag code (.refused .badField) .none s
    | _, _ => answerDirect tag code (.refused .badField) .none s

/-- The command that fields spell. -/
def spelled {α : Type} (f : Fields α) (read : α → Option UnitCmd) : Option UnitCmd :=
  match f with
  | .given x => read x
  | .mismatched => none

/-- A DIRECT frame is taken and judged (R177, R186). -/
def directFrame (c : Instr) (tag unit : Byte) (code : Nat) (cmd : Option UnitCmd) (s : State) : Out :=
  .next (takeFrame c (judgeDirect tag unit code cmd) s)

/-- DIRECT_LOAD (R177, R178). -/
def execDirectLoad (tag unit : Byte) (f : Fields Nat) (s : State) : Out :=
  directFrame (.directLoad tag unit f) tag unit 0x10 (spelled f loadOf) s

/-- DIRECT_RETURN (R177, R178). -/
def execDirectReturn (tag unit : Byte) (f : Fields Unit) (s : State) : Out :=
  directFrame (.directReturn tag unit f) tag unit 0x11 (spelled f (fun _ => some .ret)) s

/-- DIRECT_SCAN (R177, R178). -/
def execDirectScan (tag unit : Byte) (f : Fields Unit) (s : State) : Out :=
  directFrame (.directScan tag unit f) tag unit 0x20 (spelled f (fun _ => some .scan)) s

/-- DIRECT_SPOT (R177, R178). -/
def execDirectSpot (tag unit : Byte) (f : Fields Nat) (s : State) : Out :=
  directFrame (.directSpot tag unit f) tag unit 0x21 (spelled f spotOf) s

/-- DIRECT_ADVANCE: forwarded in pass-through, or trapped FILM (R182). -/
def execDirectAdvance (tag unit : Byte) (f : Fields AdvanceFields) (s : State) : Out :=
  directFrame (.directAdvance tag unit f) tag unit 0x30 (spelled f advanceOf) s

/-- DIRECT_READ_COUNT (R177, R178). -/
def execDirectReadCount (tag unit : Byte) (f : Fields Unit) (s : State) : Out :=
  directFrame (.directReadCount tag unit f) tag unit 0x31 (spelled f (fun _ => some .readCount)) s

/-- DIRECT_TEST_SHUTTER: forwarded to an UNLOADED or CLOSED back, or trapped SHUTTER (R178). -/
def execDirectTestShutter (tag unit : Byte) (f : Fields Nat) (s : State) : Out :=
  directFrame (.directTestShutter tag unit f) tag unit 0x32 (spelled f testShutterOf) s

/-- DIRECT_PRINT (R177, R178). -/
def execDirectPrint (tag unit : Byte) (f : Fields PrintFields) (s : State) : Out :=
  directFrame (.directPrint tag unit f) tag unit 0x40 (spelled f printOf) s

/-- DIRECT_UNKNOWN_COMMAND: a command kind no unit takes, or none, is refused BAD-FIELD after BUSY (R177; assumption
26). -/
def execDirectUnknownCommand (tag unit : Byte) (kind : Option Byte) (s : State) : Out :=
  directFrame (.directUnknownCommand tag unit kind) tag unit ((kind.map BitVec.toNat).getD 0) none s

end Sys2Proof.Machine
end

