-- ==== Sys2Proof/Machine/LinkEvents.lean ====
section
/-!
DEFINITION. The taking of frames that wait in the receive buffer (R186), and the events of the desk link that test it: the
bytes of a frame (R184), the desk-ready line and the end of an upstream frame (R193).
-/

namespace Sys2Proof.Machine

/-! ## Taking (R186) -/

/-- What is done with a desk frame, by the command it stands for. The other rows are no frame of the desk. -/
def execDesk (c : Instr) (s : State) : Out :=
  match c with
  | .powerOn => .next s
  | .deskFrameReceived _ => .next s
  | .byteGapExpiry => .next s
  | .orderFrame tag f => execOrderFrame tag f s
  | .unknownClass cls tag => execUnknownClass cls tag s
  | .payloadLengthDiscard cls tag => execPayloadLengthDiscard cls tag s
  | .unknownManageCommand tag code => execUnknownManageCommand tag code s
  | .run tag f => execRun tag f s
  | .stopHold tag f => execStopHold tag f s
  | .stopRelease tag f => execStopRelease tag f s
  | .stepOn tag f => execStepOn tag f s
  | .stepOff tag f => execStepOff tag f s
  | .clearFault tag f => execClearFault tag f s
  | .readResume tag f => execReadResume tag f s
  | .linkReset tag f => execLinkReset tag f s
  | .readStatus tag f => execReadStatus tag f s
  | .ackEvents tag f => execAckEvents tag f s
  | .setNoticeMask tag f => execSetNoticeMask tag f s
  | .clearTraps tag f => execClearTraps tag f s
  | .setSettings tag f => execSetSettings tag f s
  | .readSettings tag f => execReadSettings tag f s
  | .loadEntryStockWrite tag f => execLoadEntryStockWrite tag f s
  | .loadEntryStockDelete tag f => execLoadEntryStockDelete tag f s
  | .loadEntryPatternWrite tag f => execLoadEntryPatternWrite tag f s
  | .loadEntryPatternEmpty tag f => execLoadEntryPatternEmpty tag f s
  | .loadEntryTemplateWrite tag f => execLoadEntryTemplateWrite tag f s
  | .loadEntryTemplateEmpty tag f => execLoadEntryTemplateEmpty tag f s
  | .loadEntryFee tag f => execLoadEntryFee tag f s
  | .loadEntryBadSelector tag reading selector => execLoadEntryBadSelector tag reading selector s
  | .readEntryStock tag f => execReadEntryStock tag f s
  | .readEntryPattern tag f => execReadEntryPattern tag f s
  | .readEntryTemplate tag f => execReadEntryTemplate tag f s
  | .readEntryFee tag f => execReadEntryFee tag f s
  | .loadRoll tag f => execLoadRoll tag f s
  | .closeRoll tag f => execCloseRoll tag f s
  | .resyncRoll tag f => execResyncRoll tag f s
  | .readRollMap tag f => execReadRollMap tag f s
  | .cancelOrder tag f => execCancelOrder tag f s
  | .readOrder tag f => execReadOrder tag f s
  | .discardLabels tag f => execDiscardLabels tag f s
  | .openAccount tag f => execOpenAccount tag f s
  | .readAccount tag f => execReadAccount tag f s
  | .setCeiling tag f => execSetCeiling tag f s
  | .suspendAccount tag f => execSuspendAccount tag f s
  | .reopenAccount tag f => execReopenAccount tag f s
  | .credit tag f => execCredit tag f s
  | .clearCharged tag f => execClearCharged tag f s
  | .deleteAccount tag f => execDeleteAccount tag f s
  | .directLoad tag unit f => execDirectLoad tag unit f s
  | .directReturn tag unit f => execDirectReturn tag unit f s
  | .directScan tag unit f => execDirectScan tag unit f s
  | .directSpot tag unit f => execDirectSpot tag unit f s
  | .directAdvance tag unit f => execDirectAdvance tag unit f s
  | .directReadCount tag unit f => execDirectReadCount tag unit f s
  | .directTestShutter tag unit f => execDirectTestShutter tag unit f s
  | .directPrint tag unit f => execDirectPrint tag unit f s
  | .pollExpiry => .next s
  | .presenceAnswer _ _ _ => .next s
  | .statusAnswer _ _ _ => .next s
  | .loadCompletion _ _ => .next s
  | .returnCompletion _ _ => .next s
  | .scanCompletion _ _ => .next s
  | .spotCompletion _ _ => .next s
  | .advanceCompletion _ _ _ _ _ => .next s
  | .leaderCompletion _ _ _ _ => .next s
  | .blankingCompletion _ _ _ _ => .next s
  | .passThroughCompletion _ _ _ _ => .next s
  | .readCountCompletion _ _ _ => .next s
  | .directCompletion _ _ _ => .next s
  | .printCompletion _ _ => .next s
  | .detachingAnswer _ _ => .next s
  | .unitCommandTimeout _ => .next s
  | .lampRiseExpiry => .next s
  | .shutterFallExpiry _ => .next s
  | .lampFallExpiry => .next s
  | .senseDeadlineExpiry => .next s
  | .lampSenseActive => .next s
  | .lampSenseInactive => .next s
  | .deskReadyActive => .next s
  | .upstreamFrameSent => .next s
  | .deskReadyInactive => .next s
  | .byteReceived _ => .next s
  | .directUnknownCommand tag unit kind => execDirectUnknownCommand tag unit kind s

/-- The state an outcome goes on to. -/
def nextOr (s : State) : Out → State
  | .next t => t
  | .fault _ => s
  | .refused _ => s

/-- Take the frame at the head of the receive buffer while it holds one and a reply entry is free, at most `fuel` frames:
one at a time, each finished before the next is taken (R186). -/
def takeWaiting : Nat → State → State
  | 0, s => s
  | fuel + 1, s =>
    match s.link.buffer with
    | [] => s
    | f :: _ => if s.link.entryFree then takeWaiting fuel (nextOr s (execDesk (Desk.decode f) s)) else s

/-- Reply entries in use: replies held and reservations (R187). -/
def Link.entriesUsed (l : Link) : Nat := l.replies.length + l.reserved

/-- Taking is tested when a frame has joined the receive buffer or a reply entry has come free since the state `before`
(R186). -/
def testTaking (before s : State) : State :=
  if before.link.buffer.length < s.link.buffer.length ∨ s.link.entriesUsed < before.link.entriesUsed then
    takeWaiting Config.bufferCapacity s
  else s

/-! ## The bytes of a frame (R184) -/

/-- DESK_FRAME_RECEIVED: the last byte of a frame is taken and the frame judged; a frame that joins the buffer is taken
when its turn and a reply entry are there (R184, R186). -/
def execDeskFrameReceived (x : Byte) (s : State) : Out := .next (testTaking s (s.setLink (s.link.receive x)))

/-- BYTE_RECEIVED: a byte is taken by the receiver (R184; assumption 38). -/
def execByteReceived (x : Byte) (s : State) : Out := .next (testTaking s (s.setLink (s.link.receive x)))

/-! ## The transmitter (R193) -/

/-- DESK_READY_ACTIVE: the line becomes active, and the arbiter chooses (R193); a reply that begins to be sent frees its
entry for a frame that waits (R186). -/
def execDeskReadyActive (s : State) : Out :=
  .next (testTaking s (transmit (s.setLink { s.link with deskReady := true })))

/-- UPSTREAM_FRAME_SENT: the last byte of the frame being sent is out, and the arbiter chooses again (R193); a reply that
begins to be sent frees its entry for a frame that waits (R186). -/
def execUpstreamFrameSent (s : State) : Out :=
  if s.link.sending.isNone then .next s
  else .next (testTaking s (transmit (s.setLink { s.link with sending := none })))

end Sys2Proof.Machine
end

