-- ==== Sys2Proof/Machine/BusEvents.lean ====
section
/-!
DEFINITION. The events of the stand bus: the poll timer (R169, R172), answers to polls (R170, R171), completions
(R174 and the rules of its table), DETACHING and timeouts (R174, R175).
-/

namespace Sys2Proof.Machine

/-! ## Polls -/

/-- An unanswered poll at the next expiry (R172). -/
def silentSlot (u : UnitSlot) (s : State) : State :=
  let s1 := updSlot u (fun x => { x with poll := none }) s
  match (s.slot u).state with
  | .absent => s1
  | .disabled => changeSlot u .absent s1
  | .present => slotLost u .absent s1

/-- A poll is sent to a slot with no command outstanding: STATUS to a PRESENT slot, else PRESENCE (R169). -/
def sendPoll (u : UnitSlot) (s : State) : State :=
  let x := s.slot u
  if x.outstanding.isSome then s
  else s.setSlot u { x with
    exchange := nextExchange x.exchange, poll := some (if x.state = .present then .status else .presence) }

/-- One slot at a poll expiry (R169). -/
def pollSlot (u : UnitSlot) (s : State) : State :=
  sendPoll u (if (s.slot u).poll.isSome then silentSlot u s else s)

/-- The slots in their order. -/
def allSlots : List UnitSlot := [.feeder, .meter, .backA, .backB, .printer]

/-- POLL_EXPIRY: each slot in turn, and the next period at the poll period in force (R169). -/
def execPollExpiry (s : State) : Out :=
  let s1 := allSlots.foldl (fun t u => pollSlot u t) s
  .next (settle (s1.setBus { s1.bus with period := s1.settings.pollPeriod }))

/-- The magazine a feeder reports: none for 0 (R170, R171). -/
def magazineOf (m : Nat) : Option Nat := if m = 0 then none else some m

/-- A slot that becomes PRESENT hands on to the block that uses its unit (R87, R170). -/
def handOnPresent (u : UnitSlot) (p : Presence) (s : State) : State :=
  match u with
  | .feeder =>
    match p with
    | .feeder m => updSlot .feeder (fun x => { x with magazine := magazineOf m }) s
    | _ => s
  | .meter => s
  | .backA => updRoll .a backPresent s
  | .backB => updRoll .b backPresent s
  | .printer =>
    match p with
    | .printer can => tryPrint (updSlot .printer (fun x => { x with printer := some (if can then .ready else .out) }) s)
    | _ => s
where
  /-- A back in NO-BACK or LOST enters UNLOADED; a SUSPECT roll stays SUSPECT (R87, R94). -/
  backPresent (r : Roll) : Roll :=
    if r.state = .noBack ∨ r.state = .lost then { r with state := .unloaded } else r

/-- A PRESENCE answer taken by a slot (R170). -/
def takePresence (u : UnitSlot) (p : Presence) (s : State) : State :=
  let s1 := updSlot u (fun x => { x with poll := none }) s
  if p.kind = u.expects then handOnPresent u p (changeSlot u .present s1)
  else if (s.slot u).state = .absent then changeSlot u .disabled s1
  else s1

/-- PRESENCE_ANSWER: taken when the exchange number matches the outstanding PRESENCE poll and the values are in
range (R169, R170, R204). -/
def execPresenceAnswer (u : UnitSlot) (x : Nat) (p : Presence) (s : State) : Out :=
  if (s.slot u).poll = some .presence ∧ (s.slot u).exchange = x ∧ p.fits = true then .next (settle (takePresence u p s))
  else .next s

/-- The events of a STATUS answer of the expected kind (R171). -/
def statusEvents (u : UnitSlot) (r : StatusReport) (s : State) : State :=
  match r with
  | .feeder m => updSlot u (fun x => { x with magazine := magazineOf m }) s
  | .meter => s
  | .back detaching => if detaching then slotLost u .absent s else s
  | .printer ready =>
    if ready then
      let s1 := updSlot u (fun x => { x with printer := some .ready }) s
      if (s.slot u).printer = some .out then tryPrint s1 else s1
    else s

/-- A STATUS answer taken by a PRESENT slot (R171). -/
def takeStatus (u : UnitSlot) (r : StatusReport) (s : State) : State :=
  let s1 := updSlot u (fun x => { x with poll := none }) s
  if r.kind = u.expects then statusEvents u r s1 else slotLost u .disabled s1

/-- STATUS_ANSWER: taken when the exchange number matches the outstanding STATUS poll and the values are in range
(R169, R171, R204). -/
def execStatusAnswer (u : UnitSlot) (x : Nat) (r : StatusReport) (s : State) : Out :=
  if (s.slot u).poll = some .status ∧ (s.slot u).exchange = x ∧ r.fits = true then .next (settle (takeStatus u r s))
  else .next s

/-! ## Completions (R174) -/

/-- The command a completion resolves: the slot's outstanding command with its exchange number. -/
def answered (s : State) (u : UnitSlot) (x : Nat) : Option Outstanding :=
  (s.slot u).outstanding.filter (fun o => o.exchange == x)

/-- A completion is taken: the command is no longer outstanding, its result goes to the block that issued it, and the
next waiting command is sent (R174). -/
def resolve (u : UnitSlot) (handle : State → State) (s : State) : State :=
  settle (sendNext u (handle (clearOutstanding u s)))

/-- A completion of the command that a test accepts; any other answer is ignored (R174; assumption 7). -/
def completion (u : UnitSlot) (x : Nat) (accepts : Outstanding → Bool) (handle : Outstanding → State → State)
    (s : State) : Out :=
  match (answered s u x).filter accepts with
  | some o => .next (resolve u (handle o) s)
  | none => .next s

/-- The command and issuer that a completion row is for. -/
def isFor (name : CmdName) (issuer : Issuer) (o : Outstanding) : Bool := o.cmd.name == name && o.issuer == issuer

/-- The cleanup of LINK RESET is in progress. -/
def State.resetting (s : State) : Bool := s.gate.engine == .resetting

/-- Every member's density is written from its fixed density, as a visit that skips METERING enters EXPOSING (R55). -/
def writeFixedDensities (s : State) : State :=
  match s.gate.visit with
  | none => s
  | some v =>
    v.members.foldl (fun t m => updOrder m.order (fun o => { o with density := some (effectiveDensity o []) }) t) s

/-- Every remaining member is FIXED (R28). -/
def allFixed (s : State) (v : Visit) : Bool :=
  v.members.all (fun m => (s.order? m.order).all (fun o => o.mode == .fixed))

/-- The slide is in the gate (R28, R40): RETURNING without members or under a release, EXPOSING when every member is
FIXED, else METERING. -/
def afterLoad (s : State) : State :=
  let s1 := updVisit (fun v => { v with slide := true }) s
  match s1.gate.visit with
  | none => s1
  | some v =>
    if s1.resetting then s1
    else if v.members.isEmpty || v.release then enterReturning s1
    else if allFixed s1 v then enterExposing (writeFixedDensities s1)
    else enterMetering s1

/-- The members of the open visit, in list order. -/
def memberNumbers (s : State) : List Nat :=
  match s.gate.visit with
  | none => []
  | some v => v.members.map (fun m => m.order)

/-- The feeder found no slide: every member takes NO-SLIDE, and the visit enters RETURNING with nothing to return
(R28, R162); in the cleanup there is nothing to return (R165). -/
def emptyLoad (s : State) : State :=
  if s.resetting then s else enterReturning (failOrders .noSlide (memberNumbers s) s)

/-- A JAM: GATE-JAM is raised with the visit held (R28, R36), or kept as the cleanup's outcome (R165). -/
def gateJam (s : State) : State :=
  if s.resetting then keepFailure .gateJam s else raiseFault (visitFault s .gateJam .feeder) s

/-- The visit's LOAD completes (R28). -/
def loadDone (r : LoadResult) (s : State) : State :=
  match r with
  | .ok => afterLoad s
  | .empty => emptyLoad s
  | .jam => gateJam s

/-- LOAD_COMPLETION (R28, R165). -/
def execLoadCompletion (x : Nat) (r : LoadResult) (s : State) : Out :=
  completion .feeder x (isFor .load .visit) (fun _ => loadDone r) s

/-- The visit's RETURN completes: OK closes the visit, in the cleanup by its next stage (R36, R165). -/
def returnDone (r : ReturnResult) (s : State) : State :=
  match r with
  | .ok =>
    let s1 := updVisit (fun v => { v with slide := false }) s
    if s1.resetting then s1 else closeVisit s1
  | .jam => gateJam s

/-- RETURN_COMPLETION (R36, R165). -/
def execReturnCompletion (x : Nat) (r : ReturnResult) (s : State) : Out :=
  completion .feeder x (isFor .ret .visit) (fun _ => returnDone r) s

/-! ### Metering (R49 to R52) -/

/-- The zone table of the open visit. -/
def zoneTable (s : State) : List Zone := (s.gate.visit.map (fun v => v.zones)).getD []

/-- The members that take METER-FAIL, in list order (R52). -/
def meterFailed (s : State) : List Nat :=
  (memberNumbers s).filter (fun n => (s.live? n).any (fun o => meterFails o.mode (zoneTable s)))

/-- Every member left has its density written from the zone table (R52, R54, R55). -/
def writeDensities (s : State) : State :=
  (memberNumbers s).foldl
    (fun t n => updOrder n (fun o => { o with density := some (effectiveDensity o (zoneTable s)) }) t) s

/-- The meter work is done: LAMP falls and the phase is judged; the visit goes on to RETURNING or EXPOSING (R29, R40,
R52). -/
def judgeMetering (s : State) : State :=
  let s1 := updVisit (fun v => { v with metering := false, rereads := [] }) (s.setTimer { s.timer with lamp := false })
  let s2 := writeDensities (failOrders .meterFail (meterFailed s1) s1)
  match s2.gate.visit with
  | none => s2
  | some v => if v.members.isEmpty || v.release then enterReturning s2 else enterExposing s2

/-- Send the SPOT of the first zone to be re-read, or judge the phase when none is left (R50, R51). -/
def nextReread (s : State) : State :=
  match (s.gate.visit.map (fun v => v.rereads)).getD [] with
  | z :: _ => issue .meter (.spot z) .visit s
  | [] => judgeMetering s

/-- The visit's SCAN completes: the zone table is filled and the re-reads fixed (R49, R50). -/
def scanDone (r : ScanResult) (s : State) : State :=
  nextReread (updVisit (fun v => { v with zones := scanZones r, rereads := rereadsOf (scanZones r) }) s)

/-- A SPOT completion changes the record of the zone it named (R51). -/
def spotDone (z : Nat) (r : Reading) (s : State) : State :=
  nextReread (updVisit (fun v => { v with zones := v.zones.set (z - 1) (rereadZone r), rereads := v.rereads.tail }) s)

/-- The zone a SPOT names. -/
def spotZone : UnitCmd → Nat
  | .spot z => z
  | _ => 0

/-- A meter command of the open visit, or of a phase that LINK RESET cut. -/
def meterIssuer (name : CmdName) (o : Outstanding) : Bool :=
  o.cmd.name == name && (o.issuer == .visit || o.issuer == .cutPhase)

/-- SCAN_COMPLETION (R49, R50); a completion of a cut phase is not taken into the zone table (R53). -/
def execScanCompletion (x : Nat) (r : ScanResult) (s : State) : Out :=
  completion .meter x (fun o => meterIssuer .scan o && r.fits)
    (fun o => if o.issuer = .visit then scanDone r else id) s

/-- SPOT_COMPLETION (R51); a completion of a cut phase is not taken into the zone table (R53). -/
def execSpotCompletion (x : Nat) (r : Reading) (s : State) : Out :=
  completion .meter x (fun o => meterIssuer .spot o && r.fits)
    (fun o => if o.issuer = .visit then spotDone (spotZone o.cmd) r else id) s

/-! ### Advances (R90, R92, R93, R97, R183) -/

/-- What a completion makes of the roll past the entry: FILM-END and FULL begin a close, a differing count makes the
back SUSPECT and raises COUNT-MISMATCH (R92 steps 3 to 5, R93; assumption 16). -/
def judgeCount (k : Back) (f : FrameRec) (r : AdvanceResult) (count : Nat) (s : State) : State :=
  let roll := s.roll k
  if r = .filmEnd then enterClosing k .filmEnd s
  else if roll.counter = roll.frames + 1 ∧ count = roll.counter then enterClosing k .full s
  else if count ≠ roll.counter then
    raiseFault (faultRec s .countMismatch (faultUnit k.slot) (some f.item.order) (some k) (some f.position))
      (enterSuspect k s)
  else s

/-- Steps 1 to 5 of R78 for a frame record. The label is composed last; none in the cleanup (R84). -/
def resolveFrame (k : Back) (f : FrameRec) (r : AdvanceResult) (count m : Nat) (s : State) : State :=
  let s1 := recordCount k count (writeFrame k f.position (completedEntry f m) (dropFrame k s))
  let s2 := applyOutcome k f m (judgeCount k f r count s1)
  let s3 := redoAfter k f m s (clearOwed k s2)
  let s4 := chargeOutcome k f m s3
  if s4.resetting then s4 else composeLabel k f.position s4

/-- A close begun at this completion composes its report now, after the label, and offers it (R95 steps 3 and 4, R116). -/
def finishIfClosing (k : Back) (s : State) : State :=
  if (s.roll k).state = .closing then drainReports (finishClose k s) else s

/-- The steps of R78 have ended the frame's order at its reshoot limit. -/
def endedAtLimit (f : FrameRec) (before after : State) : Bool :=
  (before.live? f.item.order).isSome && (after.live? f.item.order).isNone

/-- The RESHOOT-LIMIT of a frame's order is told, past the steps of R78, whose label is of that order (R79, R116, R162;
assumption 49). -/
def tellLimit (f : FrameRec) (before after : State) : State :=
  if endedAtLimit f before after then tellFault after else after

/-- ADVANCE 1 after a firing completes (R92, R93, R78), then the cancels (R18), the close, the resume record's outcome
(R154), STEP (R152) and the tests of R30 and R35, and the printer (R124). A cancel that ends here composes its report
before the roll that closes here: the model's choice (assumption 49). -/
def advanceDone (k : Back) (r : AdvanceResult) (count m : Nat) (s : State) : State :=
  match s.timer.frames.get k with
  | none => clearOwed k s
  | some f =>
    let s1 := finishIfClosing k (completeCancels (tellLimit f s (resolveFrame k f r count m s)))
    tryPrint (testVisit (stepHold f.serial (cutOutcome f.serial k (frameOutcome f m) s1)))

/-- ADVANCE_COMPLETION (R92). -/
def execAdvanceCompletion (k : Back) (x : Nat) (r : AdvanceResult) (count m : Nat) (s : State) : Out :=
  completion k.slot x (fun o => isFor .advance .firing o && fitsCount count && fitsThree m)
    (fun _ => advanceDone k r count m) s

/-- The count of a leader or pass-through completion disagrees (R90, R91, R183). -/
def leaderMismatch (k : Back) (s : State) : State :=
  let s1 := enterSuspect k s
  raiseFault (faultRec s1 .countMismatch (faultUnit k.slot) none (some k) none) s1

/-- The AUTO leader advance completes (R90). -/
def leaderDone (k : Back) (r : AdvanceResult) (count : Nat) (s : State) : State :=
  let s1 := recordCount k count (updRoll k (fun x => { x with leaderRemaining := 0 }) s)
  if r = .filmEnd then closeRollFor k .filmEnd s1
  else if count = 1 then updRoll k (fun x => { x with state := .ready }) s1
  else leaderMismatch k s1

/-- LEADER_COMPLETION (R90). -/
def execLeaderCompletion (k : Back) (x : Nat) (r : AdvanceResult) (count : Nat) (s : State) : Out :=
  completion k.slot x (fun o => isFor .advance .leader o && fitsCount count)
    (fun _ t => testReturning (drainReports (leaderDone k r count t))) s

/-- BLANKING_COMPLETION: taken without a count check; the close goes on (R97). -/
def execBlankingCompletion (k : Back) (x : Nat) (_ : AdvanceResult) (count : Nat) (s : State) : Out :=
  completion k.slot x (fun o => isFor .advance .blanking o && fitsCount count)
    (fun _ t => drainReports (finishClose k (recordCount k count t))) s

/-- The frames a forwarded ADVANCE carried. -/
def advanceFrames : UnitCmd → Nat
  | .advance _ n => n
  | _ => 0

/-- A pass-through sequence reaches READY (R183). -/
def endSequence (k : Back) (s : State) : State :=
  raise .passEnd (updRoll k (fun x => { x with state := .ready, passThrough := .idle }) s)

/-- The effect of a pass-through completion on the roll as it then stands (R183). -/
def passThroughDone (k : Back) (n : Nat) (r : AdvanceResult) (count : Nat) (s : State) : State :=
  let left := if r = .filmEnd then 0 else (s.roll k).leaderRemaining - n
  let s1 := recordCount k count (updRoll k (fun x => { x with leaderRemaining := left }) s)
  if r = .filmEnd then closeRollFor k .filmEnd s1
  else if count ≠ 1 then leaderMismatch k s1
  else if left = 0 then endSequence k s1
  else s1

/-- The answer to a pass-through ADVANCE (R180, R183): a roll that closes is answered CLOSING, the state the close enters,
though its report has entered the report queue (R96, R100; assumption 8). -/
def answerPass (tag : Option Byte) (k : Back) (r : AdvanceResult) (count : Nat) (s : State) : State :=
  answerDeferred 2#8 tag 0x30 .ok (.passThrough r count (s.roll k).leaderRemaining (s.roll k).state) (drainReports s)

/-- The tag a forwarded DIRECT frame waits to be answered with. -/
def Issuer.directTag : Issuer → Option Byte
  | .direct tag => tag
  | _ => none

/-- The command was forwarded for a DIRECT frame. -/
def Issuer.isDirect : Issuer → Bool
  | .direct _ => true
  | _ => false

/-- PASS_THROUGH_COMPLETION (R183); a back that left LEADER since has no roll to take it. -/
def execPassThroughCompletion (k : Back) (x : Nat) (r : AdvanceResult) (count : Nat) (s : State) : Out :=
  completion k.slot x (fun o => o.cmd.name == .advance && o.issuer.isDirect && fitsCount count)
    (fun o t =>
      let t1 := if (t.roll k).state = .leader then passThroughDone k (advanceFrames o.cmd) r count t else t
      testReturning (answerPass o.issuer.directTag k r count t1)) s

/-! ### READ COUNT, forwarded commands, PRINT -/

/-- The positions a RESYNC ROLL blanks that are charged: the cut position is not (R100). -/
def resyncCharged (r : Roll) (last : Nat) : Nat :=
  (last + 1 - r.counter) - (if r.cut.any (fun p => decide (r.counter ≤ p) && decide (p ≤ last)) then 1 else 0)

/-- RESYNC ROLL adopts a count ahead of the counter: the positions between become BLANK and are charged, and the
roll is READY or closes FULL (R100). -/
def adoptCount (k : Back) (c : Nat) (s : State) : State :=
  let r := s.roll k
  let last := min (c - 1) r.frames
  let s1 := chargeFrames .blank k (resyncCharged r last) s
  let s2 := updRoll k (fun x => { blankRange r.counter last x with counter := last + 1, cut := none }) s1
  if last = r.frames then closeRollFor k .full s2
  else clearOwed k (updRoll k (fun x => { x with state := .ready }) s2)

/-- The READ COUNT of a RESYNC ROLL completes (R100); a roll that closes FULL is answered CLOSING, the state the close
enters (assumption 8). -/
def resyncDone (k : Back) (tag : Option Byte) (c : Nat) (s : State) : State :=
  let s1 := recordCount k c s
  if c ≤ (s.roll k).counter then answerDeferred 3#8 tag 19 (.refused .notAhead) (.count c) s1
  else
    let s2 := adoptCount k c s1
    let after := if (s.roll k).frames < c then .closing else (s2.roll k).state
    answerDeferred 3#8 tag 19 .ok (.resynced c after) (drainReports s2)

/-- The tag a RESYNC ROLL waits to be answered with. -/
def Issuer.resyncTag : Issuer → Option Byte
  | .resync tag => tag
  | _ => none

/-- The command is the READ COUNT of a RESYNC ROLL. -/
def Issuer.isResync : Issuer → Bool
  | .resync _ => true
  | _ => false

/-- READ_COUNT_COMPLETION (R100). -/
def execReadCountCompletion (k : Back) (x : Nat) (count : Nat) (s : State) : Out :=
  completion k.slot x (fun o => o.issuer.isResync && fitsCount count)
    (fun o t => testReturning (resyncDone k o.issuer.resyncTag count t)) s

/-- The unit command a result completes. -/
def resultName : DirectResult → CmdName
  | .load _ => .load
  | .ret _ => .ret
  | .scan _ => .scan
  | .spot _ => .spot
  | .readCount _ => .readCount
  | .testShutter _ => .testShutter
  | .print _ => .print

/-- A back whose reported count is recorded (R180). -/
def BackState.hasRoll : BackState → Bool
  | .leader => true
  | .ready => true
  | .suspect => true
  | .closing => true
  | .closed => true
  | .noBack => false
  | .unloaded => false
  | .lost => false

/-- The effect of a forwarded command's completion beside its answer (R180). -/
def directEffect (u : UnitSlot) (r : DirectResult) (s : State) : State :=
  match r, u.back with
  | .readCount c, some k => if (s.roll k).state.hasRoll then recordCount k c s else s
  | _, _ => s

/-- A forwarded command completes: it is answered OK with the unit's result (R180); the printer is tried (R124). -/
def directDone (u : UnitSlot) (o : Outstanding) (r : DirectResult) (s : State) : State :=
  answerDeferred 2#8 o.issuer.directTag o.cmd.name.code .ok (.unitResult r) (directEffect u r s)

/-- DIRECT_COMPLETION (R180). -/
def execDirectCompletion (u : UnitSlot) (x : Nat) (r : DirectResult) (s : State) : Out :=
  completion u x (fun o => o.issuer.isDirect && o.cmd.name == resultName r && r.fits)
    (fun o t => tryPrint (directDone u o r t)) s

/-- A PRINT of the Label Composer completes (R125). -/
def printDone (r : PrintResult) (s : State) : State :=
  match r with
  | .ok =>
    let s1 := s.setLabels { s.labels with
      queue := if s.labels.printing then s.labels.queue.tail else s.labels.queue, printing := false }
    if s.labels.printing then testVisit s1 else s1
  | .out =>
    raise .printerOut (updSlot .printer (fun x => { x with printer := some .out })
      (s.setLabels { s.labels with printing := false }))

/-- PRINT_COMPLETION (R125); the printer is tried again (R124). -/
def execPrintCompletion (x : Nat) (r : PrintResult) (s : State) : Out :=
  completion .printer x (isFor .print .label) (fun _ t => tryPrint (printDone r t)) s

/-! ## DETACHING and timeouts -/

/-- DETACHING_ANSWER: the command is not carried out, and the back is lost (R174). -/
def execDetachingAnswer (k : Back) (x : Nat) (s : State) : Out :=
  match answered s k.slot x with
  | none => .next s
  | some _ => .next (settle (slotLost k.slot .absent s))

/-- UNIT_COMMAND_TIMEOUT (R175). -/
def execUnitCommandTimeout (u : UnitSlot) (s : State) : Out :=
  match (s.slot u).outstanding with
  | none => .next s
  | some o => .next (settle (commandTimeout u o s))

end Sys2Proof.Machine
end

