-- ==== Sys2Proof/Machine/FiringEvents.lean ====
section
/-!
DEFINITION. The expiries of the exposure timer and the changes of LAMP SENSE (R70 to R75). An expiry that the firing in
flight does not await has no effect (assumption 6).
-/

namespace Sys2Proof.Machine

/-- The firing in flight, when a test accepts it. -/
def State.firingIf (s : State) (p : Firing → Bool) : Option Firing := s.timer.firing.filter p

/-- LAMP_RISE_EXPIRY at P: LAMP rises; with LAMP SENSE active already the firing enters LIT, else LAMP-RISING
(R70, R72). -/
def execLampRiseExpiry (s : State) : Out :=
  match s.firingIf (fun f => f.phase == .opening) with
  | none => .next s
  | some f =>
    .next (settle (s.setTimer { s.timer with
      lamp := true, count := some f.preOpen
      firing := some { f with phase := if s.timer.lampSense then .lit else .lampRising } }))

/-- The entry of a back as a count is reached: a shutter still open whose compare time it is becomes CLOSED (R70, R72). -/
def Firing.closedAt (f : Firing) (c : Nat) (x : Shot) : Shot :=
  if x.shutter = .open_ ∧ f.preOpen + x.time = c then { x with shutter := .closed } else x

/-- The shutter line of a back falls at a count: it is open, and the count is its compare time (R70). -/
def Firing.fallsAt (f : Firing) (c : Nat) (k : Back) : Bool :=
  (f.shots.get k).any (fun x => x.shutter == .open_ && f.preOpen + x.time == c)

/-- The exposure timer reaches a count: every shutter whose compare time it is falls (R70, R72). -/
def closeShutters (c : Nat) (f : Firing) (s : State) : State :=
  s.setTimer { s.timer with
    count := some c
    shutters := { a := s.timer.shutters.a && !f.fallsAt c .a, b := s.timer.shutters.b && !f.fallsAt c .b }
    firing := some { f with shots := { a := f.shots.a.map (f.closedAt c), b := f.shots.b.map (f.closedAt c) } } }

/-- LAMP falls at its compare time: in LIT the firing ends, in LAMP-RISING it is aborted with LAMP-FAIL (R72, R73). -/
def lampFalls (f : Firing) (s : State) : State := if f.phase = .lit then endFiring s else abortFiring s

/-- The expiries of the exposure timer at one count, taken together (R70): the shutters due, LAMP when its fall is due,
and the sense deadline, which aborts a firing still in LAMP-RISING (R73). -/
def expireAt (c : Nat) (f : Firing) (s : State) : State :=
  let s1 := closeShutters c f s
  if c = f.lampFall then lampFalls f s1
  else if c = f.deadline ∧ f.phase = .lampRising then abortFiring s1
  else s1

/-- SHUTTER_FALL_EXPIRY at P + t of a back: its shutter falls with all that is due at that count, LAMP among it when t is
the largest (R70, R72). -/
def execShutterFallExpiry (k : Back) (s : State) : Out :=
  match s.firingIf (fun f => f.phase != .opening) with
  | none => .next s
  | some f =>
    match (f.shots.get k).filter (fun x => x.shutter == .open_) with
    | none => .next s
    | some x => .next (settle (expireAt (f.preOpen + x.time) f s))

/-- LAMP_FALL_EXPIRY: in LIT the firing ends; in LAMP-RISING it is aborted with LAMP-FAIL (R72, R73). -/
def execLampFallExpiry (s : State) : Out :=
  match s.firingIf (fun f => f.phase != .opening) with
  | none => .next s
  | some f => .next (settle (expireAt f.lampFall f s))

/-- SENSE_DEADLINE_EXPIRY: a firing still in LAMP-RISING is aborted with LAMP-FAIL (R73); what else is due at that count
falls with it (R70). -/
def execSenseDeadlineExpiry (s : State) : Out :=
  match s.firingIf (fun f => f.phase != .opening) with
  | none => .next s
  | some f => .next (settle (expireAt f.deadline f s))

/-- LAMP_SENSE_ACTIVE: a firing in LAMP-RISING enters LIT (R72). -/
def execLampSenseActive (s : State) : Out :=
  let s1 := s.setTimer { s.timer with lampSense := true }
  match s.firingIf (fun f => f.phase == .lampRising) with
  | none => .next s1
  | some f => .next (settle (s1.setTimer { s1.timer with firing := some { f with phase := .lit } }))

/-- LAMP_SENSE_INACTIVE: a firing in LIT is aborted with LAMP-FAIL (R74). -/
def execLampSenseInactive (s : State) : Out :=
  let s1 := s.setTimer { s.timer with lampSense := false }
  match s.firingIf (fun f => f.phase == .lit) with
  | none => .next s1
  | some _ => .next (settle (abortFiring s1))

end Sys2Proof.Machine
end

