-- ==== Sys2Proof/Machine/Dispatch.lean ====
section
/-! DEFINITION. The meaning of each command: one arm for each row of spec/opcode_table.json. -/

namespace Sys2Proof.Machine

def exec (i : Instr) (s : State) : Host.Outcome State Fault Refusal :=
  match i with
  | .powerOn => Sys2Proof.Machine.execPowerOn s
  | .deskFrameReceived lastByte => Sys2Proof.Machine.execDeskFrameReceived lastByte s
  | .byteGapExpiry => Sys2Proof.Machine.execByteGapExpiry s
  | .orderFrame tag f => Sys2Proof.Machine.execOrderFrame tag f s
  | .unknownClass cls tag => Sys2Proof.Machine.execUnknownClass cls tag s
  | .payloadLengthDiscard cls tag => Sys2Proof.Machine.execPayloadLengthDiscard cls tag s
  | .unknownManageCommand tag code => Sys2Proof.Machine.execUnknownManageCommand tag code s
  | .run tag f => Sys2Proof.Machine.execRun tag f s
  | .stopHold tag f => Sys2Proof.Machine.execStopHold tag f s
  | .stopRelease tag f => Sys2Proof.Machine.execStopRelease tag f s
  | .stepOn tag f => Sys2Proof.Machine.execStepOn tag f s
  | .stepOff tag f => Sys2Proof.Machine.execStepOff tag f s
  | .clearFault tag f => Sys2Proof.Machine.execClearFault tag f s
  | .readResume tag f => Sys2Proof.Machine.execReadResume tag f s
  | .linkReset tag f => Sys2Proof.Machine.execLinkReset tag f s
  | .readStatus tag f => Sys2Proof.Machine.execReadStatus tag f s
  | .ackEvents tag f => Sys2Proof.Machine.execAckEvents tag f s
  | .setNoticeMask tag f => Sys2Proof.Machine.execSetNoticeMask tag f s
  | .clearTraps tag f => Sys2Proof.Machine.execClearTraps tag f s
  | .setSettings tag f => Sys2Proof.Machine.execSetSettings tag f s
  | .readSettings tag f => Sys2Proof.Machine.execReadSettings tag f s
  | .loadEntryStockWrite tag f => Sys2Proof.Machine.execLoadEntryStockWrite tag f s
  | .loadEntryStockDelete tag f => Sys2Proof.Machine.execLoadEntryStockDelete tag f s
  | .loadEntryPatternWrite tag f => Sys2Proof.Machine.execLoadEntryPatternWrite tag f s
  | .loadEntryPatternEmpty tag f => Sys2Proof.Machine.execLoadEntryPatternEmpty tag f s
  | .loadEntryTemplateWrite tag f => Sys2Proof.Machine.execLoadEntryTemplateWrite tag f s
  | .loadEntryTemplateEmpty tag f => Sys2Proof.Machine.execLoadEntryTemplateEmpty tag f s
  | .loadEntryFee tag f => Sys2Proof.Machine.execLoadEntryFee tag f s
  | .loadEntryBadSelector tag reading selector => Sys2Proof.Machine.execLoadEntryBadSelector tag reading selector s
  | .readEntryStock tag f => Sys2Proof.Machine.execReadEntryStock tag f s
  | .readEntryPattern tag f => Sys2Proof.Machine.execReadEntryPattern tag f s
  | .readEntryTemplate tag f => Sys2Proof.Machine.execReadEntryTemplate tag f s
  | .readEntryFee tag f => Sys2Proof.Machine.execReadEntryFee tag f s
  | .loadRoll tag f => Sys2Proof.Machine.execLoadRoll tag f s
  | .closeRoll tag f => Sys2Proof.Machine.execCloseRoll tag f s
  | .resyncRoll tag f => Sys2Proof.Machine.execResyncRoll tag f s
  | .readRollMap tag f => Sys2Proof.Machine.execReadRollMap tag f s
  | .cancelOrder tag f => Sys2Proof.Machine.execCancelOrder tag f s
  | .readOrder tag f => Sys2Proof.Machine.execReadOrder tag f s
  | .discardLabels tag f => Sys2Proof.Machine.execDiscardLabels tag f s
  | .openAccount tag f => Sys2Proof.Machine.execOpenAccount tag f s
  | .readAccount tag f => Sys2Proof.Machine.execReadAccount tag f s
  | .setCeiling tag f => Sys2Proof.Machine.execSetCeiling tag f s
  | .suspendAccount tag f => Sys2Proof.Machine.execSuspendAccount tag f s
  | .reopenAccount tag f => Sys2Proof.Machine.execReopenAccount tag f s
  | .credit tag f => Sys2Proof.Machine.execCredit tag f s
  | .clearCharged tag f => Sys2Proof.Machine.execClearCharged tag f s
  | .deleteAccount tag f => Sys2Proof.Machine.execDeleteAccount tag f s
  | .directLoad tag unit f => Sys2Proof.Machine.execDirectLoad tag unit f s
  | .directReturn tag unit f => Sys2Proof.Machine.execDirectReturn tag unit f s
  | .directScan tag unit f => Sys2Proof.Machine.execDirectScan tag unit f s
  | .directSpot tag unit f => Sys2Proof.Machine.execDirectSpot tag unit f s
  | .directAdvance tag unit f => Sys2Proof.Machine.execDirectAdvance tag unit f s
  | .directReadCount tag unit f => Sys2Proof.Machine.execDirectReadCount tag unit f s
  | .directTestShutter tag unit f => Sys2Proof.Machine.execDirectTestShutter tag unit f s
  | .directPrint tag unit f => Sys2Proof.Machine.execDirectPrint tag unit f s
  | .pollExpiry => Sys2Proof.Machine.execPollExpiry s
  | .presenceAnswer slot exchange answer => Sys2Proof.Machine.execPresenceAnswer slot exchange answer s
  | .statusAnswer slot exchange answer => Sys2Proof.Machine.execStatusAnswer slot exchange answer s
  | .loadCompletion exchange result => Sys2Proof.Machine.execLoadCompletion exchange result s
  | .returnCompletion exchange result => Sys2Proof.Machine.execReturnCompletion exchange result s
  | .scanCompletion exchange result => Sys2Proof.Machine.execScanCompletion exchange result s
  | .spotCompletion exchange reading => Sys2Proof.Machine.execSpotCompletion exchange reading s
  | .advanceCompletion back exchange result count measured => Sys2Proof.Machine.execAdvanceCompletion back exchange result count measured s
  | .leaderCompletion back exchange result count => Sys2Proof.Machine.execLeaderCompletion back exchange result count s
  | .blankingCompletion back exchange result count => Sys2Proof.Machine.execBlankingCompletion back exchange result count s
  | .passThroughCompletion back exchange result count => Sys2Proof.Machine.execPassThroughCompletion back exchange result count s
  | .readCountCompletion back exchange count => Sys2Proof.Machine.execReadCountCompletion back exchange count s
  | .directCompletion slot exchange result => Sys2Proof.Machine.execDirectCompletion slot exchange result s
  | .printCompletion exchange result => Sys2Proof.Machine.execPrintCompletion exchange result s
  | .detachingAnswer back exchange => Sys2Proof.Machine.execDetachingAnswer back exchange s
  | .unitCommandTimeout slot => Sys2Proof.Machine.execUnitCommandTimeout slot s
  | .lampRiseExpiry => Sys2Proof.Machine.execLampRiseExpiry s
  | .shutterFallExpiry back => Sys2Proof.Machine.execShutterFallExpiry back s
  | .lampFallExpiry => Sys2Proof.Machine.execLampFallExpiry s
  | .senseDeadlineExpiry => Sys2Proof.Machine.execSenseDeadlineExpiry s
  | .lampSenseActive => Sys2Proof.Machine.execLampSenseActive s
  | .lampSenseInactive => Sys2Proof.Machine.execLampSenseInactive s
  | .deskReadyActive => Sys2Proof.Machine.execDeskReadyActive s
  | .upstreamFrameSent => Sys2Proof.Machine.execUpstreamFrameSent s
  | .deskReadyInactive => Sys2Proof.Machine.execDeskReadyInactive s
  | .byteReceived x1 => Sys2Proof.Machine.execByteReceived x1 s
  | .directUnknownCommand tag unit kind => Sys2Proof.Machine.execDirectUnknownCommand tag unit kind s

end Sys2Proof.Machine
end

