-- ==== Sys2Proof/Machine/Records.lean ====
section
/-!
DEFINITION. The bytes of codes, flags and records that replies carry (R200 to R202): fault and trap records, an order
(R19), a roll and its map (R104), the resume record (R155) and the state of the 740 (R194). Assumptions 23 and 39.
-/

namespace Sys2Proof.Machine

open Desk (natBytes intBytes charBytes textWithLength)

/-! ## Codes (R201, R202) -/

/-- The code of a reason (R201). -/
def Reason.code : Reason → Nat
  | .badField => 1
  | .houseRefused => 2
  | .noAccount => 3
  | .suspended => 4
  | .noStock => 5
  | .noPattern => 6
  | .noTemplate => 7
  | .queueFull => 8
  | .overCeiling => 9
  | .busy => 10
  | .inUse => 11
  | .tableFull => 12
  | .noEntry => 13
  | .noOrder => 14
  | .ending => 15
  | .noUnit => 16
  | .rollState => 17
  | .leader => 18
  | .notAhead => 19
  | .unitTimeout => 20
  | .noRoll => 21
  | .faulted => 22
  | .notFaulted => 23
  | .notHeld => 24
  | .exists_ => 25
  | .ceilingLow => 26
  | .floorCeiling => 27
  | .film => 28
  | .shutter => 29

/-- The result byte of a REPLY, and its reason byte (R201). -/
def Result.codes : Result → Nat × Nat
  | .accepted => (1, 0)
  | .ok => (2, 0)
  | .clamped => (3, 0)
  | .refused r => (4, r.code)
  | .trapped r => (5, r.code)
  | .absent => (6, 0)
  | .unknownClass => (7, 0)

/-- The end kind byte of an ORDER REPORT (R201). -/
def EndKind.code : EndKind → Nat
  | .done => 1
  | .cancelled => 2
  | .faulted .noSlide => 3
  | .faulted .meterFail => 4
  | .faulted .reshootLimit => 5

/-- The close cause byte of a ROLL REPORT (R201). -/
def CloseCause.code : CloseCause → Nat
  | .full => 1
  | .blanked => 2
  | .filmEnd => 3
  | .desk => 4
  | .suspect => 5
  | .lost => 6

/-- A back is 0 for A and 1 for B (R202). -/
def backCode : Back → Nat
  | .a => 0
  | .b => 1

/-- The engine states by their places in R147 (R202). -/
def Engine.code : Engine → Nat
  | .stopped => 0
  | .running => 1
  | .stopping => 2
  | .faulted => 3
  | .resetting => 4

/-- The back states by their places in R85 (R202). -/
def BackState.code : BackState → Nat
  | .noBack => 0
  | .unloaded => 1
  | .leader => 2
  | .ready => 3
  | .suspect => 4
  | .closing => 5
  | .closed => 6
  | .lost => 7

/-- Yes is 1 and no is 0 (R202). -/
def flagCode (x : Bool) : Nat := if x then 1 else 0

/-- The unit address of a slot (R203). -/
def slotCode : UnitSlot → Nat
  | .feeder => 1
  | .meter => 2
  | .backA => 3
  | .backB => 4
  | .printer => 5

/-- One byte. -/
def byteOf (n : Nat) : List Byte := natBytes 1 n

/-- A set of event flags: two bytes (R201, R202). -/
def setBytes (e : EventSet) : List Byte := natBytes 2 e.toNat

/-- A list of numbers: a count byte and its items, each of the width given (R202). -/
def listBytes (width : Nat) (l : List Nat) : List Byte := byteOf l.length ++ l.flatMap (natBytes width)

/-- One byte of a value that may be absent: every bit set (R202). -/
def optByte (n : Option Nat) : List Byte := byteOf (n.getD 0xFF)

/-! ## Faults and traps (R156, R179) -/

/-- The trap flags: bit 0 FILM, bit 1 SHUTTER, bit 2 BUSY (R202). -/
def Traps.code (t : Traps) : Nat := flagCode t.film + 2 * flagCode t.shutter + 4 * flagCode t.busy

/-- The kinds of a class A fault by their places in R156 (R202). -/
def FaultKind.code : FaultKind → Nat
  | .lampFail => 0
  | .gateJam => 1
  | .countMismatch => 2
  | .unitTimeout => 3
  | .unitLost => 4

/-- The units of a class A fault by their places in R156 (R202). -/
def FaultUnit.code : FaultUnit → Nat
  | .feeder => 0
  | .meter => 1
  | .backA => 2
  | .backB => 3
  | .printer => 4
  | .lamp => 5

/-- The visit states by their places in R21 (R202). -/
def VisitState.code : VisitState → Nat
  | .loading => 0
  | .metering => 1
  | .exposing => 2
  | .returning => 3

/-- A fault record in the order of R156. -/
def faultBytes (f : FaultRec) : List Byte :=
  byteOf f.kind.code ++ byteOf f.unit.code ++ natBytes 2 (f.order.getD 0xFFFF) ++ optByte (f.back.map backCode) ++
  optByte f.position ++ optByte (f.visit.map VisitState.code)

/-- The last-trap record: its slot, and its command by the kind byte of the stand bus (R203; assumption 39); both absent
when it is empty (R179). -/
def trapBytes (l : Option (UnitSlot × CmdName)) : List Byte :=
  optByte (l.map (fun x => slotCode x.1)) ++ optByte (l.map (fun x => x.2.code))

/-! ## An order (R19) -/

/-- A span of frames, as an ORDER REPORT carries it (R201). -/
def spanBytes (x : Span) : List Byte := byteOf (backCode x.back) ++ charBytes x.rollId ++ byteOf x.first ++ byteOf x.last

/-- Frame spans with the more flag (R201). -/
def spansBytes (spans : List Span) (more : Bool) : List Byte :=
  byteOf (spans.length + 128 * flagCode more) ++ spans.flatMap spanBytes

/-- The metering mode byte (R201). -/
def MeterMode.code : MeterMode → Nat
  | .average => 0
  | .centre => 1
  | .spot => 2
  | .fixed => 3

/-- The order states by their places in R2 (R202). -/
def OrderState.code : OrderState → Nat
  | .queued => 0
  | .active => 1
  | .ending => 2

/-- The waiting reasons by their places in R2 (R202). -/
def Waiting.code : Waiting → Nat
  | .none => 0
  | .stock => 1
  | .magazine => 2

/-- A text that may be absent: a length byte and its characters (R202). -/
def optText (x : Option Text) : List Byte := textWithLength (x.getD [])

/-- The desk's fields of an order, in the order of R1. -/
def deskFieldBytes (o : Order) : List Byte :=
  [o.tag] ++ natBytes 2 o.account ++ byteOf o.magazine ++ byteOf o.position ++ byteOf o.stock ++ byteOf o.copies ++
  byteOf o.patternEntry ++ byteOf o.mode.code ++ natBytes 2 (o.fixedDensity.getD 0xFFFF) ++ intBytes 1 o.correction ++
  optByte o.template ++ byteOf (flagCode o.rush) ++ optText o.catalog ++ optText o.title ++ optText o.course

/-- A copy and step. A next set past end, which R2 names as a value and R202 gives no byte, is carried with copy and step
both FF: the model's choice (assumption 46). -/
def itemBytes (x : Option (Nat × Nat)) : List Byte := optByte (x.map (fun i => i.1)) ++ optByte (x.map (fun i => i.2))

/-- An order's record: the fields of R1, then those of R2 (R19). The pattern snapshot is the step count, one signed byte
for each offset with no count of their own, and the nominal step index, in the order of R2 and not in that of an entry of
R199: the model's choice (assumption 48). -/
def orderBytes (o : Order) : List Byte :=
  deskFieldBytes o ++ natBytes 2 o.number ++ byteOf o.state.code ++ byteOf (flagCode o.cancelRequested) ++
  optByte (o.endKind.map EndKind.code) ++ byteOf o.pattern.steps ++ o.pattern.offsets.flatMap (intBytes 1) ++
  byteOf o.pattern.nominal ++ natBytes 2 o.prices.frame ++ natBytes 2 o.prices.orderFee ++ natBytes 2 o.prices.rushFee ++
  natBytes 2 o.prices.labelFee ++ natBytes 3 o.reserved ++ natBytes 3 o.held ++ natBytes 3 (o.settled.getD 0xFFFFFF) ++
  itemBytes o.next ++ byteOf o.redo.length ++ o.redo.flatMap (fun i => itemBytes (some i)) ++
  byteOf o.goodFrames ++ byteOf o.timingSpoils ++ byteOf o.lampSpoils ++ byteOf o.reshoots ++ byteOf o.goodLabels ++
  natBytes 2 (o.density.getD 0xFFFF) ++ spansBytes o.spans o.more ++ byteOf o.waiting.code

/-! ## A roll and its map (R104) -/

/-- The leader modes by their places in R85 (R202). -/
def LeaderMode.code : LeaderMode → Nat
  | .auto => 0
  | .manual => 1

/-- A roll id, a text of six characters; absent it is a text of length 0 and carries no byte (R202; assumption 23). -/
def optRollId (x : Option Text) : List Byte := charBytes (x.getD [])

/-- A roll record in the order of R85; a last back count or a cut position that is absent is 0, as in a ROLL REPORT
(R201). -/
def rollBytes (r : Roll) : List Byte :=
  byteOf r.state.code ++ optRollId (r.film.map (fun f => f.rollId)) ++ optByte r.stock? ++
  optByte (r.film.map (fun f => f.frames)) ++ optByte (r.film.map (fun f => f.leaderFrames)) ++
  optByte (r.film.map (fun f => f.leaderMode.code)) ++ byteOf r.leaderRemaining ++ byteOf r.counter ++
  optByte (r.closeCause.map CloseCause.code) ++ byteOf (flagCode r.headerDone) ++ byteOf (r.cut.getD 0) ++
  byteOf (r.lastCount.getD 0) ++ byteOf (flagCode r.report.isSome)

/-- The entry states by their places in R86 (R202). -/
def EntryState.code : EntryState → Nat
  | .unused => 0
  | .exposed => 1
  | .spoiled => 2
  | .blank => 3
  | .fogged => 4

/-- The spoil causes by their places in R86 (R202). -/
def SpoilCause.code : SpoilCause → Nat
  | .timing => 0
  | .lamp => 1

/-- The fields of an entry beside its state, for an entry with a work item (R86). A measured time that is absent is FFFFFF,
as an absent number (R202); a spoil cause is there for a SPOILED entry alone, as a field that is present (R104). Which of
the two holds for an absent field is the model's choice (assumption 46). -/
def exposedBytes (e : MapEntry) (i : Nat × Nat × Nat) : List Byte :=
  natBytes 2 i.1 ++ byteOf i.2.1 ++ byteOf i.2.2 ++ natBytes 3 (e.time.getD 0xFFFFFF) ++
  natBytes 3 (e.measured.getD 0xFFFFFF) ++ byteOf (flagCode (e.clamp == .short)) ++
  byteOf (flagCode (e.clamp == .long)) ++ byteOf (flagCode e.redo) ++ byteOf (flagCode e.unlabeled) ++
  byteOf (flagCode e.labelled) ++ (e.cause.map (fun x => byteOf x.code)).getD []

/-- A roll map entry: its state, and the fields that are present (R86, R104). -/
def entryBytes (e : MapEntry) : List Byte := byteOf e.state.code ++ (e.item.map (exposedBytes e)).getD []

/-- READ ROLL MAP's data: the roll record, and with a first position the entries (R104). -/
def rollMapBytes (r : Roll) (first : Option Nat) (entries : List MapEntry) : List Byte :=
  rollBytes r ++ (first.map (fun _ => byteOf entries.length ++ entries.flatMap entryBytes)).getD []

/-! ## The resume record (R153 to R155) -/

/-- The kinds of a work item by their places in R27 (R202). -/
def ItemKind.code : ItemKind → Nat
  | .setStart => 0
  | .inSet => 1
  | .redo => 2

/-- A work item. A head item that is none, which R153 names as a value and R202 gives no form, is carried with order FFFF
and copy, step and kind FF: the model's choice (assumption 46). -/
def workItemBytes (x : Option WorkItem) : List Byte :=
  natBytes 2 ((x.map (fun w => w.order)).getD 0xFFFF) ++ optByte (x.map (fun w => w.copy)) ++
  optByte (x.map (fun w => w.step)) ++ optByte (x.map (fun w => w.kind.code))

/-- The hold causes by their places in R153 (R202). -/
def HoldCause.code : HoldCause → Nat
  | .stop => 0
  | .step => 1
  | .fault => 2

/-- The pending commands by their places in R153 (R202). -/
def PendingCmd.code : PendingCmd → Nat
  | .load => 0
  | .scan => 1
  | .ret => 2
  | .none => 3

/-- The outcomes of a frame by the places at which R154 first names them (R202). -/
def CutOutcome.code : CutOutcome → Nat
  | .pending => 0
  | .spoiledLamp => 1
  | .exposed => 2
  | .spoiledTiming => 3
  | .cut => 4

/-- One back's frame of the cut firing, led by the back: an item of the list of `resumeBytes`, the model's choice (R153,
R154; assumption 48). -/
def cutShotBytes (x : CutShot) : List Byte :=
  byteOf (backCode x.back) ++ workItemBytes (some x.item) ++ charBytes x.rollId ++ byteOf x.position ++
  byteOf x.outcome.code

/-- What is carried for each back, A first. -/
def perBackBytes {α : Type} (f : α → List Byte) (x : PerBack α) : List Byte := f x.a ++ f x.b

/-- The resume record in the order of R153, with the engine state (R155). The cut firing, present with firing-cut yes, is a
list of its backs with a count, not a field for A and then one for B: the model's choice (assumption 48). -/
def resumeBytes (v : ResumeView) : List Byte :=
  byteOf v.magazine ++ byteOf v.position ++ byteOf v.state.code ++ byteOf v.cause.code ++ byteOf (flagCode v.slide) ++
  byteOf v.pending.code ++ perBackBytes (fun b => workItemBytes b.head) v.backs ++
  perBackBytes (fun b => natBytes 2 b.items) v.backs ++ perBackBytes (fun b => byteOf (flagCode b.dropped)) v.backs ++
  perBackBytes (fun b => byteOf (flagCode b.owed)) v.backs ++ byteOf (flagCode v.firingCut) ++
  (if v.firingCut then byteOf v.cutFiring.length ++ v.cutFiring.flatMap cutShotBytes else []) ++ byteOf v.engine.code

/-! ## The state of the 740 (R194) -/

/-- The stop kinds by their places in R147 (R202). -/
def StopKind.code : StopKind → Nat
  | .hold => 0
  | .release => 1

/-- The STEP mode, on or off, by its places in R147 (R202). -/
def stepCode (on : Bool) : Nat := if on then 0 else 1

/-- The stages of the cleanup by their places in R167 (R202). -/
def Stage.code : Stage → Nat
  | .lines => 0
  | .film => 1
  | .slide => 2
  | .visitClose => 3

/-- A fault record of READ STATUS. One that is empty, to which R156 and R202 give no form, is carried as a record with every
field absent, seven bytes FF: the model's choice (assumption 46). -/
def optFaultBytes (f : Option FaultRec) : List Byte := (f.map faultBytes).getD (List.replicate 7 0xFF#8)

/-- One zone: its status by its place in R48, and its value, absent when FAILED (R48, R202). -/
def zoneBytes (z : Zone) : List Byte :=
  byteOf (match z with | .ok _ => 0 | .over => 1 | .failed => 2 | .reread _ => 3) ++ natBytes 2 (z.value?.getD 0xFFFF)

/-- The open visit, as R21 and R48 have READ STATUS carry it. A back that left the firing, its shutter CUT, is shown as not
included here (R83): the model's choice (assumption 55). The zone table is led by the count of its records, 9, or 0 as the
indication that it is empty, and its statuses and values go zone by zone: the model's choice (assumption 46). -/
def visitStatusBytes (v : Visit) (f : Option Firing) : List Byte :=
  let inFiring (k : Back) : Nat := flagCode (f.any (fun x => (x.shots.get k).any (fun y => y.shutter != .cut)))
  byteOf v.magazine ++ byteOf v.position ++ byteOf v.state.code ++ byteOf (flagCode v.held) ++
  byteOf (flagCode v.release) ++ natBytes 2 v.lists.a.length ++ natBytes 2 v.lists.b.length ++ byteOf (inFiring .a) ++
  byteOf (inFiring .b) ++ byteOf v.zones.length ++ v.zones.flatMap zoneBytes

/-- The phases of a firing by their places in R72 (R202). -/
def FiringPhase.code : FiringPhase → Nat
  | .opening => 0
  | .lampRising => 1
  | .lit => 2

/-- The shutter states by their places in R69 (R202). -/
def Shutter.code : Shutter → Nat
  | .open_ => 0
  | .closed => 1
  | .cut => 2

/-- The firing in flight, as R69 has READ STATUS show it: the included backs, the phase, the shutter states. A back that
left the firing is shown as included here, with its shutter CUT (R69): the model's choice (assumption 55). -/
def firingBytes (f : Firing) : List Byte :=
  perBackBytes (fun x => byteOf (flagCode x.isSome)) f.shots ++ byteOf f.phase.code ++
  perBackBytes (fun x => optByte (x.map (fun y => y.shutter.code))) f.shots

/-- Whether a frame record is held, and its outcome: PENDING or SPOILED LAMP (R76). -/
def frameRecBytes (f : Option FrameRec) : List Byte :=
  byteOf (flagCode f.isSome) ++ optByte (f.map (fun x => flagCode x.lampSpoiled))

/-- The pass-through states in the order R183 names them, IN-SEQUENCE first (R91, R182, R183, R202; assumption 39). -/
def PassThrough.code : PassThrough → Nat
  | .inSequence => 0
  | .idle => 1

/-- One roll, in the order of R104, with its pass-through state (R183). Free positions that are absent, before the back's
first LOAD ROLL, are FF: the model's choice (assumption 5). -/
def rollStatusBytes (r : RollStatus) : List Byte :=
  byteOf r.state.code ++ optRollId r.rollId ++ optByte r.stock ++ byteOf r.counter ++ optByte r.free ++
  byteOf r.leaderRemaining ++ byteOf (flagCode r.reportWaiting) ++ byteOf (flagCode r.commandOutstanding) ++
  byteOf r.passThrough.code

/-- The labels, in the order of R121; the policies by their places in R122. A sync interval that is off (R120) is carried
as an absent number, FF: the model's choice (assumption 46). -/
def labelStatusBytes (l : LabelStatus) : List Byte :=
  byteOf (if l.policy = .hold then 0 else 1) ++ byteOf l.held ++ byteOf l.free ++ byteOf (flagCode l.printOutstanding) ++
  byteOf (flagCode l.labelWait) ++ byteOf l.syncCounter ++ optByte l.interval ++ natBytes 2 l.truncated ++
  natBytes 2 l.templateErrors

/-- The slot states by their places in R168 (R202). -/
def SlotState.code : SlotState → Nat
  | .absent => 0
  | .present => 1
  | .disabled => 2

/-- The printer states by their places in R168 (R202). -/
def PrinterState.code : PrinterState → Nat
  | .ready => 0
  | .out => 1

/-- The change flag, set or clear, by its places in R168 (R202). -/
def changeCode (set : Bool) : Nat := if set then 0 else 1

/-- One slot: state, change flag, the command outstanding by its kind byte, the number waiting (R168). -/
def slotBytes (x : SlotStatus) : List Byte :=
  byteOf x.state.code ++ byteOf (changeCode x.changed) ++ optByte (x.command.map CmdName.code) ++ byteOf x.waiting

/-- The five slots; the feeder's magazine and the printer's state follow their own (R168). -/
def unitsBytes : List SlotStatus → List Byte
  | [feeder, meter, a, b, printer] =>
    slotBytes feeder ++ optByte feeder.magazine ++ slotBytes meter ++ slotBytes a ++ slotBytes b ++ slotBytes printer ++
    optByte (printer.printer.map PrinterState.code)
  | l => l.flatMap slotBytes

/-- A group that may be absent: yes and the group, or no (R194). -/
def groupBytes {α : Type} (f : α → List Byte) (x : Option α) : List Byte :=
  byteOf (flagCode x.isSome) ++ (x.map f).getD []

/-- The data of READ STATUS, group by group in the order of R194. The controller-ready and desk-ready lines are carried as
yes or no, an active line as 1 and an inactive one as 0: the model's choice (assumption 46). -/
def statusBytes (s : Status) : List Byte :=
  byteOf s.engine.code ++ optByte (s.stopKind.map StopKind.code) ++ byteOf (stepCode s.stepMode) ++
  optByte (s.stage.map Stage.code) ++ optFaultBytes s.current ++ optFaultBytes s.pendingFault ++ setBytes s.flags ++
  setBytes s.risen ++ setBytes s.mask ++ byteOf s.traps.code ++ trapBytes s.lastTrap ++
  groupBytes (fun v => visitStatusBytes v s.firing) s.visit ++ groupBytes firingBytes s.firing ++
  perBackBytes frameRecBytes s.frames ++ perBackBytes rollStatusBytes s.rolls ++
  byteOf s.queued ++ byteOf s.active ++ byteOf s.ending ++ byteOf s.endingList ++ listBytes 1 s.wantedStock ++
  listBytes 1 s.wantedMagazine ++ labelStatusBytes s.labels ++ unitsBytes s.units ++ byteOf s.bufferFrames ++
  byteOf s.repliesHeld ++ byteOf s.reservations ++ byteOf (flagCode s.noticeHeld) ++ byteOf s.reportsHeld ++
  byteOf (flagCode s.controllerReady) ++ byteOf (flagCode s.deskReady)

end Sys2Proof.Machine
end

