-- ==== Sys2Proof/Machine/Wire.lean ====
section
/-!
DEFINITION. The bytes of what the 740 sends and of what a unit answers: the upstream frames (R200 to R202), the frames
of the stand bus (R203, R204), and the command row that a unit's frame stands for (R174). All of it is read off the
state; no command changes state through it.
-/

namespace Sys2Proof.Machine

open Desk (natBytes intBytes charBytes textWithLength natOf)

/-! ## Template entries (R199) -/

/-- The number of a SKIP IF condition (R199). -/
def SkipCond.code : SkipCond → Nat
  | .spoiled => 1
  | .timeClamped => 2
  | .offNominal => 3
  | .titleAbsent => 4
  | .courseAbsent => 5
  | .redo => 6

/-- A template step's number and operand (R199). -/
def TStep.raw : TStep → RawStep
  | .putCatalog => ⟨1, 0⟩
  | .putTitle => ⟨2, 0⟩
  | .putCourse => ⟨3, 0⟩
  | .putAccount => ⟨4, 0⟩
  | .putOrder => ⟨5, 0⟩
  | .putRoll => ⟨6, 0⟩
  | .putFrame => ⟨7, 0⟩
  | .putStep => ⟨8, 0⟩
  | .putDate => ⟨9, 0⟩
  | .putLiteral n => ⟨10, n⟩
  | .space n => ⟨11, n⟩
  | .nextLine => ⟨12, 0⟩
  | .skipIf c n => ⟨13, c.code * 16 + n⟩
  | .continueAt t => ⟨14, t⟩
  | .omit_ => ⟨15, 0⟩
  | .end_ => ⟨16, 0⟩

/-! ## Reply data (R201, R202) -/

/-- The clamp byte of an ACCEPTED reply (R201). -/
def OrderClamps.code (c : OrderClamps) : Nat :=
  flagCode c.fixedDensity + 2 * flagCode c.correction + 4 * flagCode c.catalog + 8 * flagCode c.title +
  16 * flagCode c.course

/-- A pattern in the field order of LOAD ENTRY (R199). -/
def patternEntryBytes (p : Pattern) : List Byte :=
  byteOf p.steps ++ byteOf p.nominal ++ p.offsets.flatMap (intBytes 1)

/-- A template in the field order of LOAD ENTRY (R199). -/
def templateEntryBytes (t : Template) : List Byte :=
  byteOf t.steps.length ++ t.steps.flatMap (fun st => byteOf st.raw.code ++ byteOf st.raw.operand) ++
  byteOf t.literals.length ++ t.literals.flatMap textWithLength

/-- A stock entry, its code and then its fields in the order of LOAD ENTRY (R199), with its use (R46). -/
def stockEntryBytes (e : StockEntry) (u : StockUse) : List Byte :=
  let carried (x : Bool) (st : BackState) : List Byte := byteOf (flagCode x) ++ byteOf st.code
  byteOf e.code ++ textWithLength e.name ++ intBytes 1 e.speed ++ byteOf e.frames ++ intBytes 1 e.knee ++ byteOf e.slope ++
  natBytes 2 e.price ++ carried u.carries.a u.states.a ++ carried u.carries.b u.states.b ++ byteOf u.orders ++ byteOf (flagCode u.wanted)

/-- An account in the order of R129, its headroom and its orders (R141). -/
def accountBytes (a : Account) (headroom orders : Nat) : List Byte :=
  natBytes 2 a.number ++ byteOf (if a.isOpen then 0 else 1) ++ natBytes 3 a.ceiling ++ natBytes 3 a.committed ++
  natBytes 3 a.charged ++ natBytes 3 a.goodFrames ++ natBytes 2 a.settledOrders ++ natBytes 3 headroom ++ byteOf orders

/-- The house account in the same order, OPEN with ceiling and headroom absent, and its five tallies (R130, R141). -/
def houseRecordBytes (h : House) (orders : Nat) : List Byte :=
  natBytes 2 0 ++ byteOf 0 ++ natBytes 3 0xFFFFFF ++ natBytes 3 0 ++ natBytes 3 h.charged ++ natBytes 3 0 ++
  natBytes 2 0 ++ natBytes 3 0xFFFFFF ++ byteOf orders ++ natBytes 2 h.blank ++ natBytes 2 h.spoiled ++
  natBytes 2 h.cut ++ natBytes 2 h.fogged ++ natBytes 2 h.labels

/-- A reading: the density, FFFE for OVER, FFFF for FAIL (R204). -/
def readingBytes : Reading → List Byte
  | .density d => natBytes 2 d
  | .over => natBytes 2 0xFFFE
  | .fail => natBytes 2 0xFFFF

/-- A unit's result, numbered by its place in R173, with the data of its completion (R180, R202). A reading has the form
of R204, and the nine readings of a SCAN have no count before them: the model's choices (assumption 44). -/
def resultBytes : DirectResult → List Byte
  | .load .ok => byteOf 0
  | .load .empty => byteOf 1
  | .load .jam => byteOf 2
  | .ret .ok => byteOf 0
  | .ret .jam => byteOf 1
  | .scan (.ok rs) => byteOf 0 ++ rs.flatMap readingBytes
  | .scan .fail => byteOf 1
  | .spot r => readingBytes r
  | .readCount c => byteOf c
  | .testShutter m => byteOf 0 ++ natBytes 3 m
  | .print .ok => byteOf 0
  | .print .out => byteOf 1

/-- The bytes of a reply's data, as R199, R201 and R202 lay them out (assumptions 23, 39, 42 and 44). `wide` says that keys
are account numbers, of two bytes. A CLAMPED reply to SET SETTINGS carries the clamped items as a list and then the
record; the list is left out when it is empty, and the 21 items of the record are led by their count, in the replies of READ
SETTINGS and SET SETTINGS alike: the model's choices (assumption 43). The three fees have no count before them, and the back's
count of a pass-through ADVANCE stands after the result: the model's choices (assumption 51). -/
def ReplyData.bytes (wide : Bool) : ReplyData → List Byte
  | .none => []
  | .accepted n r h c => natBytes 2 n ++ natBytes 3 r ++ natBytes 3 h ++ byteOf c.code
  | .overCeiling r h => natBytes 3 r ++ natBytes 3 h
  | .engine e k => byteOf e.code ++ (k.map (fun x => byteOf x.code)).getD []
  | .sets x y => setBytes x ++ setBytes y
  | .settings items clamps =>
    (if clamps.isEmpty then [] else listBytes 1 clamps) ++ byteOf items.length ++ items.flatMap Desk.settingItemBytes
  | .patternEntry p => patternEntryBytes p
  | .keys l => listBytes (if wide then 2 else 1) l
  | .fee v => natBytes 2 v
  | .feeChange x y => natBytes 2 x ++ natBytes 2 y
  | .fees f => natBytes 2 f.order ++ natBytes 2 f.rush ++ natBytes 2 f.label
  | .backState x => byteOf x.code
  | .rollLoaded x n => byteOf x.code ++ byteOf n
  | .resynced c x => byteOf c ++ byteOf x.code
  | .count c => byteOf c
  | .discarded n p => byteOf n ++ byteOf (flagCode p)
  | .accountCeiling n c => natBytes 2 n ++ natBytes 3 c
  | .ceilingSet n c h => natBytes 2 n ++ natBytes 3 c ++ natBytes 3 h
  | .ceilingLow n l => natBytes 2 n ++ natBytes 3 l
  | .credited n t c => natBytes 2 n ++ natBytes 3 t ++ natBytes 3 c
  | .closedBooks n c g o => natBytes 2 n ++ natBytes 3 c ++ natBytes 3 g ++ natBytes 2 o
  | .accountNumber n => natBytes 2 n
  | .unitResult r => resultBytes r
  | .templateEntry t n => templateEntryBytes t ++ byteOf n
  | .stockEntry e u => stockEntryBytes e u
  | .step m e => byteOf (stepCode m) ++ byteOf e.code
  | .promoted e f => byteOf e.code ++ faultBytes f
  | .resume v => resumeBytes v
  | .status s => statusBytes s
  | .traps t l => byteOf t.code ++ trapBytes l
  | .rollMap _ r first l => rollMapBytes r first l
  | .cancelled s r => byteOf s.code ++ byteOf (flagCode r)
  | .order o => orderBytes o
  | .account a h n => accountBytes a h n
  | .house h n => houseRecordBytes h n
  | .accountState n o => natBytes 2 n ++ byteOf (if o then 0 else 1)
  | .passThrough r c l x => byteOf (if r = .ok then 0 else 1) ++ byteOf c ++ byteOf l ++ byteOf x.code

/-! ## Upstream frames (R193, R201) -/

/-- The REPLY payload (R201). -/
def Reply.payload (r : Reply) : List Byte :=
  r.cls :: (byteOf r.command ++ byteOf r.result.codes.1 ++ byteOf r.result.codes.2 ++ r.data.bytes (r.command == 25))

/-- The ORDER REPORT payload (R201). -/
def OrderReport.payload (r : OrderReport) : List Byte :=
  byteOf 1 ++ natBytes 2 r.number ++ byteOf r.endKind.code ++ natBytes 2 r.account ++ natBytes 3 r.reserved ++
  natBytes 3 r.settled ++ byteOf r.goodFrames ++ byteOf (min 255 r.spoils) ++ byteOf r.goodLabels ++
  natBytes 2 (r.density.getD 0xFFFF) ++ spansBytes r.spans r.more

/-- The ROLL REPORT payload (R201). -/
def RollReport.payload (r : RollReport) : List Byte :=
  byteOf 2 ++ byteOf (backCode r.back) ++ charBytes r.rollId ++ byteOf r.stock ++ byteOf r.frames ++ byteOf r.cause.code ++
  byteOf r.counter ++ byteOf (r.lastCount.getD 0) ++ byteOf (r.cut.getD 0) ++
  byteOf r.unused ++ byteOf r.exposed ++ byteOf r.spoiled ++ byteOf r.blank ++ byteOf r.fogged ++
  byteOf r.short ++ byteOf r.long ++ byteOf r.unlabeled

/-- The frame of an upstream item: REPLY 81, NOTICE 82, REPORT 83, with its tag (R193, R200, R201). -/
def Upstream.frame : Upstream → Frame
  | .reply r => { cls := 0x81#8, tag := r.tag, payload := r.payload }
  | .notice risen flags => { cls := 0x82#8, tag := 0#8, payload := setBytes risen ++ setBytes flags }
  | .report (.order r) => { cls := 0x83#8, tag := r.tag, payload := r.payload }
  | .report (.roll r) => { cls := 0x83#8, tag := 0#8, payload := r.payload }

/-- The bytes the transmitter is sending (R184, R193, R201). A payload beyond the 250 bytes of R184 has no frame
(assumption 45). -/
def State.sendingBytes (s : State) : Option (List Byte) :=
  ((s.link.sending.map Upstream.frame).filter (fun f => f.payload.length ≤ 250)).map Desk.frameBytes

/-! ## The frames of the stand bus (R203, R204) -/

/-- A stand bus frame, with start byte and check (R203). -/
def busFrame (u : UnitSlot) (exchange kind : Nat) (payload : List Byte) : List Byte :=
  let inner := byteOf (slotCode u) ++ byteOf exchange ++ byteOf kind ++ byteOf payload.length ++ payload
  0xA5#8 :: (inner ++ checkBytes inner)

/-- The kind byte of a label record (R204). -/
def LabelKind.code : LabelKind → Nat
  | .header => 1
  | .frame => 2
  | .sync => 3

/-- The payload of a PRINT (R204). -/
def printPayload (j : PrintJob) : List Byte :=
  byteOf j.kind.code ++ byteOf (flagCode j.truncated + 2 * flagCode j.templateError) ++ byteOf j.lines.length ++
  j.lines.flatMap textWithLength

/-- The payload of a unit command (R204). -/
def UnitCmd.payload : UnitCmd → List Byte
  | .load p => byteOf p
  | .ret => []
  | .scan => []
  | .spot z => byteOf z
  | .advance .frame n => byteOf 0 ++ byteOf n
  | .advance .leader n => byteOf 1 ++ byteOf n
  | .readCount => []
  | .testShutter t => natBytes 3 t
  | .print j => printPayload j

/-- The kind byte of a poll (R203). -/
def Poll.code : Poll → Nat
  | .presence => 0x01
  | .status => 0x02

/-- The frame of the poll outstanding on a slot (R169, R203). -/
def pollFrame (s : State) (u : UnitSlot) : Option (List Byte) :=
  (s.slot u).poll.map (fun p => busFrame u (s.slot u).exchange p.code [])

/-- The frame of the command outstanding on a slot (R173, R203, R204). -/
def commandFrame (s : State) (u : UnitSlot) : Option (List Byte) :=
  (s.slot u).outstanding.map (fun o => busFrame u o.exchange o.cmd.name.code o.cmd.payload)

/-! ## What a unit's frame stands for (R174, R203, R204) -/

/-- A unit's frame with its check matched: address, exchange number, kind and payload. -/
structure UnitFrame where
  slot : UnitSlot
  exchange : Nat
  kind : Nat
  payload : List Byte
deriving DecidableEq, Repr

/-- The frame that bytes from a unit carry; none with a bad check, which is ignored (R174, R203). -/
def unitFrameOf (bytes : List Byte) : Option UnitFrame :=
  match bytes with
  | 0xA5#8 :: addr :: x :: kind :: len :: rest =>
    let payload := rest.take len.toNat
    match slotOf addr with
    | none => none
    | some u =>
      if len.toNat ≤ 250 ∧ rest.length = len.toNat + 2 ∧
          rest.drop len.toNat = checkBytes (addr :: x :: kind :: len :: payload) then
        some { slot := u, exchange := x.toNat, kind := kind.toNat, payload := payload }
      else none
  | _ => none

/-- A reading of two bytes (R204). -/
def readingOf (v : Nat) : Reading := if v = 0xFFFF then .fail else if v = 0xFFFE then .over else .density v

/-- Readings of two bytes each, in order. -/
def readingsOf : List Byte → List Reading
  | x :: y :: rest => readingOf (natOf [x, y]) :: readingsOf rest
  | _ => []

/-- The payload of a PRESENCE answer (R204). -/
def presenceOf : List Byte → Option Presence
  | [1#8, m] => if m.toNat ≤ 250 then some (.feeder m.toNat) else none
  | [2#8] => some .meter
  | [3#8] => some .back
  | [4#8, p] => if p.toNat ≤ 1 then some (.printer (p == 1#8)) else none
  | _ => none

/-- The payload of a STATUS answer (R204). -/
def statusReportOf : List Byte → Option StatusReport
  | [1#8, m] => if m.toNat ≤ 250 then some (.feeder m.toNat) else none
  | [2#8] => some .meter
  | [3#8, e] => if e.toNat ≤ 1 then some (.back (e == 1#8)) else none
  | [4#8, e] => if e.toNat ≤ 1 then some (.printer (e == 1#8)) else none
  | _ => none

/-- The payload of a completion other than ADVANCE (R204). -/
def unitResultOf (name : CmdName) (p : List Byte) : Option DirectResult :=
  match name, p with
  | .load, [0#8] => some (.load .ok)
  | .load, [1#8] => some (.load .empty)
  | .load, [2#8] => some (.load .jam)
  | .ret, [0#8] => some (.ret .ok)
  | .ret, [2#8] => some (.ret .jam)
  | .scan, [1#8] => some (.scan .fail)
  | .scan, 0#8 :: rest => if rest.length = 18 then some (.scan (.ok (readingsOf rest))) else none
  | .spot, [x, y] => some (.spot (readingOf (natOf [x, y])))
  | .readCount, [c] => if fitsCount c.toNat then some (.readCount c.toNat) else none
  | .testShutter, 0#8 :: m => if m.length = 3 then some (.testShutter (natOf m)) else none
  | .print, [0#8] => some (.print .ok)
  | .print, [1#8] => some (.print .out)
  | _, _ => none

/-- The result of an ADVANCE (R204). -/
def advanceResultOf (x : Byte) : Option AdvanceResult :=
  if x = 0#8 then some .ok else if x = 1#8 then some .filmEnd else none

/-- The payload of an ADVANCE answer: result and count, and for frame form of count 1 the measured time (R204). -/
def advancePayloadOf (measuredToo : Bool) (p : List Byte) : Option (AdvanceResult × Nat × Nat) :=
  match p with
  | r :: c :: m =>
    if fitsCount c.toNat && m.length == (if measuredToo then 3 else 0) then
      (advanceResultOf r).map (fun x => (x, c.toNat, natOf m))
    else none
  | _ => none

/-- The completion row of an ADVANCE, by who issued it (R174). -/
def advanceRow (k : Back) (x : Nat) (o : Outstanding) (p : List Byte) : Option Instr :=
  (advancePayloadOf (decide (o.cmd = .advance .frame 1)) p).bind (fun a =>
    match o.issuer with
    | .firing => some (.advanceCompletion k x a.1 a.2.1 a.2.2)
    | .leader => some (.leaderCompletion k x a.1 a.2.1)
    | .blanking => some (.blankingCompletion k x a.1 a.2.1)
    | .direct _ => some (.passThroughCompletion k x a.1 a.2.1)
    | _ => none)

/-- The completion row of another command, by who issued it (R174). -/
def resultRow (u : UnitSlot) (x : Nat) (o : Outstanding) (r : DirectResult) : Option Instr :=
  if o.issuer.isDirect then some (.directCompletion u x r)
  else
    match r with
    | .load l => some (.loadCompletion x l)
    | .ret l => some (.returnCompletion x l)
    | .scan l => some (.scanCompletion x l)
    | .spot l => some (.spotCompletion x l)
    | .readCount c => u.back.map (fun k => .readCountCompletion k x c)
    | .testShutter _ => none
    | .print l => some (.printCompletion x l)

/-- The completion row of a frame of the outstanding command's kind (R174, R203). -/
def completionRow (f : UnitFrame) (o : Outstanding) : Option Instr :=
  if f.kind ≠ 0x80 + o.cmd.name.code then none
  else
    match o.cmd.name, f.slot.back with
    | .advance, some k => advanceRow k f.exchange o f.payload
    | .advance, none => none
    | name, _ => (unitResultOf name f.payload).bind (resultRow f.slot f.exchange o)

/-- The command a unit's bytes stand for in a state: an answer to the outstanding poll, DETACHING, or the completion of
the outstanding command; none for bytes that are ignored (R169, R174, R203, R204). -/
def unitAnswer (s : State) (bytes : List Byte) : Option Instr :=
  match unitFrameOf bytes with
  | none => none
  | some f =>
    if f.kind = 0x81 then (presenceOf f.payload).map (.presenceAnswer f.slot f.exchange)
    else if f.kind = 0x82 then (statusReportOf f.payload).map (.statusAnswer f.slot f.exchange)
    else if f.kind = 0xFF then
      if f.payload.isEmpty then f.slot.back.map (fun k => .detachingAnswer k f.exchange) else none
    else (s.slot f.slot).outstanding.bind (completionRow f)

end Sys2Proof.Machine
end

