-- ==== Sys2Proof/Safety.lean ====
section
/-!
DEFINITION. The terms that claims are stated in: what answers a desk frame, and what a state of the 740 keeps in every
safe run: its queues and tables within their capacities, a reply entry for every deferred frame, its order and account
records in order, its engine, faults and hold in agreement, its settings in range.
-/

namespace Sys2Proof.Machine

/-! ## Replies -/

/-- The reply joins the tail of the reply queue, and the arbiter begins to send the head when it may (R187, R193). -/
def replied (r : Reply) (s : State) : State := addReply r s

/-- The reply to a MANAGE frame, given and begun to be sent when it may be. -/
def manageReplied (tag : Byte) (code : Nat) (result : Result) (data : ReplyData) (s : State) : State :=
  replied { cls := 3#8, tag := tag, command := code, result := result, data := data } s

/-- The reply to a DIRECT frame, given and begun to be sent when it may be. -/
def directReplied (tag : Byte) (code : Nat) (result : Result) (data : ReplyData) (s : State) : State :=
  replied { cls := 2#8, tag := tag, command := code, result := result, data := data } s

/-- A MANAGE command, as its frame is taken in state `t`, is answered so and changes nothing else. -/
def Answers (c : Instr) (tag : Byte) (code : Nat) (result : Result) (data : ReplyData) (s t : State) : Prop :=
  exec c s = .next (manageReplied tag code result data t)

/-! ## Capacities -/

/-- Every queue and table is within the capacity the spec gives it (R4, R121, R129, R185, R192), and the next order
number is a number an order can have (R3). -/
def Capacities (s : State) : Prop :=
  s.link.buffer.length ≤ 4 ∧ s.link.reports.length ≤ 24 ∧ s.queue.orders.length ≤ 32 ∧
  s.labels.queue.length ≤ 64 ∧ s.charge.accounts.length ≤ 63 ∧ s.tables.stocks.length = 8 ∧
  s.tables.patterns.length = 16 ∧ s.labels.templates.length = 8 ∧ 1 ≤ s.queue.nextNumber ∧
  s.queue.nextNumber ≤ 65535

/-- A command whose completion a reply waits for. -/
def Issuer.deferred : Issuer → Bool
  | .direct tag => tag.isSome
  | .resync tag => tag.isSome
  | .visit => false
  | .cutPhase => false
  | .firing => false
  | .leader => false
  | .blanking => false
  | .label => false

/-- The number of commands of a slot that a reply waits for. -/
def Slot.deferred (x : Slot) : Nat := (x.issuers.filter Issuer.deferred).length

/-- The number of commands on the bus that a reply waits for. -/
def Bus.deferred (b : Bus) : Nat :=
  b.feeder.deferred + b.meter.deferred + b.backA.deferred + b.backB.deferred + b.printer.deferred

/-- Each deferred frame has its reservation, and replies held and reservations together are at most 8 (R187). -/
def ReplyEntries (s : State) : Prop :=
  s.link.reserved = s.bus.deferred ∧ s.link.replies.length + s.link.reserved ≤ 8

/-! ## The order and account records -/

/-- The lists of records are in order: order numbers are distinct (R3); the ending list names the ENDING orders, each
once (R9); an order holds at most 8 spans (R13); a wanted set holds nothing twice, and no more than the queue has orders
(R15, R16); the accounts stand in ascending number, the house account not among them (R129, R141). -/
def RecordsAgree (s : State) : Prop :=
  (s.queue.orders.map (fun o => o.number)).Nodup ∧ (s.queue.ending.map (fun e => e.number)).Nodup ∧
  (∀ e ∈ s.queue.ending, e.number ∈ s.queue.orders.map (fun o => o.number)) ∧
  (∀ o ∈ s.queue.orders, o.state = .ending ↔ o.number ∈ s.queue.ending.map (fun e => e.number)) ∧
  (∀ o ∈ s.queue.orders, o.spans.length ≤ 8) ∧
  s.queue.wantedStock.Nodup ∧ s.queue.wantedStock.length ≤ 32 ∧
  s.queue.wantedMagazine.Nodup ∧ s.queue.wantedMagazine.length ≤ 32 ∧
  s.charge.accounts.Pairwise (fun a b => a.number < b.number) ∧ ∀ a ∈ s.charge.accounts, a.number ≠ 0

/-! ## The engine, its faults and the held visit -/

/-- The open visit is held. -/
def State.held (s : State) : Bool := s.gate.visit.any (fun v => v.held)

/-- No visit is open that is not held. -/
def State.noneUnheld (s : State) : Bool := s.gate.visit.all (fun v => v.held)

/-- The engine is FAULTED exactly while the fault record is filled, and the pending slot is filled only then (R156 to
R160); a stop kind is present exactly in STOPPING, a cleanup stage exactly in RESETTING (R147, R167); the resume record
exists exactly while the visit is held (R153); a visit open in STOPPED, in FAULTED or while stopping with kind HOLD is
held, and one open in RUNNING or RESETTING is not (R147, R157, R163). -/
def EngineAgrees (s : State) : Prop :=
  (s.gate.engine = .faulted ↔ s.events.current.isSome = true) ∧
  (s.events.pendingFault.isSome = true → s.gate.engine = .faulted) ∧
  (s.gate.engine = .stopping ↔ s.gate.stopKind.isSome = true) ∧
  (s.gate.engine = .resetting ↔ s.gate.cleanup.isSome = true) ∧
  s.gate.resume.isSome = s.held ∧
  ((s.gate.engine = .stopped ∨ s.gate.engine = .faulted ∨ s.gate.stopKind = some .hold) → s.noneUnheld = true) ∧
  ((s.gate.engine = .running ∨ s.gate.engine = .resetting ∨ s.gate.stopKind = some .release) → s.held = false)

/-! ## Settings -/

/-- Every numeric setting is in its range, the sync exponent is 0 or 3 to 6, and the job date is a real day (R196,
R197). -/
def Settings.inRanges (x : Settings) : Bool :=
  inRange 1000 20000 x.tref && inRangeInt (-50) 50 x.calibration && inRange 10 500 x.floor &&
  inRange 10000 250000 x.ceiling && inRange 200 2000 x.preOpen && inRange 10 500 x.lampRise &&
  inRange 1 20 x.tolerance && inRange 0 7 x.reshootLimit && inRange 0 4 x.leaderFrames &&
  (x.syncExponent == 0 || inRange 3 6 x.syncExponent) && x.jobDate.all Date.real && inRange 100 5000 x.pollPeriod &&
  inRange 500 20000 x.feederTimeout && inRange 100 5000 x.meterTimeout && inRange 200 5000 x.backTimeout &&
  inRange 500 20000 x.printerTimeout

/-! ## A safe step -/

/-- A step is safe when it goes on, and to a state that keeps its capacities, its reply entries, its records, its engine
and its settings in order. -/
def SafeStep (s : State) : Prop :=
  ∃ t, step s = .next t ∧ Capacities t ∧ ReplyEntries t ∧ RecordsAgree t ∧ EngineAgrees t ∧ t.settings.inRanges = true

end Sys2Proof.Machine
end

