-- ==== Sys2Proof/Certificates/Slice0/Obligations.lean ====
section
/-!
DEFINITION. The statements about the model. A desk command is stated from `taken c s = some t`: its frame can be taken
in s, and t is s without it (R186). What the 740 does as a step ends is `settle` (assumption 8).
-/

open Sys2Proof Sys2Proof.Machine

/-! ## The machine -/

/-- The command at the front of the queue runs, on the state with the rest of the queue. The queue is the model's.
With no command waiting the 740 idles: the model's choice, assumption 2. -/
def Obligations.StepRunsTheQueue : Prop :=
  (∀ (c : Instr) (rest : List Instr) (s : State), s.pending = c :: rest → step s = exec c (s.setPending rest)) ∧
  (∀ s : State, s.pending = [] → step s = .next s)

/-- No command of the 740 stops the machine, and none takes from the queue of waiting commands or adds to it. -/
def Obligations.EveryCommandGoesOn : Prop :=
  ∀ (c : Instr) (s : State), ∃ t, exec c s = .next t ∧ t.pending = s.pending

/-- The Stock and Bracket Pattern Tables, the settings, the label templates and the fees change at their own commands
and at power-on alone (R42, R64, R107, R132, R196). An event of the link that can have frames that wait taken changes
none of them itself: what follows is the taking of those frames. -/
def Obligations.TablesChangeAtTheirOwnCommands : Prop :=
  (∀ (c : Instr) (s t : State), exec c s = .next t → c ≠ .powerOn →
    (∀ x, c ≠ .deskFrameReceived x) → (∀ x, c ≠ .byteReceived x) → c ≠ .deskReadyActive → c ≠ .upstreamFrameSent →
    ((∀ tag f, c ≠ .loadEntryStockWrite tag f) → (∀ tag f, c ≠ .loadEntryStockDelete tag f) →
      (∀ tag f, c ≠ .loadEntryPatternWrite tag f) → (∀ tag f, c ≠ .loadEntryPatternEmpty tag f) →
      t.tables = s.tables) ∧
    ((∀ tag f, c ≠ .setSettings tag f) → (∀ tag f, c ≠ .setNoticeMask tag f) → t.settings = s.settings) ∧
    ((∀ tag f, c ≠ .loadEntryTemplateWrite tag f) → (∀ tag f, c ≠ .loadEntryTemplateEmpty tag f) →
      t.labels.templates = s.labels.templates) ∧
    ((∀ tag f, c ≠ .loadEntryFee tag f) → t.charge.fees = s.charge.fees)) ∧
  (∀ (c : Instr) (x : Byte) (s : State),
    (c = .deskFrameReceived x ∨ c = .byteReceived x ∨ c = .deskReadyActive ∨ c = .upstreamFrameSent) →
    ∃ u, exec c s = .next (testTaking s u) ∧ u.tables = s.tables ∧ u.settings = s.settings ∧
      u.labels.templates = s.labels.templates ∧ u.charge.fees = s.charge.fees)

/-! ## Invariants -/

/-- Every step keeps every queue and table within its capacity (R4, R42, R64, R107, R121, R129, R185, R192), and the
next order number a number (R3). -/
def Obligations.CapacitiesAreKept : Prop :=
  ∀ s t : State, Capacities s → step s = .next t → Capacities t

/-- Every step keeps the engine, its faults and the hold in agreement (R147, R153, R156 to R160, R163, R167). -/
def Obligations.EngineAgreementIsKept : Prop :=
  ∀ s t : State, EngineAgrees s → step s = .next t → EngineAgrees t

/-- Every step keeps a reservation for each deferred frame, and at most 8 replies and reservations (R187); and every
step keeps the settings in their ranges (R196, R197). -/
def Obligations.ReplyEntriesAndSettingsAreKept : Prop :=
  (∀ s t : State, ReplyEntries s → step s = .next t → ReplyEntries t) ∧
  (∀ s t : State, s.settings.inRanges = true → step s = .next t → t.settings.inRanges = true)

/-- Every step keeps the lists of records in order: order numbers are distinct, the ending list names the ENDING orders,
each once, spans and wanted sets keep within their sizes, and the accounts are in ascending number without the house
account (R3, R9, R13, R15, R16, R129, R141). -/
def Obligations.RecordsAgreementIsKept : Prop :=
  ∀ s t : State, Capacities s → RecordsAgree s → step s = .next t → RecordsAgree t

/-- Power-on leaves the 740 in a state that keeps all five. -/
def Obligations.ResetKeepsTheInvariants : Prop :=
  Capacities State.reset ∧ EngineAgrees State.reset ∧ ReplyEntries State.reset ∧ RecordsAgree State.reset ∧
    State.reset.settings.inRanges = true

/-! ## Power-on -/

/-- What the spec gives each block at power-on (R20, R21, R42, R64, R69, R76, R85, R107, R128, R131, R132, R147,
R156, R168, R179, R183, R184 to R193, R196). POWER_ON brings every block to its power-on state. That the desk-ready
line, the lamp sense and the queue of waiting commands stand as they are is the model's choice (assumption 3). -/
def Obligations.PowerOn : Prop :=
  (let s := State.reset
   s.gate.engine = .stopped ∧ s.gate.stopKind = none ∧ s.gate.stepMode = false ∧ s.gate.visit = none ∧
   s.gate.resume = none ∧ s.queue.orders = [] ∧ s.queue.ending = [] ∧ s.queue.nextNumber = 1 ∧
   s.queue.wantedStock = [] ∧ s.queue.wantedMagazine = [] ∧
   s.events.flags = 0#12 ∧ s.events.risen = 0#12 ∧ s.events.current = none ∧ s.events.pendingFault = none ∧
   s.events.traps = { film := false, shutter := false, busy := false } ∧ s.events.lastTrap = none ∧
   s.tables.stocks = List.replicate 8 none ∧
   s.tables.patterns = some { offsets := [0], nominal := 1 } :: List.replicate 15 none ∧
   s.timer.firing = none ∧ s.timer.frames = ⟨none, none⟩ ∧ s.timer.lamp = false ∧ s.timer.shutters = ⟨false, false⟩ ∧
   (∀ k, (s.roll k).state = .noBack ∧ (s.roll k).film = none ∧ (s.roll k).report = none ∧
     (s.roll k).passThrough = .idle) ∧
   s.labels.templates = List.replicate 8 none ∧ s.labels.queue = [] ∧ s.labels.syncCounter = 0 ∧
   s.charge.accounts = [] ∧ s.charge.fees = { order := 0, rush := 0, label := 0 } ∧
   s.charge.house = { charged := 0, blank := 0, spoiled := 0, cut := 0, fogged := 0, labels := 0 } ∧
   (∀ u, (s.slot u).state = .absent ∧ (s.slot u).changed = false ∧ (s.slot u).poll = none ∧
     (s.slot u).outstanding = none ∧ (s.slot u).waiting = []) ∧
   s.link.receiver = .hunt ∧ s.link.buffer = [] ∧ s.link.replies = [] ∧ s.link.reserved = 0 ∧
   s.link.notice = false ∧ s.link.reports = [] ∧ s.link.sending = none ∧
   s.settings.noticeMask = EventFlag.fault.bit ||| EventFlag.trap.bit ||| EventFlag.engineStopped.bit ∧
   s.settings.tref = 4000 ∧ s.settings.floor = 20 ∧ s.settings.ceiling = 200000 ∧ s.settings.preOpen = 500 ∧
   s.settings.lampRise = 100 ∧ s.settings.tolerance = 5 ∧ s.settings.reshootLimit = 2 ∧
   s.settings.leaderFrames = 2 ∧ s.settings.leaderMode = .auto ∧ s.settings.passThrough = false ∧
   s.settings.merge = true ∧ s.settings.labelPolicy = .hold ∧ s.settings.syncExponent = 4 ∧
   s.settings.jobDate = none ∧ s.settings.pollPeriod = 500) ∧
  (∀ s : State, ∃ t, exec .powerOn s = .next t ∧
     t.link = { State.reset.link with deskReady := s.link.deskReady } ∧
     t.timer = { State.reset.timer with lampSense := s.timer.lampSense } ∧ t.pending = s.pending ∧
     t.events = State.reset.events ∧ t.queue = State.reset.queue ∧ t.gate = State.reset.gate ∧
     t.tables = State.reset.tables ∧ t.rolls = State.reset.rolls ∧ t.labels = State.reset.labels ∧
     t.charge = State.reset.charge ∧ t.bus = State.reset.bus ∧ t.settings = State.reset.settings)

/-! ## The desk link: bytes and frames (R184 to R186, R193, R199 to R202) -/

/-- The check over "123456789" is 29B1 (R184). Frames written out from R199 to R204 read as their commands. -/
def Obligations.FramesReadAsTheirCommands : Prop :=
  (crc16 [0x31#8, 0x32#8, 0x33#8, 0x34#8, 0x35#8, 0x36#8, 0x37#8, 0x38#8, 0x39#8] = 0x29B1#16) ∧
  (Desk.decode ⟨3#8, 7#8, [1#8]⟩ = .run 7#8 (.given ()) ∧
   Desk.decode ⟨3#8, 7#8, [24#8, 0#8, 44#8, 0#8, 3#8, 0xE8#8]⟩ = .openAccount 7#8 (.given ⟨44, 1000⟩) ∧
   Desk.decode ⟨3#8, 7#8, [17#8, 1#8, 6#8, 66#8, 87#8, 48#8, 51#8, 48#8, 49#8]⟩ =
     .loadRoll 7#8 (.given ⟨1, 6, [66, 87, 48, 51, 48, 49]⟩) ∧
   Desk.decode ⟨2#8, 9#8, [4#8, 0x30#8, 1#8, 2#8]⟩ = .directAdvance 9#8 4#8 (.given ⟨1, 2⟩) ∧
   Desk.decode ⟨1#8, 5#8, [0#8, 44#8, 12#8, 5#8, 6#8, 2#8, 0#8, 0#8, 3#8, 1#8, 0#8, 0#8, 0xFB#8, 1#8, 0#8, 0#8, 65#8]⟩ =
     .orderFrame 5#8 { account := 44, magazine := 12, position := 5, stock := 6, copies := 2, pattern := 0, mode := 0,
                       rush := true, template := some 1, fixedDensity := none, strayFlags := 0, correction := -5,
                       catalog := [65], title := [], course := [] } ∧
   Desk.decode ⟨3#8, 7#8, [13#8, 1#8, 2#8, 0xFF#8, 0xFF#8, 0xFF#8, 0xFE#8]⟩ = .setSettings 7#8 (.given [⟨2, -2⟩]) ∧
   Desk.decode ⟨3#8, 7#8, [3#8, 0#8]⟩ = .stopRelease 7#8 .mismatched ∧
   Desk.decode ⟨3#8, 7#8, [21#8, 0#8]⟩ = .payloadLengthDiscard 3#8 7#8 ∧
   Desk.decode ⟨0x81#8, 7#8, []⟩ = .unknownClass 0x81#8 7#8)

/-- Reading the frame of a well-formed desk command gives the command back, every operand at every value its bytes
hold, and the frame's payload is at most 250 bytes (R184, R199 to R203). -/
def Obligations.DecodeOfEncode : Prop :=
  ∀ (c : Instr) (f : Frame), c.wellFormed = true → Desk.encode c = some f →
    Desk.decode f = c ∧ f.payload.length ≤ 250

/-- The receiver's table of R184, for BYTE_RECEIVED and DESK_FRAME_RECEIVED alike (the model's reading of the two rows,
assumption 38), and the byte gap. A byte that completes no frame changes the link alone; at the last byte the frame is
judged, and the taking of frames is tested (R186). Taken byte by byte from HUNT, a frame with its check joins the tail of
the receive buffer while it holds fewer than 4, and is discarded otherwise; with any other two check bytes it is
discarded (R184, R185). -/
def Obligations.ReceiverTakesBytes : Prop :=
  (∀ (l : Link) (f : Frame), l.receiver = .hunt → f.payload.length ≤ 250 →
    (Desk.frameBytes f).foldl Link.receive l =
      (if l.buffer.length < 4 then { l with buffer := l.buffer ++ [f] } else l) ∧
    ∀ x y : Byte,
      let inner := f.cls :: f.tag :: BitVec.ofNat 8 f.payload.length :: f.payload
      [x, y] ≠ checkBytes inner → (0xA5#8 :: (inner ++ [x, y])).foldl Link.receive l = l) ∧
  (∀ (x : Byte) (s : State),
    let l := s.link.receive x
    exec .byteGapExpiry s = .next (s.setLink { s.link with receiver := .hunt }) ∧
    exec (.byteReceived x) s = .next (testTaking s (s.setLink l)) ∧
    exec (.deskFrameReceived x) s = .next (testTaking s (s.setLink l)) ∧
    (l.buffer = s.link.buffer → exec (.byteReceived x) s = .next (s.setLink l)) ∧
    (s.link.receiver = .hunt → x = 0xA5#8 → l = { s.link with receiver := .cls }) ∧
    (s.link.receiver = .hunt → x ≠ 0xA5#8 → l = s.link) ∧
    (s.link.receiver = .cls → l = { s.link with receiver := .tag x }) ∧
    (∀ c, s.link.receiver = .tag c → l = { s.link with receiver := .length c x }) ∧
    (∀ c t, s.link.receiver = .length c t → x.toNat ≤ 250 →
      l = { s.link with receiver := .body c t x.toNat [] }) ∧
    (∀ c t, s.link.receiver = .length c t → 250 < x.toNat → l = { s.link with receiver := .hunt }) ∧
    (∀ c t n got, s.link.receiver = .body c t n got → got.length + 1 < n + 2 →
      l = { s.link with receiver := .body c t n (got ++ [x]) }) ∧
    (∀ c t got y, s.link.receiver = .body c t got.length (got ++ [y]) →
      l = { s.link with
        receiver := .hunt
        buffer := s.link.buffer ++
          (if [y, x] = checkBytes (c :: t :: BitVec.ofNat 8 got.length :: got) ∧ s.link.buffer.length < 4 then
            [⟨c, t, got⟩] else []) }))

/-- With the transmitter idle and desk-ready active the arbiter sends the head of the reply queue, else the NOTICE
with the risen set, which is emptied, else the head of the report queue, else nothing; while desk-ready is inactive or a
frame is being sent nothing begins (R189, R193). An item that enters the reply queue, the notice slot or the report queue is
an event of the choice; into an unsent NOTICE a raising is merged, and with the mask bit disabled it fills no slot (R188,
R189, R193). So with nothing held, a trap's NOTICE begins before its REPLY, and of two enabled raisings the first begins a
NOTICE and the second fills the slot again (R179, R189, R193). Past the choice, a report that begins to be sent frees its
slot for a waiting report, and what that changes is an event of the choice of a visit (R22, R192). DESK_READY_ACTIVE and
UPSTREAM_FRAME_SENT are events of the arbiter's choice and may free a reply entry for a frame that waits (R186); a frame
begun goes on as the line falls (R193). While the report queue has a slot free it takes the offered report composed
earliest, of the head of the ending list and the waiting reports of A and B, until no slot or no offer is left: with an
ORDER REPORT its order leaves the ending list and the Order Queue, with a ROLL REPORT the report no longer waits and a
CLOSING roll enters CLOSED (R9, R95, R192). -/
def Obligations.ReportsEnterAndFramesLeaveInOrder : Prop :=
  (∀ s : State,
     (s.link.sending.isSome = true ∨ s.link.deskReady = false → arbiter s = s) ∧
     ((arbiter s).link.reports = s.link.reports → transmit s = arbiter s) ∧
     (∀ r rest, s.link.reports = r :: rest → (arbiter s).link.reports = rest →
       transmit s = choose (drainReports (arbiter s)))) ∧
  (∀ s : State, s.link.sending = none → s.link.deskReady = true →
     (∀ r rest, s.link.replies = r :: rest →
       arbiter s = s.setLink { s.link with replies := rest, sending := some (.reply r) }) ∧
     (s.link.replies = [] → s.link.notice = true →
       arbiter s = (s.setLink { s.link with notice := false, sending := some (.notice s.events.risen s.events.flags) }).setEvents
         { s.events with risen := 0#12 }) ∧
     (∀ r rest, s.link.replies = [] → s.link.notice = false → s.link.reports = r :: rest →
       arbiter s = s.setLink { s.link with reports := rest, sending := some (.report r) }) ∧
     (s.link.replies = [] → s.link.notice = false → s.link.reports = [] → arbiter s = s)) ∧
  (∀ s : State,
     let entered (x : Report) (u : State) : State := arbiter (u.setLink { u.link with reports := u.link.reports ++ [x] })
     let waiting (n : Nat) : Prop :=
       (∀ e, s.queue.ending.head? = some e → n ≤ e.stamp) ∧ (∀ k m r, (s.roll k).report = some (m, r) → n ≤ m)
     (24 ≤ s.link.reports.length → drainReports s = s) ∧
     (24 ≤ (drainReports s).link.reports.length ∨
       (drainReports s).queue.ending = [] ∧ ∀ k, ((drainReports s).roll k).report = none) ∧
     (∀ e, s.link.reports.length < 24 → s.queue.ending.head? = some e → waiting e.stamp →
       (∀ k m r, (s.roll k).report = some (m, r) → m ≠ e.stamp) →
       drainReports s = drainReports (entered (.order e.report) (s.setQueue { s.queue with
         orders := s.queue.orders.filter (fun o => o.number != e.number), ending := s.queue.ending.tail }))) ∧
     (∀ k m r, s.link.reports.length < 24 → (s.roll k).report = some (m, r) → waiting m →
       (∀ e, s.queue.ending.head? = some e → e.stamp ≠ m) →
       (∀ n q, (s.roll k.other).report = some (n, q) → n ≠ m) →
       drainReports s = drainReports (entered (.roll r) (s.setRoll k { s.roll k with
         report := none
         state := if (s.roll k).state = .closing then .closed else (s.roll k).state })))) ∧
  (∀ (r : Reply) (x : Report) (f : EventFlag) (s : State),
     let raised := s.setEvents { s.events with flags := s.events.flags ||| f.bit, risen := s.events.risen ||| f.bit }
     addReply r s = arbiter (s.setLink { s.link with replies := s.link.replies ++ [r] }) ∧
     enterReport x s = arbiter (s.setLink { s.link with reports := s.link.reports ++ [x] }) ∧
     (hasFlag s.settings.noticeMask f = true → s.link.notice = false →
       raise f s = arbiter (raised.setLink { s.link with notice := true })) ∧
     (hasFlag s.settings.noticeMask f = false ∨ s.link.notice = true → raise f s = raised)) ∧
  (∀ (f g : EventFlag) (tag : Byte) (u : UnitSlot) (cmd : UnitCmd) (reason : Reason) (s : State),
     s.link.sending = none → s.link.deskReady = true → s.link.replies = [] → s.link.notice = false →
     (hasFlag s.settings.noticeMask .trap = true →
       let t := trap tag u cmd reason s
       t.link.sending = some (.notice (s.events.risen ||| EventFlag.trap.bit) (s.events.flags ||| EventFlag.trap.bit)) ∧
       t.link.replies =
         [{ cls := 2#8, tag := tag, command := cmd.name.code, result := .trapped reason, data := .none }] ∧
       t.link.notice = false ∧ t.events.risen = 0#12) ∧
     (hasFlag s.settings.noticeMask f = true → hasFlag s.settings.noticeMask g = true →
       let t := raise g (raise f s)
       t.link.sending = some (.notice (s.events.risen ||| f.bit) (s.events.flags ||| f.bit)) ∧
       t.link.notice = true ∧ t.events.risen = g.bit ∧ t.events.flags = s.events.flags ||| f.bit ||| g.bit)) ∧
  (∀ s : State,
     exec .deskReadyInactive s = .next (s.setLink { s.link with deskReady := false }) ∧
     exec .deskReadyActive s = .next (testTaking s (transmit (s.setLink { s.link with deskReady := true }))) ∧
     (s.link.sending.isSome = true →
       exec .deskReadyActive s = .next (s.setLink { s.link with deskReady := true }) ∧
       exec .upstreamFrameSent s = .next (testTaking s (transmit (s.setLink { s.link with sending := none }))) ∧
       (s.link.deskReady = false → exec .upstreamFrameSent s = .next (s.setLink { s.link with sending := none }))) ∧
     (s.link.sending = none → exec .upstreamFrameSent s = .next s))

/-- A desk frame that arrives while no reply entry is free waits in the receive buffer, or is lost when the buffer is full
(R184 to R187). The last byte of a frame that finds the buffer empty and an entry free does what the frame's own row does.
When an entry comes free, or a frame joins, the frames that wait are taken from the head, one after the other, each by its
own row, until no entry is free or none waits (R186). That the row of a desk command is its frame arriving whole, which
joins the buffer or is lost, and that the frames that wait are taken within the same event, are the model's choice
(assumption 1). -/
def Obligations.FramesAreTakenInTurn : Prop :=
  (∀ (c : Instr) (f : Frame) (s : State), Desk.encode c = some f → 8 ≤ s.link.replies.length + s.link.reserved →
    exec c s = .next (if s.link.buffer.length < 4 then s.setLink { s.link with buffer := s.link.buffer ++ [f] } else s)) ∧
  (∀ (x : Byte) (f : Frame) (s : State), s.link.buffer = [] → s.link.replies.length + s.link.reserved < 8 →
    s.link.receive x = { s.link with receiver := .hunt, buffer := [f] } →
    exec (.byteReceived x) s = exec (Desk.decode f) (s.setLink { s.link with receiver := .hunt })) ∧
  (∀ (b s : State),
    let joined := b.link.buffer.length < s.link.buffer.length
    let freed := s.link.replies.length + s.link.reserved < b.link.replies.length + b.link.reserved
    (joined ∨ freed → testTaking b s = takeWaiting 4 s) ∧ (¬joined → ¬freed → testTaking b s = s)) ∧
  (∀ (n : Nat) (s : State),
    (s.link.buffer = [] ∨ 8 ≤ s.link.replies.length + s.link.reserved → takeWaiting n s = s) ∧
    (∀ f rest t, s.link.buffer = f :: rest → s.link.replies.length + s.link.reserved < 8 →
      exec (Desk.decode f) s = .next t → takeWaiting (n + 1) s = takeWaiting n t ∧ t.link.buffer.length ≤ rest.length)) ∧
  (∀ s : State, s.link.buffer.length ≤ 4 →
    let t := takeWaiting 4 s
    t.link.buffer = [] ∨ 8 ≤ t.link.replies.length + t.link.reserved)

/-- Frames no block owns: an unknown class is answered UNKNOWN-CLASS with its class and tag, a frame of a wrong length
leaves no trace, an unknown MANAGE command is refused BAD-FIELD in every engine state (R167, R186). -/
def Obligations.UnownedFrames : Prop :=
  ∀ (cls tag code : Byte) (s t : State),
    (taken (.unknownClass cls tag) s = some t →
      exec (.unknownClass cls tag) s =
        .next (replied { cls := cls, tag := tag, command := 0, result := .unknownClass, data := .none } t)) ∧
    (taken (.payloadLengthDiscard cls tag) s = some t → exec (.payloadLengthDiscard cls tag) s = .next t) ∧
    (taken (.unknownManageCommand tag code) s = some t →
      Answers (.unknownManageCommand tag code) tag code.toNat (.refused .badField) .none s t)

/-- While the engine is RESETTING every MANAGE command but READ STATUS is answered REFUSED BUSY and has no effect of its
own (R167). A MANAGE frame whose fields do not agree with its command's layout is refused BAD-FIELD (R199, R200), or BUSY
while RESETTING, READ STATUS BAD-FIELD in every engine state, and has no effect of its own; what a row that can change the
stand then ends with is `settle` (assumption 8). That the answer of an account command to such a frame carries no account
number is the model's choice (assumption 41). -/
def Obligations.ManageCommandsBusyOrMismatched : Prop :=
  (∀ (c : Instr) (f : Frame) (code : Byte) (rest : List Byte) (s t : State),
    Desk.encode c = some f → f.cls = 3#8 → f.payload = code :: rest → 1 ≤ code.toNat → code.toNat ≤ 31 →
    code ≠ 9#8 → c.wellFormed = true → taken c s = some t → t.gate.engine = .resetting →
    ∃ data, exec c s = .next (manageReplied f.tag code.toNat (.refused .busy) data t) ∨
      exec c s = .next (settle (answer f.tag code.toNat (.refused .busy) data t))) ∧
  (∀ (c : Instr) (code : Nat) (stand : Bool) (tag : Byte) (s t : State),
    (c, code, stand) ∈ ([(.run tag .mismatched, 1, true), (.stopHold tag .mismatched, 2, true),
      (.stopRelease tag .mismatched, 3, true), (.stepOn tag .mismatched, 4, false), (.stepOff tag .mismatched, 5, false),
      (.clearFault tag .mismatched, 6, true), (.readResume tag .mismatched, 7, false),
      (.linkReset tag .mismatched, 8, true), (.readStatus tag .mismatched, 9, false),
      (.ackEvents tag .mismatched, 10, false), (.setNoticeMask tag .mismatched, 11, false),
      (.clearTraps tag .mismatched, 12, false), (.setSettings tag .mismatched, 13, true),
      (.readSettings tag .mismatched, 14, false), (.loadEntryStockWrite tag .mismatched, 15, false),
      (.loadEntryStockDelete tag .mismatched, 15, false), (.loadEntryPatternWrite tag .mismatched, 15, false),
      (.loadEntryPatternEmpty tag .mismatched, 15, false), (.loadEntryTemplateWrite tag .mismatched, 15, false),
      (.loadEntryTemplateEmpty tag .mismatched, 15, false), (.loadEntryFee tag .mismatched, 15, false),
      (.readEntryStock tag .mismatched, 16, false), (.readEntryPattern tag .mismatched, 16, false),
      (.readEntryTemplate tag .mismatched, 16, false), (.readEntryFee tag .mismatched, 16, false),
      (.loadRoll tag .mismatched, 17, true), (.closeRoll tag .mismatched, 18, true),
      (.resyncRoll tag .mismatched, 19, false), (.readRollMap tag .mismatched, 20, false),
      (.cancelOrder tag .mismatched, 21, true), (.readOrder tag .mismatched, 22, false),
      (.discardLabels tag .mismatched, 23, true), (.openAccount tag .mismatched, 24, false),
      (.readAccount tag .mismatched, 25, false), (.setCeiling tag .mismatched, 26, false),
      (.suspendAccount tag .mismatched, 27, false), (.reopenAccount tag .mismatched, 28, false),
      (.credit tag .mismatched, 29, false), (.clearCharged tag .mismatched, 30, false),
      (.deleteAccount tag .mismatched, 31, false)] : List (Instr × Nat × Bool)) →
    taken c s = some t →
    let reason : Reason := if t.gate.engine = .resetting ∧ code ≠ 9 then .busy else .badField
    exec c s = .next (if stand then settle (answer tag code (.refused reason) .none t)
      else manageReplied tag code (.refused reason) .none t))

/-! ## Flags, traps, status (R179, R181, R188 to R191, R194) -/

/-- A raising sets the flag and puts it into the risen set, the others as they were, and fills the notice slot exactly when
its mask bit is enabled; when the transmitter may begin and holds no reply, a NOTICE so placed begins to be sent with the
risen set, which is emptied; with a reply held the head reply begins. No other part of the state changes (R188, R189,
R193). ACK EVENTS (R190). -/
def Obligations.FlagsRaisedAndAcknowledged : Prop :=
  (∀ (f : EventFlag) (s : State),
     let t := raise f s
     let risen := s.events.risen ||| f.bit
     let asked : Prop := hasFlag s.settings.noticeMask f = true ∧ s.link.notice = false ∧ s.link.sending = none ∧
       s.link.deskReady = true
     hasFlag t.events.flags f = true ∧ hasFlag risen f = true ∧
     (∀ g, g ≠ f → hasFlag t.events.flags g = hasFlag s.events.flags g ∧ hasFlag risen g = hasFlag s.events.risen g) ∧
     (¬asked → t.events.risen = risen ∧
       t.link = { s.link with notice := s.link.notice || hasFlag s.settings.noticeMask f }) ∧
     (asked → s.link.replies = [] → t.events.risen = 0#12 ∧
       t.link = { s.link with sending := some (.notice risen t.events.flags) }) ∧
     (∀ r rest, asked → s.link.replies = r :: rest → t.events.risen = risen ∧
       t.link = { s.link with notice := true, replies := rest, sending := some (.reply r) }) ∧
     t = (s.setLink t.link).setEvents { s.events with flags := t.events.flags, risen := t.events.risen }) ∧
  (∀ (tag : Byte) (named : EventSet) (s t : State), taken (.ackEvents tag (.given named)) s = some t →
     (t.gate.engine = .resetting →
       Answers (.ackEvents tag (.given named)) tag 10 (.refused .busy) .none s t) ∧
     (t.gate.engine ≠ .resetting → ∃ u after,
       exec (.ackEvents tag (.given named)) s = .next (manageReplied tag 10 .ok (.sets t.events.flags after) u) ∧
       (∀ f, hasFlag after f = (hasFlag t.events.flags f && !hasFlag named f)) ∧
       u = (t.setEvents { t.events with flags := after }).setBus u.bus ∧ u.bus.period = t.bus.period ∧
       (∀ x, u.slot x = { t.slot x with changed := (t.slot x).changed && !hasFlag named .unitChange })) ∧
     (∀ (f : EventFlag) (v : State), hasFlag (raise f v).events.flags f = true))

/-- SET NOTICE MASK replaces the mask whole, and answers with the mask before and after; no flag, notice or risen set
changes (R191). CLEAR TRAPS (R181). -/
def Obligations.MaskAndTraps : Prop :=
  (∀ (tag : Byte) (mask : EventSet) (s t : State), taken (.setNoticeMask tag (.given mask)) s = some t →
     t.gate.engine ≠ .resetting →
     Answers (.setNoticeMask tag (.given mask)) tag 11 .ok (.sets t.settings.noticeMask mask) s
       (t.setSettings { t.settings with noticeMask := mask })) ∧
  (∀ (tag : Byte) (s t : State), taken (.clearTraps tag (.given ())) s = some t →
     (t.gate.engine = .resetting → Answers (.clearTraps tag (.given ())) tag 12 (.refused .busy) .none s t) ∧
     (t.gate.engine ≠ .resetting →
       Answers (.clearTraps tag (.given ())) tag 12 .ok (.traps t.events.traps t.events.lastTrap) s
         (t.setEvents { t.events with traps := { film := false, shutter := false, busy := false }, lastTrap := none })))

/-! ## Settings (R197, R198) -/

/-- SET SETTINGS, by the checks of R197 in their order: BAD-FIELD for an item number or a value that names nothing, an item
carried twice or a day that is none; FLOOR-CEILING, on the values as carried; BUSY for an item of group A unless the engine
is STOPPED with no visit open. Otherwise every item is written at its clamped value, and the reply is CLAMPED when a clamp
changed one: a numeric item outside its range of R196 takes the nearer end, a sync exponent of 1 or 2 takes 3, and any other
value stands as it is carried. An item of the write has its setting at that value, and every other setting stands; that it names the clamped items in the order carried is the model's choice (assumption 43). A change of the
label policy is an event of the tests of R30 and R35 (R122); that the reply joins before them, so before a LABEL-HOLD they
raise, is the model's choice too (assumption 8). -/
def Obligations.SetSettings : Prop :=
  ∀ (tag : Byte) (items : List SettingItem) (s t : State), taken (.setSettings tag (.given items)) s = some t →
    t.gate.engine ≠ .resetting →
    let refusedWith (r : Reason) : Prop :=
      exec (.setSettings tag (.given items)) s = .next (settle (answer tag 13 (.refused r) .none t))
    let realDay (v : Int) : Prop := ∃ y m d : Nat, v = (y * 10000 + m * 100 + d : Nat) ∧ 2000 ≤ y ∧ y ≤ 2099 ∧ 1 ≤ m ∧
      m ≤ 12 ∧ 1 ≤ d ∧ d ≤ daysIn y m
    let good : Prop := (items.map (fun i => i.item)).Nodup ∧ ∀ i ∈ items, 1 ≤ i.item ∧ i.item ≤ 21 ∧
      (10 ≤ i.item → i.item ≤ 13 → i.value = 0 ∨ i.value = 1) ∧ (i.item = 15 → i.value = -1 ∨ realDay i.value) ∧
      (i.item = 21 → 0 ≤ i.value ∧ i.value ≤ 4095)
    let value (n : Nat) (stands : Int) : Int := ((items.find? (fun i => i.item == n)).map (fun i => i.value)).getD stands
    let apart : Prop := value 3 t.settings.floor < value 4 t.settings.ceiling
    let ranges : List (Nat × Int × Int) :=
      [(1, 1000, 20000), (2, -50, 50), (3, 10, 500), (4, 10000, 250000), (5, 200, 2000), (6, 10, 500), (7, 1, 20),
       (8, 0, 7), (9, 0, 4), (14, 0, 6), (16, 100, 5000), (17, 500, 20000), (18, 100, 5000), (19, 200, 5000),
       (20, 500, 20000)]
    let allowed : Prop := (∀ i ∈ items, i.item = 11 ∨ i.item = 13 ∨ i.item = 14 ∨ i.item = 21) ∨
      (t.gate.engine = .stopped ∧ t.gate.visit = none)
    (¬good → refusedWith .badField) ∧ (good → ¬apart → refusedWith .floorCeiling) ∧
    (good → apart → ¬allowed → refusedWith .busy) ∧
    (good → apart → allowed →
      let x := items.foldl (fun y i => writeSetting y (settingClamped i)) t.settings
      let u := answer tag 13 (if clampedNumbers items = [] then .ok else .clamped)
        (.settings (settingItems x) (clampedNumbers items)) (t.setSettings x)
      exec (.setSettings tag (.given items)) s =
        .next (settle (if x.labelPolicy = t.settings.labelPolicy then u else testVisit u)) ∧
      clampedNumbers items = (items.filter (fun i => settingClamped i != i)).map (fun i => i.item) ∧
      (∀ n, 1 ≤ n → n ≤ 21 → ∃ y z, (settingItems x)[n - 1]? = some y ∧ (settingItems t.settings)[n - 1]? = some z ∧
        y.item = n ∧ z.item = n ∧ ((∀ i ∈ items, i.item ≠ n) → y = z) ∧
        ∀ i ∈ items, i.item = n → y = settingClamped i)) ∧
    (∀ i : SettingItem, (settingClamped i).item = i.item ∧
      (i.item = 14 → i.value = 1 ∨ i.value = 2 → (settingClamped i).value = 3) ∧
      (∀ lo hi, (i.item, lo, hi) ∈ ranges → ¬(i.item = 14 ∧ (i.value = 1 ∨ i.value = 2)) →
        (settingClamped i).value = max lo (min hi i.value)) ∧
      ((∀ lo hi, (i.item, lo, hi) ∉ ranges) → settingClamped i = i))

/-! ## The tables (R43 to R46, R65 to R67, R108 to R110, R133, R134, R199) -/

/-- READ SETTINGS (R198). READ STATUS is answered OK in every engine state with the state of the 740, group by group of
R194: engine, faults and events, visit, firing, rolls (R104, R183), orders, labels (R121), units (R168) and link; and changes
nothing but the reply queue and the transmitter that it is given to. That the free positions are absent before the back's
first LOAD ROLL, and that the records by state are three counts, is the model's choice (assumptions 5 and 42). READ ORDER answers with the record, or
NO-ORDER, and changes nothing else (R19). -/
def Obligations.ReadingSettingsStatusAndOrders : Prop :=
  (∀ (tag : Byte) (s t : State), taken (.readSettings tag (.given ())) s = some t →
     (t.gate.engine = .resetting → Answers (.readSettings tag (.given ())) tag 14 (.refused .busy) .none s t) ∧
     (t.gate.engine ≠ .resetting →
       Answers (.readSettings tag (.given ())) tag 14 .ok (.settings (settingItems t.settings) []) s t) ∧
     (settingItems t.settings).map (fun i => i.item) = List.range' 1 21 ∧
     (t.settings.inRanges = true → (settingItems t.settings).foldl writeSetting t.settings = t.settings)) ∧
  (∀ (tag : Byte) (s t : State), taken (.readStatus tag (.given ())) s = some t →
     Answers (.readStatus tag (.given ())) tag 9 .ok (.status (statusOf t)) s t ∧
     let x := statusOf t
     let records (y : OrderState) : Nat := (t.queue.orders.filter (fun o => o.state == y)).length
     (x.engine = t.gate.engine ∧ x.stopKind = t.gate.stopKind ∧ x.stepMode = t.gate.stepMode ∧
       x.stage = t.gate.cleanup.map (fun c => c.stage)) ∧
     (x.current = t.events.current ∧ x.pendingFault = t.events.pendingFault ∧ x.flags = t.events.flags ∧
       x.risen = t.events.risen ∧ x.mask = t.settings.noticeMask ∧ x.traps = t.events.traps ∧
       x.lastTrap = t.events.lastTrap) ∧
     x.visit = t.gate.visit ∧ x.firing = t.timer.firing ∧ x.frames = t.timer.frames ∧
     (∀ k : Back, x.rolls.get k =
       { state := (t.roll k).state, rollId := (t.roll k).film.map (fun f => f.rollId),
         stock := (t.roll k).film.map (fun f => f.stock), counter := (t.roll k).counter,
         free := (t.roll k).film.map (fun f => f.frames + 1 - (t.roll k).counter),
         leaderRemaining := (t.roll k).leaderRemaining, reportWaiting := (t.roll k).report.isSome,
         commandOutstanding := (t.slot k.slot).outstanding.isSome, passThrough := (t.roll k).passThrough }) ∧
     (x.queued = records .queued ∧ x.active = records .active ∧ x.ending = records .ending ∧
       x.endingList = t.queue.ending.length ∧ x.wantedStock = t.queue.wantedStock ∧
       x.wantedMagazine = t.queue.wantedMagazine) ∧
     x.labels =
       { policy := t.settings.labelPolicy, held := t.labels.queue.length, free := 64 - t.labels.queue.length,
         printOutstanding := (t.slot .printer).outstanding.any (fun o => o.issuer == .label) ||
           (t.slot .printer).waiting.any (fun c => c.issuer == .label),
         labelWait := t.labels.labelWait, syncCounter := t.labels.syncCounter,
         interval := if t.settings.syncExponent = 0 then none else some (2 ^ t.settings.syncExponent),
         truncated := t.labels.truncated, templateErrors := t.labels.templateErrors } ∧
     x.units = [UnitSlot.feeder, .meter, .backA, .backB, .printer].map (fun u =>
       { state := (t.slot u).state, changed := (t.slot u).changed,
         command := (t.slot u).outstanding.map (fun o => o.cmd.name), waiting := (t.slot u).waiting.length,
         magazine := (t.slot u).magazine, printer := (t.slot u).printer }) ∧
     (x.bufferFrames = t.link.buffer.length ∧ x.repliesHeld = t.link.replies.length ∧
       x.reservations = t.link.reserved ∧ x.noticeHeld = t.link.notice ∧ x.reportsHeld = t.link.reports.length ∧
       (x.controllerReady = true ↔ t.link.buffer.length < 4) ∧ x.deskReady = t.link.deskReady)) ∧
  (∀ (tag : Byte) (n : Nat) (s t : State), taken (.readOrder tag (.given n)) s = some t → t.gate.engine ≠ .resetting →
     (t.order? n = none → Answers (.readOrder tag (.given n)) tag 22 (.refused .noOrder) .none s t) ∧
     (∀ o, t.order? n = some o → Answers (.readOrder tag (.given n)) tag 22 .ok (.order o) s t))

/-- LOAD ENTRY of a stock: the checks of R43 in their order, and the entry written; after it the code reads as the new
entry and every other code as before. BAD-FIELD is for a code outside 1 to 255, a speed outside −60 to +60, frames outside
12 to 72, a knee outside −100 to +100 and a slope above 50 (R42). The name keeps its first 8 characters, a character outside
the codes 32 to 126 becoming a space, CLAMPED when that changes it, and is filled out with spaces. With no fields the entry is deleted, by the checks of R44 in their order. READ ENTRY
of the Stock Table, with the use of the code: of each back whether its roll record holds it, in any back state, and the
roll's state; the orders that name it; and whether it is wanted (R45, R46). -/
def Obligations.Stocks : Prop :=
  (∀ (tag : Byte) (f : StockFields) (s t : State), taken (.loadEntryStockWrite tag (.given f)) s = some t →
     t.gate.engine ≠ .resetting →
     let good : Prop := 1 ≤ f.code ∧ f.code ≤ 255 ∧ -60 ≤ f.speed ∧ f.speed ≤ 60 ∧ 12 ≤ f.frames ∧ f.frames ≤ 72 ∧
       -100 ≤ f.knee ∧ f.knee ≤ 100 ∧ f.slope ≤ 50
     let name : Text := (f.name.take 8).map (fun c => if 32 ≤ c ∧ c ≤ 126 then c else 32)
     (¬good → Answers (.loadEntryStockWrite tag (.given f)) tag 15 (.refused .badField) .none s t) ∧
     (good → t.stockOnFilm f.code = true →
       Answers (.loadEntryStockWrite tag (.given f)) tag 15 (.refused .inUse) .none s t) ∧
     (good → t.stockOnFilm f.code = false → t.stock? f.code = none → none ∉ t.tables.stocks →
       Answers (.loadEntryStockWrite tag (.given f)) tag 15 (.refused .tableFull) .none s t) ∧
     (good → t.stockOnFilm f.code = false → ((t.stock? f.code).isSome = true ∨ none ∈ t.tables.stocks) →
       ∃ u, Answers (.loadEntryStockWrite tag (.given f)) tag 15 (if name = f.name then .ok else .clamped) .none s u ∧
         u = t.setTables { t.tables with stocks := u.tables.stocks } ∧
         u.stock? f.code = some { code := f.code, name := name ++ List.replicate (8 - name.length) 32, speed := f.speed,
                                  frames := f.frames, knee := f.knee, slope := f.slope, price := f.price } ∧
         ∀ code, code ≠ f.code → u.stock? code = t.stock? code)) ∧
  (∀ (tag : Byte) (code : Nat) (s : State),
     (∀ t, taken (.loadEntryStockDelete tag (.given code)) s = some t → t.gate.engine ≠ .resetting →
       ((code = 0 ∨ 255 < code) →
         Answers (.loadEntryStockDelete tag (.given code)) tag 15 (.refused .badField) .none s t) ∧
       (1 ≤ code → code ≤ 255 → t.stock? code = none →
         Answers (.loadEntryStockDelete tag (.given code)) tag 15 (.refused .noEntry) .none s t) ∧
       (1 ≤ code → code ≤ 255 → (t.stock? code).isSome = true →
           (t.stockOnFilm code = true ∨ ∃ o ∈ t.queue.orders, o.stock = code) →
         Answers (.loadEntryStockDelete tag (.given code)) tag 15 (.refused .inUse) .none s t) ∧
       (1 ≤ code → code ≤ 255 → (t.stock? code).isSome = true → t.stockOnFilm code = false →
           (∀ o ∈ t.queue.orders, o.stock ≠ code) →
         ∃ u, Answers (.loadEntryStockDelete tag (.given code)) tag 15 .ok .none s u ∧
           u = t.setTables { t.tables with stocks := u.tables.stocks } ∧ u.stock? code = none ∧
           ∀ other, other ≠ code → u.stock? other = t.stock? other)) ∧
     (∀ t : State, t.stockOnFilm code = true ↔ ∃ k, (t.roll k).stock? = some code ∧ ((t.roll k).state = .leader ∨
       (t.roll k).state = .ready ∨ (t.roll k).state = .suspect ∨ (t.roll k).state = .closing)) ∧
     (∀ t key, taken (.readEntryStock tag (.given key)) s = some t → t.gate.engine ≠ .resetting →
       (key = none → Answers (.readEntryStock tag (.given key)) tag 16 .ok
         (.keys (t.tables.stocks.filterMap (fun p => p.map (fun e => e.code)))) s t) ∧
       (key = some code → t.stock? code = none →
         Answers (.readEntryStock tag (.given key)) tag 16 (.refused .noEntry) .none s t) ∧
       (∀ e, key = some code → t.stock? code = some e → ∃ use : StockUse,
         Answers (.readEntryStock tag (.given key)) tag 16 .ok (.stockEntry e use) s t ∧
         use.states = ⟨(t.roll .a).state, (t.roll .b).state⟩ ∧
         (∀ k, use.carries.get k = true ↔ (t.roll k).stock? = some code) ∧
         use.orders = (t.queue.orders.filter (fun o => o.stock == code)).length ∧
         (use.wanted = true ↔ code ∈ t.queue.wantedStock))))

/-- LOAD ENTRY of a pattern (R65, R66): written when every field is in range, which is a number of 1 to 15, 1 to 7 steps
with as many offsets, each of −30 to +30, and a nominal step among them, and refused BAD-FIELD otherwise; emptied when
loaded; the other entries stay. READ ENTRY of the Bracket Pattern Table (R67). -/
def Obligations.Patterns : Prop :=
  (∀ (tag : Byte) (s t : State), t.gate.engine ≠ .resetting → t.tables.patterns.length = 16 →
     (∀ f, taken (.loadEntryPatternWrite tag (.given f)) s = some t →
       let good : Prop := 1 ≤ f.number ∧ f.number ≤ 15 ∧ 1 ≤ f.stepCount ∧ f.stepCount ≤ 7 ∧
         f.offsets.length = f.stepCount ∧ (∀ x ∈ f.offsets, -30 ≤ x ∧ x ≤ 30) ∧ 1 ≤ f.nominal ∧ f.nominal ≤ f.stepCount
       (¬good → Answers (.loadEntryPatternWrite tag (.given f)) tag 15 (.refused .badField) .none s t) ∧
       (good →
         ∃ u, Answers (.loadEntryPatternWrite tag (.given f)) tag 15 .ok .none s u ∧
           u = t.setTables { t.tables with patterns := u.tables.patterns } ∧
           u.pattern? f.number = some { offsets := f.offsets, nominal := f.nominal } ∧
           ∀ n, n ≠ f.number → u.pattern? n = t.pattern? n)) ∧
     (∀ n, taken (.loadEntryPatternEmpty tag (.given n)) s = some t →
       ((n = 0 ∨ 15 < n) → Answers (.loadEntryPatternEmpty tag (.given n)) tag 15 (.refused .badField) .none s t) ∧
       (1 ≤ n → n ≤ 15 → t.pattern? n = none →
         Answers (.loadEntryPatternEmpty tag (.given n)) tag 15 (.refused .noEntry) .none s t) ∧
       (1 ≤ n → n ≤ 15 → (t.pattern? n).isSome = true →
         ∃ u, Answers (.loadEntryPatternEmpty tag (.given n)) tag 15 .ok .none s u ∧
           u = t.setTables { t.tables with patterns := u.tables.patterns } ∧ u.pattern? n = none ∧
           ∀ m, m ≠ n → u.pattern? m = t.pattern? m))) ∧
  (∀ (tag : Byte) (key : Option Nat) (s t : State), taken (.readEntryPattern tag (.given key)) s = some t →
     (t.gate.engine = .resetting → Answers (.readEntryPattern tag (.given key)) tag 16 (.refused .busy) .none s t) ∧
     (t.gate.engine ≠ .resetting →
       (key = none → ∃ l, Answers (.readEntryPattern tag (.given key)) tag 16 .ok (.keys l) s t ∧
         l.Pairwise (· < ·) ∧ ∀ n, n ∈ l ↔ (t.pattern? n).isSome = true) ∧
       (∀ n, key = some n → 15 < n →
         Answers (.readEntryPattern tag (.given key)) tag 16 (.refused .badField) .none s t) ∧
       (∀ n, key = some n → n ≤ 15 → t.pattern? n = none →
         Answers (.readEntryPattern tag (.given key)) tag 16 (.refused .noEntry) .none s t) ∧
       (∀ n p, key = some n → n ≤ 15 → t.pattern? n = some p →
         Answers (.readEntryPattern tag (.given key)) tag 16 .ok (.patternEntry p) s t)))

/-- LOAD ENTRY of a template (R108, R109): refused while an order names it, written whole, emptied; the other
templates stay. It is refused BAD-FIELD for a number above 7, no step or more than 24, a fifth literal, a step byte that is
none of the sixteen, or an operand out of its range: a literal 0 to 3, 1 to 8 spaces, one of six conditions with 1 to 4
steps, a template 0 to 7 (R107, R199). That a step without an operand is refused with an operand byte that is not 0 is the
model's reading (assumption 32). A literal keeps its first 12 characters, one outside the codes 32 to 126 becoming a space,
and the reply is CLAMPED when that changes one; a literal not carried is empty. READ ENTRY of the Label Template Table (R110). -/
def Obligations.Templates : Prop :=
  (∀ (tag : Byte) (s t : State), t.gate.engine ≠ .resetting → t.labels.templates.length = 8 →
     (∀ f, taken (.loadEntryTemplateWrite tag (.given f)) s = some t →
       let condition (c : SkipCond) : Nat := match c with
         | .spoiled => 1 | .timeClamped => 2 | .offNominal => 3 | .titleAbsent => 4 | .courseAbsent => 5 | .redo => 6
       let spelled (st : TStep) : RawStep := match st with
         | .putCatalog => ⟨1, 0⟩ | .putTitle => ⟨2, 0⟩ | .putCourse => ⟨3, 0⟩ | .putAccount => ⟨4, 0⟩
         | .putOrder => ⟨5, 0⟩ | .putRoll => ⟨6, 0⟩ | .putFrame => ⟨7, 0⟩ | .putStep => ⟨8, 0⟩ | .putDate => ⟨9, 0⟩
         | .putLiteral n => ⟨10, n⟩ | .space n => ⟨11, n⟩ | .nextLine => ⟨12, 0⟩
         | .skipIf c n => ⟨13, 16 * condition c + n⟩ | .continueAt n => ⟨14, n⟩ | .omit_ => ⟨15, 0⟩ | .end_ => ⟨16, 0⟩
       let legal (st : TStep) : Prop :=
         (∀ n, st = .putLiteral n → n ≤ 3) ∧ (∀ n, st = .space n → 1 ≤ n ∧ n ≤ 8) ∧
         (∀ c n, st = .skipIf c n → 1 ≤ n ∧ n ≤ 4) ∧ ∀ n, st = .continueAt n → n ≤ 7
       let program (steps : List TStep) : Prop := f.number ≤ 7 ∧ 1 ≤ f.steps.length ∧ f.steps.length ≤ 24 ∧
         f.literals.length ≤ 4 ∧ f.steps = steps.map spelled ∧ ∀ st ∈ steps, legal st
       let literals : List Text :=
         f.literals.map (fun l => (l.take 12).map (fun c => if 32 ≤ c ∧ c ≤ 126 then c else 32))
       ((∀ steps, ¬program steps) →
         Answers (.loadEntryTemplateWrite tag (.given f)) tag 15 (.refused .badField) .none s t) ∧
       (∀ steps, program steps → (∃ o ∈ t.queue.orders, o.template = some f.number) →
         Answers (.loadEntryTemplateWrite tag (.given f)) tag 15 (.refused .inUse) .none s t) ∧
       (∀ steps, program steps → (∀ o ∈ t.queue.orders, o.template ≠ some f.number) →
         ∃ u, Answers (.loadEntryTemplateWrite tag (.given f)) tag 15
             (if literals = f.literals then .ok else .clamped) .none s u ∧
           u = t.setLabels { t.labels with templates := u.labels.templates } ∧
           u.template? f.number =
             some { steps := steps, literals := literals ++ List.replicate (4 - literals.length) [] } ∧
           ∀ n, n ≠ f.number → u.template? n = t.template? n)) ∧
     (∀ n, taken (.loadEntryTemplateEmpty tag (.given n)) s = some t →
       (7 < n → Answers (.loadEntryTemplateEmpty tag (.given n)) tag 15 (.refused .badField) .none s t) ∧
       (n ≤ 7 → t.template? n = none →
         Answers (.loadEntryTemplateEmpty tag (.given n)) tag 15 (.refused .noEntry) .none s t) ∧
       (n ≤ 7 → (t.template? n).isSome = true → (∃ o ∈ t.queue.orders, o.template = some n) →
         Answers (.loadEntryTemplateEmpty tag (.given n)) tag 15 (.refused .inUse) .none s t) ∧
       (n ≤ 7 → (t.template? n).isSome = true → (∀ o ∈ t.queue.orders, o.template ≠ some n) →
         ∃ u, Answers (.loadEntryTemplateEmpty tag (.given n)) tag 15 .ok .none s u ∧
           u = t.setLabels { t.labels with templates := u.labels.templates } ∧ u.template? n = none ∧
           ∀ m, m ≠ n → u.template? m = t.template? m))) ∧
  (∀ (tag : Byte) (key : Option Nat) (s t : State), taken (.readEntryTemplate tag (.given key)) s = some t →
     (t.gate.engine = .resetting → Answers (.readEntryTemplate tag (.given key)) tag 16 (.refused .busy) .none s t) ∧
     (t.gate.engine ≠ .resetting →
       (key = none → ∃ l, Answers (.readEntryTemplate tag (.given key)) tag 16 .ok (.keys l) s t ∧
         l.Pairwise (· < ·) ∧ ∀ n, n ∈ l ↔ (t.template? n).isSome = true) ∧
       (∀ n, key = some n → 7 < n →
         Answers (.readEntryTemplate tag (.given key)) tag 16 (.refused .badField) .none s t) ∧
       (∀ n, key = some n → n ≤ 7 → t.template? n = none →
         Answers (.readEntryTemplate tag (.given key)) tag 16 (.refused .noEntry) .none s t) ∧
       (∀ n p, key = some n → n ≤ 7 → t.template? n = some p →
         Answers (.readEntryTemplate tag (.given key)) tag 16 .ok
           (.templateEntry p (t.queue.orders.filter (fun o => o.template == some n)).length) s t)))

/-- LOAD ENTRY and READ ENTRY in their fee form, the fees named 1 to 3, and a selector that names no table (R133, R134,
R199). -/
def Obligations.FeesAndSelectors : Prop :=
  ∀ (tag : Byte) (s t : State), t.gate.engine ≠ .resetting →
    let names (k : Nat) (n : FeeName) : Prop := k = 1 ∧ n = .order ∨ k = 2 ∧ n = .rush ∨ k = 3 ∧ n = .label
    (∀ f, taken (.loadEntryFee tag (.given f)) s = some t →
      (f.fee = 0 ∨ 3 < f.fee → Answers (.loadEntryFee tag (.given f)) tag 15 (.refused .badField) .none s t) ∧
      (∀ n, names f.fee n →
        ∃ u, Answers (.loadEntryFee tag (.given f)) tag 15 .ok (.feeChange (t.charge.fees.get n) (f.value.getD 0)) s u ∧
          u = t.setCharge { t.charge with fees := u.charge.fees } ∧ u.charge.fees.get n = f.value.getD 0 ∧
          ∀ m, m ≠ n → u.charge.fees.get m = t.charge.fees.get m)) ∧
    (∀ key, taken (.readEntryFee tag (.given key)) s = some t →
      (key = none → Answers (.readEntryFee tag (.given key)) tag 16 .ok (.fees t.charge.fees) s t) ∧
      (∀ k, key = some k → k = 0 ∨ 3 < k →
        Answers (.readEntryFee tag (.given key)) tag 16 (.refused .badField) .none s t) ∧
      (∀ k n, key = some k → names k n →
        Answers (.readEntryFee tag (.given key)) tag 16 .ok (.fee (t.charge.fees.get n)) s t)) ∧
    (∀ reading sel, taken (.loadEntryBadSelector tag reading sel) s = some t →
      Answers (.loadEntryBadSelector tag reading sel) tag (if reading then 16 else 15) (.refused .badField) .none s t)

/-! ## The engine (R148 to R155, R160, R163) -/

/-- RUN by engine state: from STOPPED the engine enters RUNNING, a held visit goes on and the resume record is
discarded; RUNNING is answered OK; FAULTED and STOPPING are refused (R148). A visit goes on from its state: in LOADING the
LOAD, and in RETURNING the RETURN, is sent unless it is outstanding or waiting, and without a feeder UNIT-LOST is raised; a
METERING phase in progress runs on, and one not begun or cut is begun, or without a meter raises UNIT-LOST; in EXPOSING a
firing is tested, and then R35 (R29, R30, R39, R41). That a held visit without members goes on by its state in the same way
is the model's reading (assumption 34; R38), and that a LOAD or RETURN waiting in its slot counts as sent too (assumption
35). STEP ON and STEP OFF set the STEP mode in
every engine state but RESETTING, and leave the engine state (R152). -/
def Obligations.RunAndStepMode : Prop :=
  (∀ (tag : Byte) (s t : State), taken (.run tag (.given ())) s = some t →
     (t.gate.engine = .stopped →
       exec (.run tag (.given ())) s = .next (settle (continueVisit
         ((answer tag 1 .ok (.engine .running none) t).setGate { t.gate with
           engine := .running, visit := t.gate.visit.map (fun v => { v with held := false }), resume := none })))) ∧
     (t.gate.engine = .running →
       exec (.run tag (.given ())) s = .next (settle (answer tag 1 .ok (.engine .running none) t))) ∧
     (t.gate.engine = .faulted →
       exec (.run tag (.given ())) s = .next (settle (answer tag 1 (.refused .faulted) .none t))) ∧
     (t.gate.engine = .stopping →
       exec (.run tag (.given ())) s = .next (settle (answer tag 1 (.refused .busy) .none t)))) ∧
  (∀ s : State, s.gate.visit = none → continueVisit s = s) ∧
  (∀ (v : Visit) (s : State), s.gate.visit = some v → v.held = false →
     let sent : Prop := (∃ o, (s.slot .feeder).outstanding = some o ∧ o.issuer = .visit) ∨
       ∃ c ∈ (s.slot .feeder).waiting, c.issuer = .visit
     let lost (u : FaultUnit) : FaultRec :=
       { kind := .unitLost, unit := u, order := none, back := none, position := some v.position, visit := some v.state }
     (v.state = .loading → sent → continueVisit s = s) ∧
     (v.state = .loading → ¬sent → s.present .feeder = true →
       continueVisit s = issue .feeder (.load v.position) .visit s) ∧
     (v.state = .metering → v.metering = true → continueVisit s = s) ∧
     (v.state = .metering → v.metering = false → s.present .meter = true → continueVisit s = issue .meter .scan .visit
       ((s.setGate { s.gate with visit := some { v with metering := true, zones := [], rereads := [] } }).setTimer
         { s.timer with lamp := true })) ∧
     (v.state = .metering → v.metering = false → s.present .meter = false →
       continueVisit s = raiseFault (lost .meter) s) ∧
     (v.state = .exposing → continueVisit s = testReturning (testFiring s)) ∧
     (v.state = .returning → sent → continueVisit s = s) ∧
     (v.state = .returning → ¬sent → s.present .feeder = true → continueVisit s = issue .feeder .ret .visit s) ∧
     (v.state = .loading ∨ v.state = .returning → ¬sent → s.present .feeder = false →
       continueVisit s = raiseFault (lost .feeder) s)) ∧
  (∀ (tag : Byte) (s t : State), t.gate.engine ≠ .resetting →
     (taken (.stepOn tag (.given ())) s = some t →
       Answers (.stepOn tag (.given ())) tag 4 .ok (.step true t.gate.engine) s
         (t.setGate { t.gate with stepMode := true })) ∧
     (taken (.stepOff tag (.given ())) s = some t →
       Answers (.stepOff tag (.given ())) tag 5 .ok (.step false t.gate.engine) s
         (t.setGate { t.gate with stepMode := false })))

/-- STOP HOLD by engine state: a RUNNING engine enters STOPPED with no visit open or with the visit at rest, else
STOPPING with kind HOLD, the visit held with its resume record; in the other states it has no effect (R149). The record
then made has the cause STOP, and for each back its part of the firing that is not complete as the cut firing (R153, R154);
the serials, and that of two such firings a back shows the later, are the model's (assumption 11). That the
reply joins after ENGINE-STOPPED is raised is the model's choice (assumption 8). -/
def Obligations.StopHold : Prop :=
  ∀ (tag : Byte) (s t : State), taken (.stopHold tag (.given ())) s = some t →
    (t.gate.engine = .running → t.gate.visit = none →
      exec (.stopHold tag (.given ())) s =
        .next (settle (answer tag 2 .ok (.engine .stopped none) (enterStopped t)))) ∧
    (t.gate.engine = .running → t.gate.visit.isSome = true →
      let h := holdVisit .stop t
      h.held = true ∧ h.gate.resume.isSome = true ∧
      (let complete (m : Nat) : Bool := t.timer.firing.all (fun f => f.serial != m) &&
         [Back.a, .b].all (fun k => (t.timer.frames.get k).all (fun f => f.serial != m))
       t.gate.resume = none → h.gate.resume = some { cause := .stop, cutFiring := [Back.a, .b].filterMap (fun k =>
         (t.gate.fired.get k).find? (fun x => !complete x.serial)) }) ∧
      (∀ r, t.gate.resume = some r → h.gate.resume = some r) ∧
      (h.atRest = true →
        exec (.stopHold tag (.given ())) s =
          .next (settle (answer tag 2 .ok (.engine .stopped none) (enterStopped h)))) ∧
      (h.atRest = false →
        exec (.stopHold tag (.given ())) s = .next (settle (answer tag 2 .ok (.engine .stopping none)
          (h.setGate { h.gate with engine := .stopping, stopKind := some .hold }))))) ∧
    (t.gate.engine = .stopping → t.gate.stopKind = some .release →
      exec (.stopHold tag (.given ())) s = .next (settle (answer tag 2 .ok (.engine .stopping (some .release)) t))) ∧
    (t.gate.engine = .stopping → t.gate.stopKind = some .hold →
      exec (.stopHold tag (.given ())) s = .next (settle (answer tag 2 .ok (.engine .stopping none) t))) ∧
    (t.gate.engine = .stopped →
      exec (.stopHold tag (.given ())) s = .next (settle (answer tag 2 .ok (.engine .stopped none) t))) ∧
    (t.gate.engine = .faulted →
      exec (.stopHold tag (.given ())) s = .next (settle (answer tag 2 .ok (.engine .faulted none) t)))

/-- STOP RELEASE: with a visit open it requests the release, discards the resume record, and the visit takes its path,
the engine STOPPING with kind RELEASE; with none open the engine is STOPPED; a FAULTED engine is refused (R150). The path:
a LOAD, a metering phase or a RETURN in flight runs on; without one LOADING and METERING go to RETURNING, and RETURNING
sends the RETURN again, or without a feeder raises UNIT-LOST; EXPOSING goes to RETURNING when no firing is in flight and no
advance is owed, whatever the lists hold, and waits otherwise (R40, R41, R150). That a LOAD or RETURN of the visit that
waits in its slot counts as in flight at a release, so that nothing is withdrawn and the visit state stays, is the model's
reading (assumption 35). That the label wait closes at the release is
the model's reading (assumption 10); that the reply joins after the path and what it raises, or after ENGINE-STOPPED, is its
choice (assumption 8). -/
def Obligations.StopRelease : Prop :=
  (∀ s : State, s.gate.visit = none → releasePath s = s) ∧
  (∀ (v : Visit) (s : State), s.gate.visit = some v → v.release = true → s.gate.engine ≠ .resetting →
    let sent : Prop := (∃ o, (s.slot .feeder).outstanding = some o ∧ o.issuer = .visit) ∨
      ∃ c ∈ (s.slot .feeder).waiting, c.issuer = .visit
    let atRest : Prop := s.timer.firing = none ∧ v.owed = ⟨false, false⟩
    (v.state = .loading → sent → releasePath s = s) ∧
    (v.state = .loading → ¬sent → releasePath s = enterReturning s) ∧
    (v.state = .metering → v.metering = true → releasePath s = s) ∧
    (v.state = .metering → v.metering = false → releasePath s = enterReturning s) ∧
    (v.state = .exposing → atRest → releasePath s = enterReturning s) ∧
    (v.state = .exposing → ¬atRest → releasePath s = s) ∧
    (v.state = .returning → sent → releasePath s = s) ∧
    (v.state = .returning → ¬sent → s.present .feeder = true → releasePath s = issue .feeder .ret .visit s) ∧
    (v.state = .returning → ¬sent → s.present .feeder = false →
      releasePath s = raiseFault { kind := .unitLost, unit := .feeder, order := none, back := none,
                                   position := some v.position, visit := some .returning } s)) ∧
  (∀ (tag : Byte) (s t : State), taken (.stopRelease tag (.given ())) s = some t →
    ((t.gate.engine = .running ∨ t.gate.engine = .stopped ∨
        t.gate.engine = .stopping ∧ t.gate.stopKind = some .hold) → t.gate.visit.isSome = true →
      exec (.stopRelease tag (.given ())) s = .next (settle (answer tag 3 .ok (.engine .stopping none)
        (releasePath ((t.setGate { t.gate with
          engine := .stopping, stopKind := some .release, resume := none,
          visit := t.gate.visit.map (fun v => { v with held := false, release := true }) }).setLabels
            { t.labels with labelWait := false }))))) ∧
    (t.gate.engine = .running → t.gate.visit = none →
      exec (.stopRelease tag (.given ())) s =
        .next (settle (answer tag 3 .ok (.engine .stopped none) (enterStopped t)))) ∧
    (t.gate.engine = .stopped → t.gate.visit = none →
      exec (.stopRelease tag (.given ())) s = .next (settle (answer tag 3 .ok (.engine .stopped none) t))) ∧
    (t.gate.engine = .stopping → t.gate.stopKind = some .release →
      exec (.stopRelease tag (.given ())) s = .next (settle (answer tag 3 .ok (.engine .stopping none) t))) ∧
    (t.gate.engine = .faulted →
      exec (.stopRelease tag (.given ())) s = .next (settle (answer tag 3 (.refused .faulted) .none t))))

/-- A class A fault: not recorded in RESETTING; while FAULTED it fills an empty pending slot and raises DEFERRED;
otherwise it is current, the engine FAULTED, FAULT and ENGINE-STOPPED raised, the open visit held without a release and
its resume record's cause FAULT (R153, R156 to R159). A record then made has for each back its part of the firing that is
not complete as the cut firing (R154; assumption 11). That the label wait closes at the hold is the model's reading
(assumption 10). -/
def Obligations.FaultsRaised : Prop :=
  ∀ (f : FaultRec) (s : State),
    let t := raiseFault f s
    (s.gate.engine = .resetting → t = s) ∧
    (s.gate.engine = .faulted →
      t = raise .deferred (s.setEvents { s.events with pendingFault := some (s.events.pendingFault.getD f) })) ∧
    (s.gate.engine ≠ .resetting → s.gate.engine ≠ .faulted →
      t.gate.engine = .faulted ∧ t.gate.stopKind = none ∧ t.gate.stepMode = s.gate.stepMode ∧
      t.gate.cleanup = s.gate.cleanup ∧ t.events.current = some f ∧ t.events.pendingFault = s.events.pendingFault ∧
      hasFlag t.events.flags .fault = true ∧ hasFlag t.events.flags .engineStopped = true ∧
      (∀ g, g ≠ .fault → g ≠ .engineStopped → hasFlag t.events.flags g = hasFlag s.events.flags g) ∧
      t.gate.visit = s.gate.visit.map (fun v => { v with held := true, release := false }) ∧
      (s.gate.visit.isSome = true → t.gate.resume.map (fun r => r.cause) = some .fault) ∧
      (∀ r, s.gate.visit.isSome = true → s.gate.resume = some r →
        t.gate.resume.map (fun x => x.cutFiring) = some r.cutFiring) ∧
      (let complete (m : Nat) : Bool := s.timer.firing.all (fun f => f.serial != m) &&
         [Back.a, .b].all (fun k => (s.timer.frames.get k).all (fun f => f.serial != m))
       s.gate.visit.isSome = true → s.gate.resume = none → t.gate.resume = some { cause := .fault, cutFiring := [Back.a, .b].filterMap (fun k =>
         (s.gate.fired.get k).find? (fun x => !complete x.serial)) }) ∧
      t.queue = s.queue ∧ t.tables = s.tables ∧ t.timer = s.timer ∧ t.rolls = s.rolls ∧ t.charge = s.charge ∧
      t.bus = s.bus ∧ t.settings = s.settings ∧
      t.labels = { s.labels with labelWait := s.labels.labelWait && s.gate.visit.isNone })

/-- CLEAR FAULT: refused unless FAULTED; otherwise the current fault is removed, the visit still open closes exactly when
that fault is a GATE-JAM whose visit state is LOADING or RETURNING, with all four steps of R37, and then the pending fault
is promoted, or the engine enters STOPPED, or STOPPING with kind HOLD (R160, R161). That the
reply joins after the reports of the visit that closes, and after FAULT or ENGINE-STOPPED, is the model's choice
(assumption 8). -/
def Obligations.ClearFault : Prop :=
  ∀ (tag : Byte) (s t : State), taken (.clearFault tag (.given ())) s = some t →
    t.gate.engine ≠ .resetting →
    (t.gate.engine ≠ .faulted →
      exec (.clearFault tag (.given ())) s = .next (settle (answer tag 6 (.refused .notFaulted) .none t))) ∧
    (t.gate.engine = .faulted →
      let cleared := t.setEvents { t.events with current := none, pendingFault := none }
      let jam : Prop := t.gate.visit.isSome = true ∧ ∃ g, t.events.current = some g ∧ g.kind = .gateJam ∧
        (g.visit = some .loading ∨ g.visit = some .returning)
      ∀ closed : State, (jam → closed = closeVisit cleared) → (¬jam → closed = cleared) →
      (∀ p, t.events.pendingFault = some p →
        exec (.clearFault tag (.given ())) s = .next (settle (answer tag 6 .ok (.promoted .faulted p)
          (raise .fault (closed.setEvents { closed.events with current := some p }))))) ∧
      (t.events.pendingFault = none → (closed.gate.visit = none ∨ closed.atRest = true) →
        exec (.clearFault tag (.given ())) s =
          .next (settle (answer tag 6 .ok (.engine .stopped none) (enterStopped closed)))) ∧
      (t.events.pendingFault = none → closed.gate.visit.isSome = true → closed.atRest = false →
        exec (.clearFault tag (.given ())) s = .next (settle (answer tag 6 .ok (.engine .stopping none)
          (closed.setGate { closed.gate with engine := .stopping, stopKind := some .hold })))))

/-- READ RESUME: the record exists exactly while the visit is held, and is answered with the fields of R153 and R154
(R155). The pending command is LOAD in LOADING and RETURN in RETURNING with none of the visit's outstanding or waiting, SCAN
in METERING with no phase in progress, and none otherwise; that one that waits in its slot counts as sent is the model's
reading (assumption 35). Each back's part is the head and the number of the items of its list, whether the list has been
dropped, and whether an advance is owed. -/
def Obligations.ReadResume : Prop :=
  ∀ (tag : Byte) (s t : State), EngineAgrees t → taken (.readResume tag (.given ())) s = some t →
    (t.gate.engine = .resetting → Answers (.readResume tag (.given ())) tag 7 (.refused .busy) .none s t) ∧
    (t.gate.engine ≠ .resetting → t.held = false →
      Answers (.readResume tag (.given ())) tag 7 (.refused .notHeld) .none s t) ∧
    (t.gate.engine ≠ .resetting → t.held = true → ∃ v r pending, t.gate.visit = some v ∧ t.gate.resume = some r ∧
      (let sent : Prop := (∃ o, (t.slot .feeder).outstanding = some o ∧ o.issuer = .visit) ∨
         ∃ c ∈ (t.slot .feeder).waiting, c.issuer = .visit
       (v.state = .loading → ¬sent → pending = .load) ∧ (v.state = .metering → v.metering = false → pending = .scan) ∧
       (v.state = .returning → ¬sent → pending = .ret) ∧
       (v.state = .exposing ∨ v.state = .metering ∧ v.metering = true ∨
         (v.state = .loading ∨ v.state = .returning) ∧ sent → pending = .none)) ∧
      Answers (.readResume tag (.given ())) tag 7 .ok
        (.resume { magazine := v.magazine, position := v.position, state := v.state, cause := r.cause, slide := v.slide,
                   pending := pending,
                   backs := ⟨⟨v.lists.a.head?, v.lists.a.length, v.dropped.a, v.owed.a⟩,
                            ⟨v.lists.b.head?, v.lists.b.length, v.dropped.b, v.owed.b⟩⟩,
                   firingCut := !r.cutFiring.isEmpty, cutFiring := r.cutFiring, engine := t.gate.engine }) s t)

/-- LINK RESET empties the Order Queue, the label queue, the receive buffer and the report queue, discards traps and
pending faults, withdraws what waits of DIRECT frames, and leaves the tables, the settings, the templates, the fees, the
receiver, the frame being sent and the next order number as they were (R20, R128, R131, R163, R176, R184, R191, R195). Its
reply OK with RESETTING is the first of the emptied reply queue, and is begun to be sent when it may be (R193, R195). Every
order not ENDING is settled on its account with its counters as they stand, and takes its reservation off the committed sum
(R20, R131, R137). The lines fall and no firing is in flight; a frame record is made for each back included in the firing
that was, with its ADVANCE 1 issued or outstanding, every frame record is SPOILED LAMP, and the house account is charged the
frame price of the roll's stock once for each that was not charged before (R84, R138, R164 stage 1). -/
def Obligations.LinkReset : Prop :=
  ∀ (tag : Byte) (s t : State), taken (.linkReset tag (.given ())) s = some t → t.gate.engine ≠ .resetting →
    ∃ u, exec (.linkReset tag (.given ())) s = .next u ∧
      u.queue.orders = [] ∧ u.queue.ending = [] ∧ u.queue.wantedStock = [] ∧ u.queue.wantedMagazine = [] ∧
      u.queue.nextNumber = t.queue.nextNumber ∧ u.labels.queue = [] ∧ u.labels.templates = t.labels.templates ∧
      u.link.buffer = [] ∧ u.link.reports = [] ∧ u.link.reserved = 0 ∧ u.link.receiver = t.link.receiver ∧
      (t.link.sending.isSome = true → u.link.sending = t.link.sending) ∧
      u.events.traps = { film := false, shutter := false, busy := false } ∧ u.events.pendingFault = none ∧
      u.gate.stepMode = false ∧ u.gate.resume = none ∧
      (u.gate.engine = .resetting ∨ u.gate.engine = .stopped ∨ u.gate.engine = .faulted) ∧
      u.tables = t.tables ∧ u.settings = t.settings ∧ u.charge.fees = t.charge.fees ∧
      u.timer.lamp = false ∧ u.timer.shutters = ⟨false, false⟩ ∧ u.timer.firing = none ∧ u.timer.count = none ∧
      (∀ k f, u.timer.frames.get k = some f → f.lampSpoiled = true) ∧
      (∀ k f x, t.timer.firing = some f → t.shot? k = some x →
        u.timer.frames.get k = some
          { serial := f.serial, rollId := x.rollId, position := x.position, item := x.item, time := x.time,
            clamp := x.clamp, expected := f.preOpen + x.time,
            allowed := max ((f.preOpen + x.time) * f.tolerance / 100) 5, lampSpoiled := true } ∧
        .firing ∈ (u.slot k.slot).issuers) ∧
      (∀ k, t.shot? k = none →
        u.timer.frames.get k = (t.timer.frames.get k).map (fun f => { f with lampSpoiled := true })) ∧
      (let price (k : Back) : Nat :=
         (((t.roll k).film.map (fun f => f.stock)).bind t.stock?).elim 0 (fun e => e.price)
       let spoiled := [Back.a, .b].filter (fun k =>
         (t.shot? k).isSome || (t.timer.frames.get k).any (fun f => !f.lampSpoiled))
       u.charge.house = if spoiled = [] then t.charge.house else
         { t.charge.house with
           charged := min 16777215 (t.charge.house.charged + (spoiled.map price).sum)
           spoiled := min 65535 (t.charge.house.spoiled + spoiled.length) }) ∧
      (let reply : Reply := { cls := 3#8, tag := tag, command := 8, result := .ok, data := .engine .resetting none }
       (t.link.sending.isSome = true ∨ t.link.deskReady = false →
         u.link.replies = [reply] ∧ u.link.sending = t.link.sending) ∧
       (t.link.sending = none → t.link.deskReady = true →
         u.link.replies = [] ∧ u.link.sending = some (.reply reply))) ∧
      ((t.queue.orders.map (fun o => o.number)).Nodup →
        let amount (o : Order) : Nat := o.prices.orderFee + (if o.rush then o.prices.rushFee else 0) +
          o.goodFrames * o.prices.frame + o.goodLabels * o.prices.labelFee
        u.charge.accounts = t.charge.accounts.map (fun a =>
          let settled := t.queue.orders.filter (fun o => o.state != .ending && o.account == a.number)
          if settled = [] then a
          else { a with charged := a.charged + (settled.map amount).sum,
                        committed := a.committed - (settled.map (fun o => o.held)).sum,
                        goodFrames := min 16777215 (a.goodFrames + (settled.map (fun o => o.goodFrames)).sum),
                        settledOrders := min 65535 (a.settledOrders + settled.length) }))

/-- The cleanup of LINK RESET, past the fall of the lines. It waits while a meter command of the phase that fell is
outstanding, whose completion, timeout and loss each leave none, and does not wait for the meter's other commands. It waits
while an advance of the 740's own or the READ COUNT of a
RESYNC ROLL is outstanding or waiting, and with none left on either back goes on to the slide, a waiting LOAD of the visit
being withdrawn; it waits while a LOAD or RETURN of the visit is outstanding or waiting; a slide in the gate is then returned, and
a failure of it is kept; at last the visit closes, and the engine enters STOPPED, or FAULTED with the failure as current
fault (R164 to R166). In the cleanup the feeder's completions and timeout only say where the slide is (R165); that the
first failure known is the one kept is the model's reading, assumption 19; that FAULT is raised before ENGINE-STOPPED at a
failed return is its choice, assumption 53. -/
def Obligations.CleanupOfLinkReset : Prop :=
  (∀ (c : Cleanup) (s : State), s.gate.engine = .resetting → s.gate.cleanup = some c →
    (c.stage = .film → (∃ k : Back, ∃ i ∈ (s.slot k.slot).issuers, i = .firing ∨ i = .leader ∨ i = .blanking ∨ ∃ tag, i = .resync tag) →
      runCleanup s = s) ∧
    (c.stage = .lines → .cutPhase ∈ (s.slot .meter).issuers → runCleanup s = s) ∧
    (c.stage = .lines → .cutPhase ∉ (s.slot .meter).issuers →
      runCleanup s = runCleanup (s.setGate { s.gate with cleanup := some { c with stage := .film } })) ∧
    (c.stage = .film → (∀ k : Back, ∀ i ∈ (s.slot k.slot).issuers,
        i ≠ .firing ∧ i ≠ .leader ∧ i ≠ .blanking ∧ ∀ tag, i ≠ .resync tag) →
      runCleanup s = runCleanup ((s.setSlot .feeder { s.slot .feeder with
        waiting := (s.slot .feeder).waiting.filter (fun w => !(w.issuer == .visit && w.cmd.name == .load)) }).setGate
        { s.gate with cleanup := some { c with stage := .slide } })) ∧
    (c.stage = .slide → s.visitCommand .feeder = true → runCleanup s = s) ∧
    (∀ v, c.stage = .slide → s.visitCommand .feeder = false → c.failure = none → s.gate.visit = some v → v.slide = true →
      (s.present .feeder = true → runCleanup s =
        issue .feeder .ret .visit (s.setGate { s.gate with visit := some { v with state := .returning } })) ∧
      (s.present .feeder = false → (runCleanup s).gate.engine = .faulted ∧ (runCleanup s).gate.visit = none ∧
        (runCleanup s).events.current = some { kind := .unitLost, unit := .feeder, order := none, back := none,
                                               position := some v.position, visit := some .returning })) ∧
    (c.stage = .slide → s.visitCommand .feeder = false → (c.failure.isSome = true ∨ ∀ v, s.gate.visit = some v → v.slide = false) →
      let t := runCleanup s
      t.gate.visit = none ∧ t.gate.cleanup = none ∧ hasFlag t.events.flags .engineStopped = true ∧
      (c.failure = none → t.gate.engine = .stopped ∧ t.events.current = s.events.current) ∧
      (∀ f, c.failure = some f → t.gate.engine = .faulted ∧ t.events.current = some f ∧
        hasFlag t.events.flags .fault = true ∧ t = raise .engineStopped (raise .fault
          (((closeVisit s).setEvents { (closeVisit s).events with current := some f }).setGate
            { (closeVisit s).gate with engine := .faulted, stopKind := none, cleanup := none }))))) ∧
  (∀ (x : Nat) (o : Outstanding) (c : Cleanup) (v : Visit) (s : State), s.gate.engine = .resetting →
    s.gate.cleanup = some c → s.gate.visit = some v → (s.slot .feeder).outstanding = some o → o.exchange = x →
    o.issuer = .visit →
    let t := s.setSlot .feeder { s.slot .feeder with outstanding := none }
    let kept (kind : FaultKind) : Cleanup := { c with failure := some (c.failure.getD
      { kind := kind, unit := .feeder, order := none, back := none, position := some v.position, visit := some v.state }) }
    (o.cmd.name = .load →
      exec (.loadCompletion x .ok) s = .next (settle (sendNext .feeder
        (t.setGate { s.gate with visit := some { v with slide := true } }))) ∧
      exec (.loadCompletion x .empty) s = .next (settle (sendNext .feeder t)) ∧
      exec (.loadCompletion x .jam) s = .next (settle (sendNext .feeder
        (t.setGate { s.gate with cleanup := some (kept .gateJam) })))) ∧
    (o.cmd.name = .ret →
      exec (.returnCompletion x .ok) s = .next (settle (sendNext .feeder
        (t.setGate { s.gate with visit := some { v with slide := false } }))) ∧
      exec (.returnCompletion x .jam) s = .next (settle (sendNext .feeder
        (t.setGate { s.gate with cleanup := some (kept .gateJam) })))) ∧
    (commandTimeout .feeder o s).gate.cleanup = some (kept .unitTimeout) ∧
    (commandTimeout .feeder o s).events.current = s.events.current) ∧
  (∀ (o : Outstanding) (s : State), (s.slot .meter).outstanding = some o → o.issuer = .cutPhase →
    (∀ w ∈ (s.slot .meter).waiting, w.issuer ≠ .cutPhase) →
    let t := s.setSlot .meter { s.slot .meter with outstanding := none }
    (∀ r, o.cmd = .scan → r.fits = true → exec (.scanCompletion o.exchange r) s = .next (settle (sendNext .meter t))) ∧
    (∀ z r, o.cmd = .spot z → r.fits = true → exec (.spotCompletion o.exchange r) s = .next (settle (sendNext .meter t))) ∧
    exec (.unitCommandTimeout .meter) s = .next (settle (commandTimeout .meter o s)) ∧
    .cutPhase ∉ ((sendNext .meter t).slot .meter).issuers ∧
    .cutPhase ∉ ((commandTimeout .meter o s).slot .meter).issuers ∧
    ∀ x, .cutPhase ∉ ((slotLost .meter x s).slot .meter).issuers)

/-! ## Orders (R3 to R6, R17, R19, R135 to R137) -/

/-- An ORDER frame that passes every check of R4 is admitted: its record joins the tail with its number, the desk's fields
as R1 and R6 hold them and its snapshots, its reservation joins its account's committed sum, and it is answered ACCEPTED
with the fields a clamp changed; no other record and no other account changes (R1, R4 to R6, R135, R136). Check 1 is a
magazine of 1 to 250, a position of 1 to 120, 1 to 9 copies, a pattern to 15, a template to 7, one of the four modes, a
fixed density with FIXED, and no stray flag (R1, R201). -/
def Obligations.OrderAdmitted : Prop :=
  ∀ (tag : Byte) (f : OrderFields) (s t : State) (a : Account) (e : StockEntry) (p : Pattern),
    taken (.orderFrame tag f) s = some t →
    1 ≤ f.magazine → f.magazine ≤ 250 → 1 ≤ f.position → f.position ≤ 120 → 1 ≤ f.copies → f.copies ≤ 9 →
    f.pattern ≤ 15 → (∀ n, f.template = some n → n ≤ 7) → f.mode ≤ 3 → (f.mode = 3 → f.fixedDensity.isSome = true) →
    f.strayFlags = 0 → f.account ≠ 0 → t.charge.account? f.account = some a → a.isOpen = true →
    t.stock? f.stock = some e → t.pattern? f.pattern = some p → (∀ n, f.template = some n → (t.template? n).isSome = true) →
    t.queue.orders.length < 32 →
    let m : MeterMode := if f.mode = 0 then .average else if f.mode = 1 then .centre else if f.mode = 2 then .spot else .fixed
    let amount := t.charge.fees.order + (if f.rush then t.charge.fees.rush else 0) + f.copies * p.steps * e.price +
      (if f.template.isSome then f.copies * p.steps * t.charge.fees.label else 0)
    let heldText (max : Nat) (x : Text) : Option Text :=
      if x = [] then none else some ((x.take max).map (fun c => if 32 ≤ c ∧ c ≤ 126 then c else 32))
    a.committed + a.charged + amount ≤ a.ceiling → t.gate.engine ≠ .resetting →
    ∃ o u clamps, exec (.orderFrame tag f) s = .next (settle u) ∧
      u.queue = { t.queue with orders := t.queue.orders ++ [o], nextNumber := nextNumber t.queue.freeNumber } ∧
      o.number = t.queue.freeNumber ∧ o.tag = tag ∧ o.account = f.account ∧ o.state = .queued ∧ o.pattern = p ∧
      o.magazine = f.magazine ∧ o.position = f.position ∧ o.stock = f.stock ∧ o.copies = f.copies ∧
      o.patternEntry = f.pattern ∧ o.mode = m ∧ o.rush = f.rush ∧ o.template = f.template ∧
      o.fixedDensity = (if f.mode = 3 then f.fixedDensity.map (fun d => min d 400) else none) ∧
      o.correction = max (-20) (min 20 f.correction) ∧ o.catalog = heldText 16 f.catalog ∧
      o.title = heldText 40 f.title ∧ o.course = heldText 12 f.course ∧
      o.cancelRequested = false ∧ o.goodFrames = 0 ∧ o.reshoots = 0 ∧ o.density = none ∧ o.spans = [] ∧
      o.prices = { frame := e.price, orderFee := t.charge.fees.order, rushFee := t.charge.fees.rush,
                   labelFee := t.charge.fees.label } ∧
      o.reserved = amount ∧ o.held = amount ∧ o.next = some (1, 1) ∧ o.redo = [] ∧
      u.charge = { t.charge with accounts := t.charge.accounts.map (fun x =>
        if x.number = f.account then { x with committed := x.committed + amount } else x) } ∧
      u.link = (replied
        { cls := 1#8, tag := tag, command := 0, result := .accepted,
          data := .accepted o.number amount (a.ceiling - a.committed - a.charged - amount) clamps } t).link ∧
      (clamps.fixedDensity = true ↔ ∃ d, f.mode = 3 ∧ f.fixedDensity = some d ∧ 400 < d) ∧
      (clamps.correction = true ↔ o.correction ≠ f.correction) ∧
      (clamps.catalog = true ↔ o.catalog.getD [] ≠ f.catalog) ∧ (clamps.title = true ↔ o.title.getD [] ≠ f.title) ∧
      (clamps.course = true ↔ o.course.getD [] ≠ f.course) ∧
      u = ((t.setQueue u.queue).setCharge u.charge).setLink u.link

/-- An ORDER frame that fails a check of R4 is refused with the reason of the first it fails and changes nothing but the
reply queue; OVER-CEILING carries the reservation and the headroom (R4, R135, R136). BAD-FIELD is for a magazine outside 1
to 250, a position outside 1 to 120, copies outside 1 to 9, a pattern above 15, a template above 7, a mode byte of none of
the four, FIXED without a fixed density, and a stray flag (R1, R201). -/
def Obligations.OrderRefused : Prop :=
  ∀ (tag : Byte) (f : OrderFields) (s t : State), taken (.orderFrame tag f) s = some t →
    let refusedWith (r : Reason) (d : ReplyData) : Prop :=
      exec (.orderFrame tag f) s =
        .next (replied { cls := 1#8, tag := tag, command := 0, result := .refused r, data := d } t)
    let good : Prop := 1 ≤ f.magazine ∧ f.magazine ≤ 250 ∧ 1 ≤ f.position ∧ f.position ≤ 120 ∧ 1 ≤ f.copies ∧
      f.copies ≤ 9 ∧ f.pattern ≤ 15 ∧ (∀ n, f.template = some n → n ≤ 7) ∧ f.mode ≤ 3 ∧
      (f.mode = 3 → f.fixedDensity.isSome = true) ∧ f.strayFlags = 0
    (¬good → refusedWith .badField .none) ∧
    (good → f.account = 0 → refusedWith .houseRefused .none) ∧
    (good → f.account ≠ 0 → t.charge.account? f.account = none → refusedWith .noAccount .none) ∧
    (∀ a, good → f.account ≠ 0 → t.charge.account? f.account = some a →
      (a.isOpen = false → refusedWith .suspended .none) ∧
      (a.isOpen = true → t.stock? f.stock = none → refusedWith .noStock .none) ∧
      (∀ e, a.isOpen = true → t.stock? f.stock = some e →
        (t.pattern? f.pattern = none → refusedWith .noPattern .none) ∧
        (∀ p, t.pattern? f.pattern = some p →
          (∀ n, f.template = some n → t.template? n = none → refusedWith .noTemplate .none) ∧
          ((∀ n, f.template = some n → (t.template? n).isSome = true) →
            (32 ≤ t.queue.orders.length → refusedWith .queueFull .none) ∧
            let amount := t.charge.fees.order + (if f.rush then t.charge.fees.rush else 0) +
              f.copies * p.steps * e.price + (if f.template.isSome then f.copies * p.steps * t.charge.fees.label else 0)
            (t.queue.orders.length < 32 → a.ceiling < a.committed + a.charged + amount →
              refusedWith .overCeiling (.overCeiling amount (a.ceiling - a.committed - a.charged))) ∧
            (t.queue.orders.length < 32 → a.committed + a.charged + amount ≤ a.ceiling →
              t.gate.engine = .resetting → refusedWith .busy .none)))))

/-- CANCEL ORDER: a number not in the queue and an ENDING order are refused; a QUEUED order ends CANCELLED at once,
and its report enters the report queue with a slot free; an ACTIVE order is marked cancel-requested, its items leave both
work lists while its redo list stays as it is, and it ends CANCELLED at once when no back in the firing and no frame record
carries an item of it; the reply names the state it then has, ENDING when it has left the queue (R17, R18, R34, R38,
R192). That the reply joins
after the report is the model's choice (assumption 8). -/
def Obligations.CancelOrder : Prop :=
  ∀ (tag : Byte) (n : Nat) (s t : State), taken (.cancelOrder tag (.given n)) s = some t →
    t.gate.engine ≠ .resetting →
    (t.order? n = none →
      exec (.cancelOrder tag (.given n)) s = .next (settle (answer tag 21 (.refused .noOrder) .none t))) ∧
    (∀ o, t.order? n = some o →
      (o.state = .ending →
        exec (.cancelOrder tag (.given n)) s = .next (settle (answer tag 21 (.refused .ending) .none t))) ∧
      (o.state = .queued →
        exec (.cancelOrder tag (.given n)) s =
          .next (settle (answer tag 21 .ok (.cancelled .ending false) (drainReports (endOrder .cancelled n t))))) ∧
      (o.state = .active → o.cancelRequested = true →
        exec (.cancelOrder tag (.given n)) s =
          .next (settle (answer tag 21 .ok (.cancelled .active true) t))) ∧
      (o.state = .active → o.cancelRequested = false →
        let flying (m : Nat) : Prop := ∃ k, (∃ x, t.shot? k = some x ∧ x.item.order = m) ∨
          ∃ f, t.timer.frames.get k = some f ∧ f.item.order = m
        let marked := (t.setQueue { t.queue with orders := t.queue.orders.map (fun p =>
          if p.number = n then { p with cancelRequested := true } else p) }).setGate { t.gate with
            visit := t.gate.visit.map (fun v => { v with
              lists := ⟨v.lists.a.filter (fun w => w.order != n), v.lists.b.filter (fun w => w.order != n)⟩ }) }
        ∃ (ends : List Nat) (u : State), u = drainReports (ends.foldl (fun w m => endOrder .cancelled m w) marked) ∧
          (∀ m, m ∈ ends ↔ ¬flying m ∧
            ∃ p ∈ marked.queue.orders, p.number = m ∧ p.state = .active ∧ p.cancelRequested = true) ∧
          (n ∈ ends ↔ ¬flying n) ∧
          exec (.cancelOrder tag (.given n)) s = .next (settle (testReturning (answer tag 21 .ok
            (.cancelled (((u.order? n).map (fun p => p.state)).getD .ending) true) u)))))

/-- An order enters ENDING with an end kind: it is settled at its fees, its good frames and its good labels by its price
snapshot, its account is charged that and its committed sum falls by the reservation held, its items and its membership
leave the open visit, and its report, made of it as it ends, joins the tail of the ending list; no other order and no other
account changes. A class B fault ends its order FAULTED with its kind, the report enters the report queue with a slot free,
and then ORDER-FAULT is raised, for each order in turn; for an order ENDING or gone it is not raised (R162, R192). An order that is ENDING, or not in the queue, is left as it is
(R8, R9, R34, R137). An order settles for no more than its reservation: with good frames within its planned exposures, and
good labels within its good frames when it names a template and none otherwise (R135, R137). -/
def Obligations.EndingAndSettlementOfAnOrder : Prop :=
  (∀ (kind : EndKind) (n : Nat) (o : Order) (s : State), s.order? n = some o →
    let t := endOrder kind n s
    let amount := o.prices.orderFee + (if o.rush then o.prices.rushFee else 0) + o.goodFrames * o.prices.frame +
      o.goodLabels * o.prices.labelFee
    (o.state = .ending → t = s) ∧
    (o.state ≠ .ending →
      t.order? n = some { o with
        state := .ending, endKind := some kind, waiting := .none, held := 0, settled := some amount } ∧
      (∀ m, m ≠ n → t.order? m = s.order? m) ∧
      t.charge = { s.charge with accounts := s.charge.accounts.map (fun a => if a.number = o.account then
        { a with charged := a.charged + amount, committed := a.committed - o.held,
                 goodFrames := min 16777215 (a.goodFrames + o.goodFrames),
                 settledOrders := min 65535 (a.settledOrders + 1) } else a) } ∧
      t.queue.ending = s.queue.ending ++ [{ number := n, stamp := s.link.clock, report :=
        { number := n, tag := o.tag, endKind := kind, account := o.account, reserved := o.reserved, settled := amount,
          goodFrames := o.goodFrames, spoils := o.timingSpoils + o.lampSpoils, goodLabels := o.goodLabels,
          density := o.density, spans := o.spans, more := o.more } }] ∧
      t.gate.visit = s.gate.visit.map (fun v => { v with
        members := v.members.filter (fun m => m.order != n),
        lists := ⟨v.lists.a.filter (fun w => w.order != n), v.lists.b.filter (fun w => w.order != n)⟩ }) ∧
      t.events = s.events ∧ t.timer = s.timer ∧ t.rolls = s.rolls ∧ t.labels = s.labels ∧ t.bus = s.bus)) ∧
  (∀ (kind : EndKind) (n : Nat) (s : State), s.order? n = none → endOrder kind n s = s) ∧
  (∀ (kind : ClassB) (n : Nat) (rest : List Nat) (s : State),
    (∀ o, s.order? n = some o → o.state ≠ .ending →
      failOrder kind n s = raise .orderFault (drainReports (endOrder (.faulted kind) n s))) ∧
    (∀ o, s.order? n = some o → o.state = .ending → failOrder kind n s = s) ∧
    (s.order? n = none → failOrder kind n s = s) ∧
    failOrders kind [] s = s ∧ failOrders kind (n :: rest) s = failOrders kind rest (failOrder kind n s)) ∧
  (∀ o : Order, o.goodFrames ≤ o.copies * o.pattern.steps → o.goodLabels ≤ o.goodFrames →
    (o.template = none → o.goodLabels = 0) →
    settledAmount o ≤ reservation o.prices o.rush o.template.isSome o.copies o.pattern.steps)

/-- The number an order takes is one of 1 to 65535 that no record in the queue carries: the first free one from the next
number on, passing from 65535 to 1, and the number after it is one more, or 1 after 65535 (R3). The work items an order
brings to a visit are its redo list, in order and as REDO, and then what is left of its plan in shooting order: counting the
planned exposures from 0, copy by copy and step by step, those from copy c and step p of the next set to the last one, as
SET-START at step 1 and IN-SET elsewhere; that is (copies - c) sets and the rest of one, none twice. With the next set past
end they are the redo list alone (R10, R11, R27). -/
def Obligations.OrderNumbersAndWorkItems : Prop :=
  (∀ q : Queue, q.orders.length ≤ 32 → 1 ≤ q.nextNumber → q.nextNumber ≤ 65535 →
    let fromNext (i : Nat) : Nat := (q.nextNumber - 1 + i) % 65535 + 1
    1 ≤ q.freeNumber ∧ q.freeNumber ≤ 65535 ∧ (∀ o ∈ q.orders, o.number ≠ q.freeNumber) ∧
    ((∀ o ∈ q.orders, o.number ≠ q.nextNumber) → q.freeNumber = q.nextNumber) ∧
    ∃ i, i ≤ 32 ∧ q.freeNumber = fromNext i ∧ ∀ j, j < i → ∃ o ∈ q.orders, o.number = fromNext j) ∧
  (∀ n : Nat, n < 65535 → nextNumber n = n + 1) ∧ nextNumber 65535 = 1 ∧
  (∀ (o : Order) (c p : Nat), 1 ≤ c → c ≤ o.copies → 1 ≤ p → p ≤ o.pattern.steps → o.next = some (c, p) →
    let items := o.workItems
    items.length = o.redo.length + (o.copies - c) * o.pattern.steps + (o.pattern.steps + 1 - p) ∧
    items[o.redo.length]? = some { order := o.number, copy := c, step := p, kind := if p = 1 then .setStart else .inSet } ∧
    (∀ i, i < o.redo.length →
      items[i]? = o.redo[i]?.map (fun x => { order := o.number, copy := x.1, step := x.2, kind := .redo })) ∧
    (∀ j,
      let n := (c - 1) * o.pattern.steps + (p - 1) + j
      items[o.redo.length + j]? = if n < o.copies * o.pattern.steps then
        some { order := o.number, copy := n / o.pattern.steps + 1, step := n % o.pattern.steps + 1,
               kind := if n % o.pattern.steps = 0 then .setStart else .inSet }
        else none) ∧
    (plannedFrom o.pattern.steps o.copies o.next).Nodup) ∧
  (∀ o : Order, o.next = none →
    o.workItems = o.redo.map (fun x => { order := o.number, copy := x.1, step := x.2, kind := .redo }))

/-- A step that can change the stand ends with the cleanup's next stage, the waiting reasons and wanted sets, the end of a
stop, and the choice of a visit; their order, and that STOCK-WANTED comes before MAGAZINE-WANTED, are the model's choice
(assumption 8); the close of a visit brings the wanted sets up to date itself (R37). A QUEUED order waits for its magazine, else for a READY roll of its stock; no other order waits (R14). The
wanted stocks are the codes that QUEUED orders name and no roll in READY or LEADER carries, the wanted magazines the numbers
they name that the feeder does not hold, each once, and each that enters its set raises the set's flag (R15, R16). A stop
ends, and ENGINE-STOPPED is raised, when no visit is open, and one of kind HOLD when the visit is at rest too: no command of
its on the feeder or the meter, no firing in flight and no advance owed (R21, R147, R151).

The choice of a visit (R22 to R28). With the engine in another state than RUNNING, a visit open, or no order eligible,
nothing changes. The winner is the first eligible rush order, else the earliest admitted of the eligible; with merge ON
every eligible order of its slide joins it, rush orders first. Each member goes to the back whose READY roll carries its
stock, of two to the one with more free positions, on equal counts to A, and its items to that back's list; the members
become ACTIVE, and the feeder is sent LOAD with the position. -/
def Obligations.EndOfAStepAndOpeningOfAVisit : Prop :=
  (∀ s : State,
    let t := refreshWanted s
    let ready (k : Back) (stock : Nat) : Bool := (s.roll k).state == .ready && (s.roll k).stock? == some stock
    let reason (o : Order) : Waiting :=
      if o.state ≠ .queued then .none
      else if s.bus.feeder.magazine ≠ some o.magazine then .magazine
      else if ready .a o.stock || ready .b o.stock then .none
      else .stock
    let stocks := t.queue.wantedStock.filter (fun c => c ∉ s.queue.wantedStock)
    let magazines := t.queue.wantedMagazine.filter (fun m => m ∉ s.queue.wantedMagazine)
    let flags := stocks.map (fun _ => EventFlag.stockWanted) ++ magazines.map (fun _ => EventFlag.magazineWanted)
    settle s = choose (stopEnds (refreshWanted (runCleanup s))) ∧
    t.queue = { s.queue with
      orders := s.queue.orders.map (fun o => { o with waiting := reason o })
      wantedStock := t.queue.wantedStock
      wantedMagazine := t.queue.wantedMagazine } ∧
    t.queue.wantedStock.Nodup ∧ t.queue.wantedMagazine.Nodup ∧
    (∀ c, c ∈ t.queue.wantedStock ↔ (∃ o ∈ s.queue.orders, o.state = .queued ∧ o.stock = c) ∧
      ∀ k, ¬(((s.roll k).state = .ready ∨ (s.roll k).state = .leader) ∧ (s.roll k).stock? = some c)) ∧
    (∀ m, m ∈ t.queue.wantedMagazine ↔ (∃ o ∈ s.queue.orders, o.state = .queued ∧ o.magazine = m) ∧
      s.bus.feeder.magazine ≠ some m) ∧
    t = flags.foldl (fun u f => raise f u) (s.setQueue t.queue)) ∧
  (∀ s : State,
    let atRest : Prop := s.timer.firing = none ∧ (∀ v, s.gate.visit = some v → v.owed = ⟨false, false⟩) ∧
      ∀ u, (u = .feeder ∨ u = .meter) → (∀ o, (s.slot u).outstanding = some o → o.issuer ≠ .visit) ∧
        ∀ c ∈ (s.slot u).waiting, c.issuer ≠ .visit
    let done : Prop := s.gate.engine = .stopping ∧ (s.gate.visit = none ∨ s.gate.stopKind = some .hold ∧ atRest)
    (done → stopEnds s = raise .engineStopped (s.setGate { s.gate with engine := .stopped, stopKind := none })) ∧
    (¬done → stopEnds s = s)) ∧
  (∀ s : State, ((s.gate.engine ≠ .running ∨ s.gate.visit.isSome = true ∨ ∀ o ∈ s.queue.orders, eligible s o = false) →
    choose s = s)) ∧
  (∀ (o : Order) (s : State), (eligible s o = true ↔ o.state = .queued ∧ o.cancelRequested = false ∧
    s.bus.feeder.magazine = some o.magazine ∧ ∃ k, (s.roll k).state = .ready ∧ (s.roll k).stock? = some o.stock)) ∧
  (∀ (w : Order) (before after : List Order) (s : State), s.gate.engine = .running → s.gate.visit = none →
    s.queue.orders = before ++ w :: after → eligible s w = true → s.present .feeder = true →
    (∀ o ∈ before, eligible s o = true → o.rush = false ∧ w.rush = true) →
    (w.rush = false → ∀ o ∈ after, eligible s o = true → o.rush = false) →
    let joins := if s.settings.merge then
        s.queue.orders.filter (fun o => eligible s o && o.magazine == w.magazine && o.position == w.position)
      else [w]
    let members := joins.filter (fun o => o.rush) ++ joins.filter (fun o => !o.rush)
    let ready (k : Back) (o : Order) : Bool := (s.roll k).state == .ready && (s.roll k).stock? == some o.stock
    let backFor (o : Order) : Back :=
      if ready .a o && ready .b o then
        if (s.roll .a).frames + 1 - (s.roll .a).counter < (s.roll .b).frames + 1 - (s.roll .b).counter then .b else .a
      else if ready .a o then .a else .b
    let opened : Visit :=
      { magazine := w.magazine, position := w.position, state := .loading, held := false, release := false,
        slide := false, members := members.map (fun o => ⟨o.number, backFor o⟩),
        lists := ⟨(members.filter (fun o => backFor o == .a)).flatMap Order.workItems,
                  (members.filter (fun o => backFor o == .b)).flatMap Order.workItems⟩,
        dropped := ⟨false, false⟩, owed := ⟨false, false⟩, metering := false, rereads := [], zones := [] }
    let taken (o : Order) : Order :=
      if o.number ∈ members.map (fun m => m.number) then { o with state := .active, waiting := .none } else o
    choose s = issue .feeder (.load w.position) .visit
      ((s.setGate { s.gate with visit := some opened }).setQueue { s.queue with orders := s.queue.orders.map taken }))

/-- The start of a firing (R30 to R32, R69, R97). In EXPOSING a firing starts exactly when the engine is RUNNING, the visit
neither held nor released, no firing in flight, under STEP no advance of the last firing outstanding, some back ready and
the label check passed;
with the label check alone failed LABEL-HOLD is raised once. A ready back whose SET-START item does not fit its roll is
blanked and left out; with no back left R35 is tested. A firing of one back or of both takes the head items of their lists,
each item's order moves on, and the label policy in force is noted for each back included (R10, R11, R31, R122). The time of
each item is `itemTime`, whose value ExposureArithmetic states (R56). Each back's part of the firing, its outcome PENDING,
is remembered before its parts of the firings that are not complete (R154; the memory and its serials are the model's,
assumption 11). That the
label wait closes when another condition fails is the model's reading (assumption 10). -/
def Obligations.StartOfAFiring : Prop :=
  (∀ (v : Visit) (s : State), s.gate.visit = some v → v.state = .exposing → s.gate.engine ≠ .resetting →
    let ready (k : Back) : Bool := !(v.lists.get k).isEmpty && (s.roll k).state == .ready && !v.owed.get k
    let starts : Prop := s.gate.engine = .running ∧ v.held = false ∧ v.release = false ∧ s.timer.firing = none ∧
      (s.gate.stepMode = true → ∀ k f, s.timer.frames.get k = some f → f.serial ≠ s.timer.serial) ∧
      ∃ k, ready k = true
    let labelsPass : Prop := s.settings.labelPolicy = .skip ∨ 6 ≤ 64 - s.labels.queue.length
    let unfit (k : Back) : Bool := ready k && (v.lists.get k).head?.any (fun w => w.kind == .setStart &&
      (s.order? w.order).any (fun o => decide ((s.roll k).frames + 1 - (s.roll k).counter < o.pattern.steps)))
    let item (k : Back) : Option WorkItem := if ready k && !unfit k then (v.lists.get k).head? else none
    (¬starts → testFiring s = s.setLabels { s.labels with labelWait := false }) ∧
    (starts → ¬labelsPass → s.labels.labelWait = true → testFiring s = s) ∧
    (starts → ¬labelsPass → s.labels.labelWait = false →
      testFiring s = raise .labelHold (s.setLabels { s.labels with labelWait := true })) ∧
    (starts → labelsPass →
      let a := if unfit .a then blankRoll .a s else s
      let b := if unfit .b then blankRoll .b a else a
      (item .a = none → item .b = none →
        testFiring s = testReturning (b.setLabels { b.labels with labelWait := false })) ∧
      ((item .a).isSome = true ∨ (item .b).isSome = true → testFiring s = armFiring (item .a) (item .b) b))) ∧
  (∀ (x : PerBack (Option WorkItem)) (v : Visit) (s : State), s.gate.visit = some v →
    let t := armFiring x.a x.b s
    ∃ f, t.timer = { s.timer with firing := some f, count := some 0, serial := s.timer.serial + 1,
                                  shutters := ⟨x.a.isSome, x.b.isSome⟩ } ∧
      f.phase = .opening ∧ f.preOpen = s.settings.preOpen ∧ f.deadline = s.settings.preOpen + s.settings.lampRise ∧
      f.tolerance = s.settings.tolerance ∧
      f.lampFall = s.settings.preOpen + max ((f.shots.a.map (fun y => y.time)).getD 0) ((f.shots.b.map (fun y => y.time)).getD 0) ∧
      (∀ k, x.get k = none → f.shots.get k = none) ∧
      (∀ k w, x.get k = some w → ∃ y, f.shots.get k = some y ∧ y.item = w ∧ y.rollId = (s.roll k).id ∧
        y.position = (s.roll k).counter ∧ y.shutter = .open_ ∧
        ∀ o, s.order? w.order = some o → (y.time, y.clamp) = itemTime s k o w.step) ∧
      (∀ u, t.gate.visit = some u → ∀ k, u.lists.get k = if (x.get k).isSome then (v.lists.get k).tail else v.lists.get k) ∧
      (let moved (k : Back) (o : Order) : Order := (x.get k).elim o (fun w => if w.order = o.number then o.fired w else o)
       t.queue = { s.queue with orders := s.queue.orders.map (fun o => moved .b (moved .a o)) }) ∧
      (let noted (k : Back) : Option LabelPolicy :=
         if (x.get k).isSome then some s.settings.labelPolicy else s.labels.noted.get k
       t.labels = { s.labels with labelWait := false, noted := ⟨noted .a, noted .b⟩ }) ∧
      (let complete (m : Nat) : Bool := s.timer.firing.all (fun g => g.serial != m) &&
         [Back.a, .b].all (fun k => (s.timer.frames.get k).all (fun g => g.serial != m))
       ∀ k, t.gate.fired.get k = (x.get k).toList.map (fun w =>
           { serial := s.timer.serial + 1, back := k, item := w, rollId := (s.roll k).id, position := (s.roll k).counter,
             outcome := .pending }) ++
         (s.gate.fired.get k).filter (fun c => !complete c.serial)) ∧
      t.bus = s.bus ∧ t.rolls = s.rolls) ∧
  (∀ (w : WorkItem) (o : Order) (c p : Nat),
    (w.kind = .redo → o.fired w = { o with redo := o.redo.filter (fun i => i != (w.copy, w.step)) }) ∧
    (w.kind ≠ .redo → o.next = some (c, p) → w.copy = c → w.step = p →
      o.fired w = { o with next := (if p < o.pattern.steps then some (c, p + 1)
                                    else if c < o.copies then some (c + 1, 1) else none) })) ∧
  (∀ (k : Back) (film : Film) (s : State), (s.roll k).film = some film →
    let n := film.frames + 1 - (s.roll k).counter
    let price := ((s.stock? film.stock).map (fun e => e.price)).getD 0
    let t := blankRoll k s
    (t.roll k).state = .closing ∧ (t.roll k).closeCause = some .blanked ∧ (t.roll k).counter = film.frames + 1 ∧
    (∀ p e, (s.roll k).entry? p = some e → (t.roll k).entry? p =
      some (if (s.roll k).counter ≤ p ∧ p ≤ film.frames then { MapEntry.fresh with state := .blank } else e)) ∧
    t.roll k.other = s.roll k.other ∧
    t.charge = { s.charge with house := { s.charge.house with
      charged := min 16777215 (s.charge.house.charged + n * price), blank := min 65535 (s.charge.house.blank + n) } } ∧
    t.bus = (issue k.slot (.advance .frame n) .blanking s).bus ∧
    ∀ v, t.gate.visit = some v → v.lists.get k = [] ∧ v.dropped.get k = true ∧ v.owed.get k = false)

/-! ## Accounts (R140 to R146) -/

/-- OPEN ACCOUNT (R140). READ ACCOUNT (R141). -/
def Obligations.OpenAndReadAccounts : Prop :=
  (∀ (tag : Byte) (f : AccountSum) (s t : State), taken (.openAccount tag (.given f)) s = some t →
     let c : Instr := .openAccount tag (.given f)
     (t.gate.engine = .resetting → Answers c tag 24 (.refused .busy) (.accountNumber f.number) s t) ∧
     (t.gate.engine ≠ .resetting →
       (f.number = 0 → Answers c tag 24 (.refused .houseRefused) (.accountNumber 0) s t) ∧
       (f.number ≠ 0 → (t.charge.account? f.number).isSome = true →
         Answers c tag 24 (.refused .exists_) (.accountNumber f.number) s t) ∧
       (f.number ≠ 0 → t.charge.account? f.number = none → 63 ≤ t.charge.accounts.length →
         Answers c tag 24 (.refused .tableFull) (.accountNumber f.number) s t) ∧
       (f.number ≠ 0 → t.charge.account? f.number = none → t.charge.accounts.length < 63 →
         ∃ u, Answers c tag 24 .ok (.accountCeiling f.number f.amount) s u ∧
           u = t.setCharge { t.charge with accounts := u.charge.accounts } ∧
           u.charge.account? f.number = some { number := f.number, isOpen := true, ceiling := f.amount, committed := 0,
                                               charged := 0, goodFrames := 0, settledOrders := 0 } ∧
           ∀ n, n ≠ f.number → u.charge.account? n = t.charge.account? n))) ∧
  (∀ (tag : Byte) (key : Option Nat) (s t : State), taken (.readAccount tag (.given key)) s = some t →
     let c : Instr := .readAccount tag (.given key)
     (t.gate.engine = .resetting → Answers c tag 25 (.refused .busy) (key.elim .none .accountNumber) s t) ∧
     (t.gate.engine ≠ .resetting →
       (key = none → Answers c tag 25 .ok (.keys (0 :: t.charge.accounts.map (fun a => a.number))) s t) ∧
       (key = some 0 → Answers c tag 25 .ok (.house t.charge.house (t.ordersOf 0)) s t) ∧
       (∀ n, key = some n → n ≠ 0 →
         (t.charge.account? n = none → Answers c tag 25 (.refused .noAccount) (.accountNumber n) s t) ∧
         (∀ a, t.charge.account? n = some a →
           Answers c tag 25 .ok (.account a (a.ceiling - a.committed - a.charged) (t.ordersOf n)) s t))))

/-- SET CEILING, SUSPEND ACCOUNT and REOPEN ACCOUNT on an account, and their refusals (R142, R143). -/
def Obligations.CeilingAndState : Prop :=
  ∀ (tag : Byte) (n amount : Nat) (s t : State), t.gate.engine ≠ .resetting →
    (taken (.setCeiling tag (.given ⟨n, amount⟩)) s = some t →
      let c : Instr := .setCeiling tag (.given ⟨n, amount⟩)
      (n = 0 → Answers c tag 26 (.refused .houseRefused) (.accountNumber 0) s t) ∧
      (n ≠ 0 → t.charge.account? n = none → Answers c tag 26 (.refused .noAccount) (.accountNumber n) s t) ∧
      (∀ a, n ≠ 0 → t.charge.account? n = some a →
        (amount < a.committed + a.charged →
          Answers c tag 26 (.refused .ceilingLow) (.ceilingLow n (a.committed + a.charged)) s t) ∧
        (a.committed + a.charged ≤ amount →
          Answers c tag 26 .ok (.ceilingSet n amount (amount - a.committed - a.charged)) s
            (t.setCharge { t.charge with accounts := t.charge.accounts.map (fun x =>
              if x.number = n then { x with ceiling := amount } else x) })))) ∧
    (∀ (c : Instr) (code : Nat) (o : Bool),
      (c = .suspendAccount tag (.given n) ∧ code = 27 ∧ o = false ∨
        c = .reopenAccount tag (.given n) ∧ code = 28 ∧ o = true) → taken c s = some t →
      (n = 0 → Answers c tag code (.refused .houseRefused) (.accountNumber 0) s t) ∧
      (n ≠ 0 → t.charge.account? n = none → Answers c tag code (.refused .noAccount) (.accountNumber n) s t) ∧
      (n ≠ 0 → (t.charge.account? n).isSome = true → Answers c tag code .ok (.accountState n o) s
        (t.setCharge { t.charge with accounts := t.charge.accounts.map (fun x =>
          if x.number = n then { x with isOpen := o } else x) })))

/-- CREDIT, CLEAR CHARGED and DELETE ACCOUNT; the totals of the house account, which it has none of, are 0 (R130, R144 to
R146). -/
def Obligations.CreditClearDelete : Prop :=
  ∀ (tag : Byte) (n amount : Nat) (s t : State), t.gate.engine ≠ .resetting →
    (taken (.credit tag (.given ⟨n, amount⟩)) s = some t →
      let c : Instr := .credit tag (.given ⟨n, amount⟩)
      (n = 0 → Answers c tag 29 .ok
        (.credited 0 (min amount t.charge.house.charged) (t.charge.house.charged - amount)) s
        (t.setCharge { t.charge with house := { t.charge.house with charged := t.charge.house.charged - amount } })) ∧
      (n ≠ 0 → t.charge.account? n = none → Answers c tag 29 (.refused .noAccount) (.accountNumber n) s t) ∧
      (∀ a, n ≠ 0 → t.charge.account? n = some a →
        Answers c tag 29 .ok (.credited n (min amount a.charged) (a.charged - amount)) s
          (t.setCharge { t.charge with accounts := t.charge.accounts.map (fun x =>
            if x.number = n then { x with charged := x.charged - amount } else x) }))) ∧
    (taken (.clearCharged tag (.given n)) s = some t →
      let c : Instr := .clearCharged tag (.given n)
      (n = 0 → Answers c tag 30 .ok (.closedBooks 0 t.charge.house.charged 0 0) s
        (t.setCharge { t.charge with
          house := { charged := 0, blank := 0, spoiled := 0, cut := 0, fogged := 0, labels := 0 } })) ∧
      (n ≠ 0 → t.charge.account? n = none → Answers c tag 30 (.refused .noAccount) (.accountNumber n) s t) ∧
      (∀ a, n ≠ 0 → t.charge.account? n = some a →
        Answers c tag 30 .ok (.closedBooks n a.charged a.goodFrames a.settledOrders) s
          (t.setCharge { t.charge with accounts := t.charge.accounts.map (fun x =>
            if x.number = n then { x with charged := 0, goodFrames := 0, settledOrders := 0 } else x) }))) ∧
    (taken (.deleteAccount tag (.given n)) s = some t →
      let c : Instr := .deleteAccount tag (.given n)
      (n = 0 → Answers c tag 31 (.refused .houseRefused) (.accountNumber 0) s t) ∧
      (n ≠ 0 → t.charge.account? n = none → Answers c tag 31 (.refused .noAccount) (.accountNumber n) s t) ∧
      (∀ a, n ≠ 0 → t.charge.account? n = some a →
        ((a.committed ≠ 0 ∨ ∃ o ∈ t.queue.orders, o.account = n) →
          Answers c tag 31 (.refused .inUse) (.accountNumber n) s t) ∧
        (a.committed = 0 → (∀ o ∈ t.queue.orders, o.account ≠ n) →
          Answers c tag 31 .ok (.closedBooks n a.charged a.goodFrames a.settledOrders) s
            (t.setCharge { t.charge with accounts := t.charge.accounts.filter (fun x => x.number != n) }))))

/-! ## Rolls and labels (R89, R96, R99, R104, R112, R127) -/

/-- LOAD ROLL: the checks of R89 in their order, and a new roll with counter 1, every entry UNUSED, the stock's frames and
the settings' leader; in AUTO mode with leader frames the leader advance is sent (R89, R90). -/
def Obligations.LoadRoll : Prop :=
  ∀ (tag : Byte) (f : LoadRollFields) (s t : State), taken (.loadRoll tag (.given f)) s = some t →
    t.gate.engine ≠ .resetting →
    let refusedWith (r : Reason) : Prop :=
      exec (.loadRoll tag (.given f)) s = .next (settle (answer tag 17 (.refused r) .none t))
    let good : Prop := 1 ≤ f.stock ∧ f.stock ≤ 255 ∧ f.rollId.length = 6 ∧ ∀ x ∈ f.rollId, 32 ≤ x ∧ x ≤ 126
    (backOf f.back = none → refusedWith .badField) ∧
    ∀ k, backOf f.back = some k →
      let open_ : Prop := (t.roll k).state = .unloaded ∨ (t.roll k).state = .closed
      (¬good → refusedWith .badField) ∧
      (good → t.present k.slot = false → refusedWith .noUnit) ∧
      (good → t.present k.slot = true → ¬open_ → refusedWith .rollState) ∧
      (good → t.present k.slot = true → open_ → t.stock? f.stock = none → refusedWith .noStock) ∧
      (∀ e, good → t.present k.slot = true → open_ → t.stock? f.stock = some e →
        ((t.roll k).report.isSome = true → refusedWith .busy) ∧
        ((t.roll k).report = none → ∃ r : Roll,
          r.film = some { rollId := f.rollId, stock := f.stock, frames := e.frames,
                          leaderFrames := t.settings.leaderFrames, leaderMode := t.settings.leaderMode,
                          map := List.replicate e.frames MapEntry.fresh } ∧
          r.state = (if t.settings.leaderFrames = 0 then .ready else .leader) ∧ r.counter = 1 ∧ r.closeCause = none ∧
          r.headerDone = false ∧ r.cut = none ∧ r.lastCount = none ∧ r.leaderRemaining = t.settings.leaderFrames ∧
          let u := answer tag 17 .ok (.rollLoaded r.state e.frames) (t.setRoll k r)
          exec (.loadRoll tag (.given f)) s = .next (settle
            (if t.settings.leaderFrames ≠ 0 ∧ t.settings.leaderMode = .auto then
              issue k.slot (.advance .leader t.settings.leaderFrames) .leader u
            else u))))

/-- CLOSE ROLL: the checks of R96, and the close with cause DESK, or SUSPECT from SUSPECT, its report taken into a free slot
of the report queue, answered OK with CLOSING (R95, R96, R192); that the answer comes after these, and names CLOSING though
the report may have entered, is the model's choice (assumption 8). RESYNC ROLL:
BAD-FIELD for a back that is none, the checks of R99, and READ COUNT issued with the reply deferred (R99, R187). -/
def Obligations.CloseAndResyncRoll : Prop :=
  (∀ (tag : Byte) (b : Nat) (k : Back) (s t : State), taken (.closeRoll tag (.given b)) s = some t →
     t.gate.engine ≠ .resetting →
     (backOf b = none → exec (.closeRoll tag (.given b)) s = .next (settle (answer tag 18 (.refused .badField) .none t))) ∧
     (backOf b = some k → ((t.roll k).state ≠ .leader ∧ (t.roll k).state ≠ .ready ∧ (t.roll k).state ≠ .suspect) →
       exec (.closeRoll tag (.given b)) s = .next (settle (answer tag 18 (.refused .rollState) .none t))) ∧
     (backOf b = some k → ((t.roll k).state = .leader ∨ (t.roll k).state = .ready ∨ (t.roll k).state = .suspect) →
         ((t.shot? k).isSome = true ∨ (t.timer.frames.get k).isSome = true ∨ (t.slot k.slot).outstanding.isSome = true) →
       exec (.closeRoll tag (.given b)) s = .next (settle (answer tag 18 (.refused .busy) .none t))) ∧
     (backOf b = some k → ((t.roll k).state = .leader ∨ (t.roll k).state = .ready ∨ (t.roll k).state = .suspect) →
         t.shot? k = none → t.timer.frames.get k = none → (t.slot k.slot).outstanding = none →
       let cause : CloseCause := if (t.roll k).state = .suspect then .suspect else .desk
       let u := closeRollFor k cause t
       (u.roll k).state = .closing ∧ (u.roll k).closeCause = some cause ∧ (u.roll k).report.isSome = true ∧
       (u.roll k.other) = t.roll k.other ∧ hasFlag u.events.flags .rollClosed = true ∧
       exec (.closeRoll tag (.given b)) s =
         .next (settle (testReturning (answer tag 18 .ok (.backState .closing) (drainReports u)))))) ∧
  (∀ (tag : Byte) (b : Nat) (s t : State), taken (.resyncRoll tag (.given b)) s = some t →
     t.gate.engine ≠ .resetting → backOf b = none →
     Answers (.resyncRoll tag (.given b)) tag 19 (.refused .badField) .none s t) ∧
  (∀ b : Nat, (b = 0 → backOf b = some .a) ∧ (b = 1 → backOf b = some .b) ∧ (2 ≤ b → backOf b = none)) ∧
  (∀ (tag : Byte) (b : Nat) (k : Back) (s t : State), taken (.resyncRoll tag (.given b)) s = some t →
     t.gate.engine ≠ .resetting → backOf b = some k →
     let c : Instr := .resyncRoll tag (.given b)
     ((t.roll k).state ≠ .suspect → Answers c tag 19 (.refused .rollState) .none s t) ∧
     ((t.roll k).state = .suspect → (t.roll k).leaderRemaining ≠ 0 → Answers c tag 19 (.refused .leader) .none s t) ∧
     ((t.roll k).state = .suspect → (t.roll k).leaderRemaining = 0 → t.present k.slot = false →
       Answers c tag 19 (.refused .noUnit) .none s t) ∧
     ((t.roll k).state = .suspect → (t.roll k).leaderRemaining = 0 → t.present k.slot = true →
         (t.slot k.slot).outstanding.isSome = true → Answers c tag 19 (.refused .busy) .none s t) ∧
     ((t.roll k).state = .suspect → (t.roll k).leaderRemaining = 0 → t.present k.slot = true →
         (t.slot k.slot).outstanding = none →
       exec c s = .next (issue k.slot .readCount (.resync (some tag))
         (t.setLink { t.link with reserved := t.link.reserved + 1 }))))

/-- READ ROLL MAP: the roll record, and with a range its entries in ascending order, none beyond the frames per roll
(R104). -/
def Obligations.ReadRollMap : Prop :=
  ∀ (tag : Byte) (f : RollMapFields) (k : Back) (s t : State), taken (.readRollMap tag (.given f)) s = some t →
    t.gate.engine ≠ .resetting →
    let c : Instr := .readRollMap tag (.given f)
    (backOf f.back = none → Answers c tag 20 (.refused .badField) .none s t) ∧
    (backOf f.back = some k → (t.roll k).film = none → Answers c tag 20 (.refused .noRoll) .none s t) ∧
    (∀ x, backOf f.back = some k → (t.roll k).film = some x →
      (f.range = none → Answers c tag 20 .ok (.rollMap k (t.roll k) none []) s t) ∧
      (∀ first count, f.range = some (first, count) →
        (1 ≤ first ∧ first ≤ x.frames ∧ 1 ≤ count ∧ count ≤ 16 →
          Answers c tag 20 .ok (.rollMap k (t.roll k) (some first) ((x.map.drop (first - 1)).take count)) s t) ∧
        (¬(1 ≤ first ∧ first ≤ x.frames ∧ 1 ≤ count ∧ count ≤ 16) →
          Answers c tag 20 (.refused .badField) .none s t)))

/-- DISCARD LABELS: every record leaves but one being printed; the entries, the orders, the rolls, the house account and
the sync counter are as they were before the records' leaving is taken up (R127); that the reply joins before the tests of
R30 and R35 that the leaving brings is the model's choice (assumption 8). A frame label enters the queue with
the HEADER of a roll without one, or else a SYNC that is due, before it, when both have room: a HEADER makes header-done
yes, the house account is charged the LABEL FEE and one label for a HEADER, for a SYNC, and for the label of a SPOILED
entry, the entry is labelled, and an EXPOSED one adds a good label to its order, QUEUED or ACTIVE. Without room nothing
enters and nothing is charged, and under a noted SKIP the entry is UNLABELED (R117, R118, R122, R139; that nothing happens
under HOLD is the model's reading, assumption 30). The label of an entry is composed from its order's template as it stands
in the queue, unless the order is gone, names no template that is loaded, or the run ends at OMIT (R116). The head record is
sent PRINT, and is being printed, when the printer is PRESENT and READY with no command outstanding (R124). A SYNC is due
with the interval on and reached by the counter; a HEADER and a SYNC hold the three lines of R119 and R120 (R117), a position
in a SYNC line being written with no leading zero, the model's choice (assumption 56). Each step
of a template has its effect on the run: the text it puts, the line it opens, the steps it passes over, the template it goes
on to, the label it ends (R111 to R115); at the 48th step its own end counts before the count of 48, the model's choice
(assumption 50). A run puts one to three lines of at most 24 characters, and a step whose text fits cuts nothing (R111,
R112). -/
def Obligations.LabelQueue : Prop :=
  (∀ (tag : Byte) (s t : State), taken (.discardLabels tag (.given ())) s = some t → t.gate.engine ≠ .resetting →
     let kept := if t.labels.printing then t.labels.queue.take 1 else []
     let u := answer tag 23 .ok
       (.discarded (t.labels.queue.length - kept.length) (t.labels.printing && !t.labels.queue.isEmpty))
       (t.setLabels { t.labels with queue := kept })
     exec (.discardLabels tag (.given ())) s =
       .next (settle (if t.labels.queue.length = kept.length then u else testVisit u))) ∧
  (∀ (k : Back) (p : Nat) (e : MapEntry) (x : LabelRec) (s : State),
     let first := preceding s k p
     let t := queueLabel k p e x s
     ((s.roll k).headerDone = false → first.map (fun r => r.kind) = some .header) ∧
     ((s.roll k).headerDone = true → s.syncDue = true → first.map (fun r => r.kind) = some .sync) ∧
     ((s.roll k).headerDone = true → s.syncDue = false → first = none) ∧
     (s.syncDue = true ↔ s.settings.syncExponent ≠ 0 ∧ 2 ^ s.settings.syncExponent ≤ s.labels.syncCounter) ∧
     (∀ h, first = some h →
       let letter (j : Back) : Nat := match j with | .a => 65 | .b => 66
       let onFilm (x : BackState) : Bool := x == .leader || x == .ready || x == .suspect || x == .closing
       let line (j : Back) : Text := letter j :: 32 :: (if j = k then (s.roll j).id ++ 32 :: digits p
         else if onFilm (s.roll j).state then (s.roll j).id ++ 32 :: digits (s.roll j).counter
         else [45, 45, 45, 45, 45, 45, 32, 45, 45])
       h = { h with back := k, rollId := (s.roll k).id, position := none, order := none, truncated := false,
                    templateError := false } ∧
       (h.kind = .header → h.lines = [82 :: 79 :: 76 :: 76 :: 32 :: letter k :: 32 :: (s.roll k).id,
         (s.rollStock k).name, dateText s.settings.jobDate]) ∧
       (h.kind = .sync → h.lines = [[83, 89, 78, 67], line .a, line .b])) ∧
     (first.toList.length + 1 ≤ 64 - s.labels.queue.length →
       let fees := first.toList.length + (if e.state = .spoiled then 1 else 0)
       t.labels = { s.labels with
         queue := s.labels.queue ++ first.toList ++ [x]
         syncCounter := if first.isSome then 1 else min 64 (s.labels.syncCounter + 1)
         truncated := if x.truncated then min 65535 (s.labels.truncated + 1) else s.labels.truncated
         templateErrors := if x.templateError then min 65535 (s.labels.templateErrors + 1) else s.labels.templateErrors } ∧
       (t.roll k).headerDone = true ∧ t.roll k.other = s.roll k.other ∧
       (1 ≤ p → ∀ q, (t.roll k).entry? q = ((s.roll k).entry? q).map (fun y =>
         if q = p then { y with labelled := true } else y)) ∧
       (fees = 0 → t.charge = s.charge) ∧
       (fees ≠ 0 → t.charge = { s.charge with house := { s.charge.house with
         charged := min 16777215 (s.charge.house.charged + fees * s.charge.fees.label)
         labels := min 65535 (s.charge.house.labels + fees) } }) ∧
       t.queue = { s.queue with orders := s.queue.orders.map (fun o =>
         if e.state = .exposed ∧ x.order = some o.number ∧ o.state ≠ .ending then
           { o with goodLabels := o.goodLabels + 1 } else o) }) ∧
     (64 - s.labels.queue.length < first.toList.length + 1 →
       (s.labels.noted.get k = some .skip → t = s.setRolls t.rolls ∧ t.roll k.other = s.roll k.other ∧
         (t.roll k).headerDone = (s.roll k).headerDone ∧
         (1 ≤ p → ∀ q, (t.roll k).entry? q = ((s.roll k).entry? q).map (fun y =>
           if q = p then { y with unlabeled := true } else y))) ∧
       (s.labels.noted.get k ≠ some .skip → t = s))) ∧
  (∀ (k : Back) (p n c st : Nat) (e : MapEntry) (s : State), (s.roll k).entry? p = some e → e.item = some (n, c, st) →
     (s.order? n = none → composeLabel k p s = s) ∧
     (∀ o, s.order? n = some o →
       (∀ m, o.template = some m → (s.labels.templates[m]?).getD none = none → composeLabel k p s = s) ∧
       (o.template = none → composeLabel k p s = s) ∧
       (∀ m tp, o.template = some m → s.labels.templates[m]? = some (some tp) →
         let run := runTemplate { entry := e, back := k, rollId := (s.roll k).id, position := p, order := o,
                                  jobDate := s.settings.jobDate, templates := s.labels.templates } tp
         (run = none → composeLabel k p s = s) ∧
         (∀ r, run = some r → composeLabel k p s = queueLabel k p e
           { kind := .frame, back := k, rollId := (s.roll k).id, position := some p, order := some o.number,
             lines := r.lines, truncated := r.truncated, templateError := r.templateError } s)))) ∧
  (∀ s : State,
     let u := s.bus.printer
     let ready : Prop := u.state = .present ∧ u.printer = some .ready ∧ u.outstanding = none
     (s.labels.queue = [] ∨ ¬ready → tryPrint s = s) ∧
     (∀ x rest, s.labels.queue = x :: rest → ready → tryPrint s = issue .printer
       (.print { kind := x.kind, truncated := x.truncated, templateError := x.templateError, lines := x.lines }) .label
       (s.setLabels { s.labels with printing := true }))) ∧
  (∀ n : Nat, n < 100000000 → (digits n).foldl (fun a c => 10 * a + (c - 48)) 0 = n ∧ digits n ≠ [] ∧
     (∀ c ∈ digits n, 48 ≤ c ∧ c ≤ 57) ∧ (10 ≤ n → (digits n).head? ≠ some 48) ∧ (n < 10 → digits n = [48 + n])) ∧
  (∀ (x : RunEnv) (literals : List Text) (n : Nat) (d : Date),
     let two (i : Nat) : Text := [48 + i / 10 % 10, 48 + i % 10]
     let diff := x.order.offset x.entry.step - x.order.offset x.order.pattern.nominal
     let sign : Text := if diff < 0 then [45] else if 0 < diff then [43] else []
     let put (st : TStep) : Option Text := x.text literals st
     put .putCatalog = some (x.order.catalog.getD []) ∧ put .putTitle = some (x.order.title.getD []) ∧
     put .putCourse = some (x.order.course.getD []) ∧ put .putAccount = some (digits x.order.account) ∧
     put .putOrder = some (digits x.order.number) ∧
     put .putRoll = some ((match x.back with | .a => 65 | .b => 66) :: 32 :: x.rollId) ∧
     put .putFrame = some (digits x.position) ∧
     put .putStep = some (sign ++ digits (diff.natAbs / 10) ++ [46, 48 + diff.natAbs % 10]) ∧
     (x.jobDate = none → put .putDate = some (List.replicate 10 45)) ∧
     (x.jobDate = some d → put .putDate = some (digits d.year ++ [45] ++ two d.month ++ [45] ++ two d.day)) ∧
     put (.putLiteral n) = some (literals.getD n []) ∧ put (.space n) = some (List.replicate n 32) ∧
     (x.holds .spoiled = true ↔ x.entry.state = .spoiled) ∧ (x.holds .timeClamped = true ↔ x.entry.clamp ≠ .none) ∧
     (x.holds .offNominal = true ↔ x.entry.step ≠ x.order.pattern.nominal) ∧
     (x.holds .titleAbsent = true ↔ x.order.title = none) ∧ (x.holds .courseAbsent = true ↔ x.order.course = none) ∧
     (x.holds .redo = true ↔ x.entry.redo = true)) ∧
  (∀ (x : RunEnv) (n : Nat) (st : TStep) (rest : List TStep) (literals : List Text) (r : Run),
     let go := runSteps x n rest literals
     let next := runSteps x (n + 1) (st :: rest) literals r
     let failed := some { r with templateError := true }
     runSteps x 0 rest literals r = some r ∧ runSteps x (n + 1) [] literals r = some r ∧
     (st = .end_ → next = some r) ∧ (st = .omit_ → next = none) ∧ (st = .nextLine → next = go r.newLine) ∧
     (∀ c i, st = .skipIf c i → next = runSteps x n (if x.holds c then rest.drop i else rest) literals r) ∧
     (∀ i, st = .continueAt i → (r.continued = true → next = failed) ∧
       ((x.templates[i]?).getD none = none → next = failed) ∧
       (∀ p, r.continued = false → x.templates[i]? = some (some p) →
         next = runSteps x n p.steps p.literals { r with continued := true })) ∧
     (∀ txt, x.text literals st = some txt → next = go (r.put txt))) ∧
  (∀ (q : Run) (txt : Text) (first : List Text) (line : Text),
     (q.beyond = true → q.put txt = { q with truncated := q.truncated || !txt.isEmpty } ∧ q.newLine = q) ∧
     (q.beyond = false → q.lines = first ++ [line] →
       q.put txt = { q with lines := first ++ [line ++ txt.take (24 - line.length)]
                            truncated := q.truncated || decide (24 < line.length + txt.length) }) ∧
     (q.beyond = false → q.lines.length < 3 → q.newLine = { q with lines := q.lines ++ [[]] }) ∧
     (q.beyond = false → 3 ≤ q.lines.length → q.newLine = { q with beyond := true })) ∧
  (∀ (x : RunEnv) (p : Template), runTemplate x p = runSteps x 48 p.steps p.literals
     { lines := [[]], beyond := false, continued := false, truncated := false, templateError := false }) ∧
  (∀ (x : RunEnv) (p : Template) (r : Run), runTemplate x p = some r →
     1 ≤ r.lines.length ∧ r.lines.length ≤ 3 ∧ (∀ l ∈ r.lines, l.length ≤ 24) ∧
     ∀ (q : Run) (txt : Text), q.beyond = false → (q.lines.getLast?.getD []).length + txt.length ≤ 24 →
       (q.put txt).truncated = q.truncated)

/-- The loss of a roll: its cut frames, the fog and the close, in this order (R101); then what the loss leaves of a firing,
of cancels and of R35. Cut frames: a back in the firing leaves it, and its frame is written at the counter, SPOILED TIMING;
a frame record ceases to exist, and its frame is written at its position with the record's cause; both with their item and
time and no measured time, and the counter moves past them. A frame that was PENDING is owed again unless its order is
cancel-requested, and charged as cut; a LAMP frame was told and charged at its abort (R81, R83, R101 step 1). Fog: every
EXPOSED entry becomes FOGGED and the others stay; its order, QUEUED or ACTIVE, has one good frame less, one good label less
if the entry was labelled, owes the item again unless cancel-requested, and loses its spans on the roll; the house account
is charged one frame for each; an ENDING order is as it was (R101 step 2, R102). The roll is LOST, its report is composed
and offered, with ROLL-CLOSED raised, and the other roll is as it was but for a report of its own that is taken (R101 step
3, R103, R192). That this holds of a roll lost in RESETTING too is the model's reading (assumption 20); that the LOST roll's
report is composed before those of the cancels is its choice (assumption 49), as is that a LAMP-FAIL of the other back's
firing is raised after both (assumption 52). -/
def Obligations.LostRolls : Prop :=
  (∀ (k : Back) (s : State),
    let lost := updRoll k (fun r => { r with state := .lost, closeCause := some .lost, passThrough := .idle })
      (fogRoll k (loseFrame k (loseShot k s)))
    rollLost k s = testReturning (afterLoss k s (completeCancels (clearOwed k (dropList k (composeReport k .lost lost))))) ∧
    (s.shot? k = none → loseShot k s = s) ∧ (s.timer.frames.get k = none → loseFrame k s = s)) ∧
  (∀ (k : Back) (s : State), s.shot? k = none → s.timer.frames.get k = none →
    let t := rollLost k s
    let told := composeReport k .lost (updRoll k (fun r => { r with
      state := .lost, closeCause := some .lost, passThrough := .idle }) (fogRoll k s))
    (told.roll k).report = some (s.link.clock, (told.roll k).rollReport k .lost) ∧
    ((t.roll k).report = (told.roll k).report ∨ (t.roll k).report = none) ∧
    (t.roll k).state = .lost ∧ (t.roll k).closeCause = some .lost ∧
    (t.roll k).passThrough = .idle ∧ (t.roll k).counter = (s.roll k).counter ∧
    (∀ p, (t.roll k).entry? p =
      ((s.roll k).entry? p).map (fun e => if e.state = .exposed then { e with state := .fogged } else e)) ∧
    (∀ o ∈ (fogRoll k s).queue.orders, o.state ≠ .ending → ∀ x ∈ o.spans,
      ¬(x.back = k ∧ x.rollId = (s.roll k).id)) ∧ t.charge.house = (fogRoll k s).charge.house ∧
    (t.roll k.other = s.roll k.other ∨ t.roll k.other = reportTaken (s.roll k.other)) ∧
    hasFlag t.events.flags .rollClosed = true) ∧
  (∀ (k : Back) (film : Film) (s : State), (s.roll k).film = some film →
    (s.queue.orders.map (fun o => o.number)).Nodup →
    let t := fogRoll k s
    let exposed := film.map.filter (fun e => e.state == .exposed)
    let live (n : Nat) : Bool := (s.order? n).any (fun o => o.state != .ending)
    let fogged := exposed.filter (fun e => e.item.any (fun i => live i.1))
    let mine (n : Nat) : List MapEntry := exposed.filter (fun e => e.item.any (fun i => i.1 == n))
    let price := ((s.stock? film.stock).map (fun e => e.price)).getD 0
    (∀ n o, s.order? n = some o → o.state = .ending → t.order? n = some o) ∧
    (∀ n o, s.order? n = some o → o.state ≠ .ending → ∃ owed : List (Nat × Nat),
      t.order? n = some { o with
        goodFrames := o.goodFrames - (mine n).length
        goodLabels := o.goodLabels - ((mine n).filter (fun e => e.labelled)).length
        redo := o.redo ++ owed
        spans := o.spans.filter (fun x => !(decide (x.back = k ∧ x.rollId = film.rollId))) } ∧
      (o.cancelRequested = true → owed = []) ∧
      (o.cancelRequested = false → owed.Nodup ∧ ∀ i, i ∈ owed ↔ i ∉ o.redo ∧ ∃ e ∈ mine n, e.item = some (n, i))) ∧
    (fogged = [] → t.charge = s.charge) ∧
    (fogged ≠ [] → t.charge = { s.charge with house := { s.charge.house with
      charged := min 16777215 (s.charge.house.charged + fogged.length * price)
      fogged := min 65535 (s.charge.house.fogged + fogged.length) } })) ∧
  (∀ (k : Back) (film : Film) (s : State), (s.roll k).film = some film →
    let price := ((s.stock? film.stock).map (fun e => e.price)).getD 0
    let spoiled (w : WorkItem) (time : Nat) (clamp : Clamp) (cause : SpoilCause) : MapEntry :=
      { MapEntry.fresh with state := .spoiled, item := some (w.order, w.copy, w.step), time := some time, clamp := clamp,
                            redo := w.kind == .redo, cause := some cause }
    let cut (w : WorkItem) (u : State) : Prop :=
      (∀ o, s.order? w.order = some o → u.order? w.order = some (
        if o.state = .ending ∨ o.cancelRequested = true ∨ (w.copy, w.step) ∈ o.redo then o
        else { o with redo := o.redo ++ [(w.copy, w.step)] })) ∧
      u.charge = { s.charge with house := { s.charge.house with
        charged := min 16777215 (s.charge.house.charged + price), cut := min 65535 (s.charge.house.cut + 1) } }
    let written (p : Nat) (e : MapEntry) (u : State) : Prop :=
      (u.roll k).counter = (s.roll k).counter + 1 ∧ (p ≤ film.map.length → (u.roll k).entry? p = some e) ∧
      (∀ q, q ≠ p → (u.roll k).entry? q = (s.roll k).entry? q) ∧ u.roll k.other = s.roll k.other
    (∀ (f : Firing) (x : Shot), s.timer.firing = some f → s.shot? k = some x → 1 ≤ (s.roll k).counter →
      let u := loseShot k s
      written (s.roll k).counter (spoiled x.item x.time x.clamp .timing) u ∧ cut x.item u ∧
      u.shot? k = none ∧ u.timer.shutters.get k = false ∧ u.timer.frames = s.timer.frames ∧
      (s.shot? k.other = none → u.timer.firing = none ∧ u.timer.lamp = false) ∧
      (∀ y, s.shot? k.other = some y → u.shot? k.other = some y ∧ u.timer.lamp = s.timer.lamp ∧
        ∃ g, u.timer.firing = some g ∧ g.lampFall = f.preOpen + y.time ∧ g.deadline = f.deadline ∧ g.phase = f.phase)) ∧
    (∀ f, s.timer.frames.get k = some f → 1 ≤ f.position →
      let u := loseFrame k s
      written f.position (spoiled f.item f.time f.clamp (if f.lampSpoiled then .lamp else .timing)) u ∧
      u.timer = { s.timer with frames := s.timer.frames.set k none } ∧
      (f.lampSpoiled = true → u.queue = s.queue ∧ u.charge = s.charge) ∧ (f.lampSpoiled = false → cut f.item u)))

/-! ## DIRECT frames (R177 to R180, R182) -/

/-- The unit command a DIRECT frame spells, when its fields agree with its layout and are in range (R173, R204): LOAD of
1 to 120, RETURN, SCAN, SPOT of 1 to 9, ADVANCE of 1 to 72 always in leader form (R182; of a form byte of 0 too, the
model's choice, assumption 27), READ COUNT, TEST SHUTTER of 10 to 250,000, PRINT. -/
def Obligations.DirectFramesAreForwardedOrTrapped : Prop :=
  ∀ (tag unit : Byte) (u : UnitSlot) (cmd : UnitCmd) (c : Instr) (s t : State),
    ((∃ p, 1 ≤ p ∧ p ≤ 120 ∧ c = .directLoad tag unit (.given p) ∧ cmd = .load p) ∨
      (c = .directReturn tag unit (.given ()) ∧ cmd = .ret) ∨
      (c = .directScan tag unit (.given ()) ∧ cmd = .scan) ∨
      (∃ z, 1 ≤ z ∧ z ≤ 9 ∧ c = .directSpot tag unit (.given z) ∧ cmd = .spot z) ∨
      (∃ f, f.form ≤ 1 ∧ 1 ≤ f.count ∧ f.count ≤ 72 ∧ c = .directAdvance tag unit (.given f) ∧
        cmd = .advance .leader f.count) ∨
      (c = .directReadCount tag unit (.given ()) ∧ cmd = .readCount) ∨
      (∃ x, 10 ≤ x ∧ x ≤ 250000 ∧ c = .directTestShutter tag unit (.given x) ∧ cmd = .testShutter x) ∨
      (∃ f, c = .directPrint tag unit (.given f) ∧ printOf f = some cmd)) →
    taken c s = some t → t.gate.engine ≠ .resetting → slotOf unit = some u → u.expects = cmd.name.unit →
    (t.present u = false → exec c s = .next (directReplied tag cmd.name.code .absent .none t)) ∧
    (∀ r, t.present u = true →
        (trapReason t u cmd = some r ∨ trapReason t u cmd = none ∧ (t.slot u).hasDirect = true ∧ r = .busy) →
      exec c s = .next (directReplied tag cmd.name.code (.trapped r) .none (raise .trap (t.setEvents
        { t.events with traps := t.events.traps.set r, lastTrap := some (u, cmd.name) })))) ∧
    (t.present u = true → trapReason t u cmd = none → (t.slot u).hasDirect = false →
      ∃ v, exec c s = .next (issue u cmd (.direct (some tag)) v) ∧
        v.link = { t.link with reserved := t.link.reserved + 1 } ∧
        v = (t.setLink v.link).setRolls v.rolls ∧
        ∀ k, v.roll k = if u = k.slot ∧ cmd.name = .advance then { t.roll k with passThrough := .inSequence }
          else t.roll k)

/-- A DIRECT frame, whatever it carries: while RESETTING it is refused BUSY; a slot that is none of the five, a unit that
does not take the command, and fields out of range or of a wrong layout are refused BAD-FIELD (R177, with the ranges of
R173 and R204; an ADVANCE form above 1 is out of range, assumption 27, as is a PRINT character that no label holds,
assumption 33). A kind that no unit takes is refused BAD-FIELD; one without a kind is answered with kind 0, the model's
choice (assumption 26). The conditions of R178, by slot and command, with those of a pass-through advance (R182), and the
trap reason where they fail. -/
def Obligations.DirectFramesRefusedOrTrapped : Prop :=
  (∀ (tag unit : Byte) (c : Instr) (name : CmdName) (inLayout : Prop) (s t : State),
     ((∃ f, c = .directLoad tag unit f ∧ name = .load ∧ (inLayout ↔ ∃ p, f = .given p ∧ 1 ≤ p ∧ p ≤ 120)) ∨
       (∃ f, c = .directReturn tag unit f ∧ name = .ret ∧ (inLayout ↔ f = .given ())) ∨
       (∃ f, c = .directScan tag unit f ∧ name = .scan ∧ (inLayout ↔ f = .given ())) ∨
       (∃ f, c = .directSpot tag unit f ∧ name = .spot ∧ (inLayout ↔ ∃ z, f = .given z ∧ 1 ≤ z ∧ z ≤ 9)) ∨
       (∃ f, c = .directAdvance tag unit f ∧ name = .advance ∧
         (inLayout ↔ ∃ x, f = .given x ∧ x.form ≤ 1 ∧ 1 ≤ x.count ∧ x.count ≤ 72)) ∨
       (∃ f, c = .directReadCount tag unit f ∧ name = .readCount ∧ (inLayout ↔ f = .given ())) ∨
       (∃ f, c = .directTestShutter tag unit f ∧ name = .testShutter ∧
         (inLayout ↔ ∃ x, f = .given x ∧ 10 ≤ x ∧ x ≤ 250000)) ∨
       (∃ f, c = .directPrint tag unit f ∧ name = .print ∧
         (inLayout ↔ ∃ x, f = .given x ∧ 1 ≤ x.kind ∧ x.kind ≤ 3 ∧ x.flags ≤ 3 ∧ 1 ≤ x.lines.length ∧ x.lines.length ≤ 3 ∧
           ∀ l ∈ x.lines, l.length ≤ 24 ∧ ∀ ch ∈ l, 32 ≤ ch ∧ ch ≤ 126))) →
     taken c s = some t →
     (t.gate.engine = .resetting → exec c s = .next (directReplied tag name.code (.refused .busy) .none t)) ∧
     (t.gate.engine ≠ .resetting → (slotOf unit = none ∨ (∃ u, slotOf unit = some u ∧ u.expects ≠ name.unit) ∨ ¬inLayout) →
       exec c s = .next (directReplied tag name.code (.refused .badField) .none t))) ∧
  (∀ (tag unit : Byte) (kind : Option Byte) (s t : State), taken (.directUnknownCommand tag unit kind) s = some t →
     exec (.directUnknownCommand tag unit kind) s = .next (directReplied tag ((kind.map BitVec.toNat).getD 0)
       (.refused (if t.gate.engine = .resetting then .busy else .badField)) .none t)) ∧
  (∀ (s : State) (cmd : UnitCmd) (k : Back) (n x : Nat),
     (trapReason s .feeder cmd = none ↔ s.gate.engine = .stopped ∧ s.gate.visit = none) ∧
     (trapReason s .meter cmd = none ↔ ∀ v, s.gate.visit = some v → v.held = true ∧ v.metering = false) ∧
     (trapReason s .printer cmd = none ↔ s.labels.queue = [] ∧ s.printOutstanding = false) ∧
     (∀ u, (u = .feeder ∨ u = .meter ∨ u = .printer) → trapReason s u cmd ≠ none → trapReason s u cmd = some .busy) ∧
     trapReason s k.slot .readCount = none ∧
     trapReason s k.slot (.testShutter x) =
       (if (s.roll k).state = .unloaded ∨ (s.roll k).state = .closed then none else some .shutter) ∧
     (trapReason s k.slot (.advance .leader n) = none ↔
       (∃ f, (s.roll k).film = some f ∧ f.leaderMode = .manual) ∧ s.settings.passThrough = true ∧
       (s.roll k).state = .leader ∧ n ≤ (s.roll k).leaderRemaining) ∧
     (trapReason s k.slot (.advance .leader n) ≠ none → trapReason s k.slot (.advance .leader n) = some .film))

/-! ## The stand bus (R169 to R176) -/

/-- POLL_EXPIRY takes the five slots in their order, and the next period is the poll period in force. A slot with a
command outstanding is not polled; another is sent its poll with its exchange number raised, STATUS when PRESENT and
PRESENCE otherwise. An unanswered poll makes a PRESENT or DISABLED slot ABSENT with its change flag and UNIT-CHANGE, a
PRESENT one being lost; an ABSENT one stays (R169, R172). A PRESENCE or STATUS answer is taken when it answers the
outstanding poll with its exchange number, and any other is ignored. An expected kind makes an ABSENT or DISABLED slot
PRESENT with its change flag and UNIT-CHANGE, and a back in NO-BACK or LOST UNLOADED; a wrong kind makes an ABSENT slot
DISABLED, leaves a DISABLED one, and a PRESENT one is lost as DISABLED. A feeder's STATUS carries its magazine, a back that
detaches is lost, a printer that can print is READY and, if it was OUT, printing is tried; a printer that becomes PRESENT is
READY or OUT as it answers, and printing is tried (R169 to R171). That an ignored answer leaves the whole step without effect is the model's choice (assumption 7). -/
def Obligations.Polls : Prop :=
  (∀ s : State,
     let t := pollSlot .printer (pollSlot .backB (pollSlot .backA (pollSlot .meter (pollSlot .feeder s))))
     exec .pollExpiry s = .next (settle (t.setBus { t.bus with period := t.settings.pollPeriod }))) ∧
  (∀ (u : UnitSlot) (s : State),
     let x := s.slot u
     let t := pollSlot u s
     (x.poll = none → x.outstanding.isSome = true → t = s) ∧
     (x.poll = none → x.outstanding = none → t = s.setSlot u { x with
       exchange := (x.exchange + 1) % 256, poll := some (if x.state = .present then .status else .presence) }) ∧
     (x.poll.isSome = true → x.outstanding = none →
       (x.state = .absent → t = s.setSlot u { x with exchange := (x.exchange + 1) % 256, poll := some .presence }) ∧
       (x.state ≠ .absent → (t.slot u).state = .absent ∧ (t.slot u).changed = true ∧ (t.slot u).poll = some .presence ∧
         hasFlag t.events.flags .unitChange = true) ∧
       (x.state = .present → t = sendPoll u (slotLost u .absent (s.setSlot u { x with poll := none }))))) ∧
  (∀ (u : UnitSlot) (x : Nat) (p : Presence) (r : StatusReport) (s : State),
     ((s.slot u).poll = some .presence → (s.slot u).exchange = x → p.fits = true →
       let t := takePresence u p s
       exec (.presenceAnswer u x p) s = .next (settle t) ∧
       (p.kind = u.expects → (t.slot u).state = .present ∧ (t.slot u).changed = true ∧
         hasFlag t.events.flags .unitChange = true ∧
         (∀ m, p = .feeder m → t.bus.feeder.magazine = if m = 0 then none else some m) ∧
         (∀ can, p = .printer can → t = tryPrint (raise .unitChange (s.setSlot u { s.slot u with
           state := .present, changed := true, poll := none, printer := some (if can then .ready else .out) }))) ∧
         (∀ k, u = k.slot → t.rolls = (s.setRoll k (if (s.roll k).state = .noBack ∨ (s.roll k).state = .lost then
           { s.roll k with state := .unloaded } else s.roll k)).rolls)) ∧
       (p.kind ≠ u.expects → (s.slot u).state = .absent → (t.slot u).state = .disabled ∧ (t.slot u).changed = true ∧
         hasFlag t.events.flags .unitChange = true) ∧
       (p.kind ≠ u.expects → (s.slot u).state = .disabled → t = s.setSlot u { s.slot u with poll := none })) ∧
     (((s.slot u).poll ≠ some .presence ∨ (s.slot u).exchange ≠ x) → exec (.presenceAnswer u x p) s = .next s) ∧
     ((s.slot u).poll = some .status → (s.slot u).exchange = x → r.fits = true →
       let t := takeStatus u r s
       let answered := s.setSlot u { s.slot u with poll := none }
       exec (.statusAnswer u x r) s = .next (settle t) ∧
       (r.kind ≠ u.expects → t = slotLost u .disabled answered) ∧
       (∀ m, r = .feeder m → u = .feeder → t.bus.feeder.magazine = if m = 0 then none else some m) ∧
       (r = .meter → u = .meter → t = answered) ∧
       (∀ (d : Bool) (k : Back), r = .back d → u = k.slot → t = if d then slotLost u .absent answered else answered) ∧
       (r = .printer false → u = .printer → t = answered) ∧
       (r = .printer true → u = .printer →
         let v := s.setSlot .printer { s.slot .printer with poll := none, printer := some .ready }
         t = if (s.slot .printer).printer = some .out then tryPrint v else v)) ∧
     (((s.slot u).poll ≠ some .status ∨ (s.slot u).exchange ≠ x) → exec (.statusAnswer u x r) s = .next s))

/-- Issuing a command sends it at once when none is outstanding and none waits, with the exchange number raised, the poll
withdrawn and its unit's timeout; otherwise it joins the tail of the slot's waiting commands; no other slot and no other
part changes (R169, R173, R175). Past a command's resolution the head of the waiting commands is sent in the same way, and
leaves them; with none waiting, or one outstanding again, nothing is sent (R173, R174). The timeout is that of the unit's
kind, for TEST SHUTTER with its time in whole ms, rounded up, added (R175). -/
def Obligations.IssuingACommand : Prop :=
  (∀ (u : UnitSlot) (s : State),
    ((s.slot u).outstanding.isSome = true ∨ (s.slot u).waiting = [] → sendNext u s = s) ∧
    (∀ c rest, (s.slot u).outstanding = none → (s.slot u).waiting = c :: rest →
      sendNext u s = s.setSlot u { s.slot u with
        exchange := ((s.slot u).exchange + 1) % 256, poll := none, waiting := rest,
        outstanding := some { cmd := c.cmd, issuer := c.issuer, exchange := ((s.slot u).exchange + 1) % 256,
                              timeout := unitTimeout s.settings u + c.cmd.extraTimeout } })) ∧
  (∀ (x : Settings) (cmd : UnitCmd), unitTimeout x .feeder = x.feederTimeout ∧ unitTimeout x .meter = x.meterTimeout ∧
    unitTimeout x .backA = x.backTimeout ∧ unitTimeout x .backB = x.backTimeout ∧
    unitTimeout x .printer = x.printerTimeout ∧ (∀ n, cmd = .testShutter n → cmd.extraTimeout = (n + 9) / 10) ∧
    ((∀ n, cmd ≠ .testShutter n) → cmd.extraTimeout = 0)) ∧
  (∀ (u : UnitSlot) (cmd : UnitCmd) (i : Issuer) (s : State),
    (issue u cmd i s) = s.setBus (issue u cmd i s).bus ∧ (issue u cmd i s).bus.period = s.bus.period ∧
    (∀ w, w ≠ u → (issue u cmd i s).slot w = s.slot w) ∧
    ((s.slot u).outstanding = none → (s.slot u).waiting = [] →
      (issue u cmd i s).slot u = { s.slot u with
        exchange := ((s.slot u).exchange + 1) % 256, poll := none,
        outstanding := some { cmd := cmd, issuer := i, exchange := ((s.slot u).exchange + 1) % 256,
                              timeout := unitTimeout s.settings u + cmd.extraTimeout } }) ∧
    (((s.slot u).outstanding.isSome = true ∨ (s.slot u).waiting ≠ []) →
      (issue u cmd i s).slot u = { s.slot u with waiting := (s.slot u).waiting ++ [{ cmd := cmd, issuer := i }] }))

/-- A completion whose exchange number is that of no outstanding command, DETACHING among them, and a timeout of no
outstanding command are ignored (R174, R175; assumption 7). -/
def Obligations.UnmatchedCompletionsAreIgnored : Prop :=
  ∀ (c : Instr) (u : UnitSlot) (x : Nat) (s : State),
    ((∃ r, u = .feeder ∧ c = .loadCompletion x r) ∨ (∃ r, u = .feeder ∧ c = .returnCompletion x r) ∨
      (∃ r, u = .meter ∧ c = .scanCompletion x r) ∨ (∃ r, u = .meter ∧ c = .spotCompletion x r) ∨
      (∃ k r n m, u = k.slot ∧ c = .advanceCompletion k x r n m) ∨ (∃ k r n, u = k.slot ∧ c = .leaderCompletion k x r n) ∨
      (∃ k r n, u = k.slot ∧ c = .blankingCompletion k x r n) ∨
      (∃ k r n, u = k.slot ∧ c = .passThroughCompletion k x r n) ∨
      (∃ k n, u = k.slot ∧ c = .readCountCompletion k x n) ∨ (∃ r, c = .directCompletion u x r) ∨
      (∃ r, u = .printer ∧ c = .printCompletion x r) ∨ (∃ k, u = k.slot ∧ c = .detachingAnswer k x)) →
    (∀ o, (s.slot u).outstanding = some o → o.exchange ≠ x) → exec c s = .next s ∧
    ((s.slot u).outstanding = none → exec (.unitCommandTimeout u) s = .next s)

/-- The visit's LOAD and RETURN complete: OK puts the slide in the gate, EMPTY ends every member with NO-SLIDE, JAM
raises GATE-JAM; a RETURN OK closes the visit; then the next waiting command is sent (R28, R36, R174). With the slide in the
gate the visit goes to RETURNING with no member or a release, to EXPOSING with every member FIXED, their densities written,
else to METERING (R28, R40, R55). Entering METERING raises LAMP and sends the meter SCAN; without a meter it raises
UNIT-LOST, held or not (the model's reading, assumption 28); a held visit waits (R29, R39, R41). Entering EXPOSING tests for
a firing and then R35, by which the visit leaves EXPOSING (R30, R35, R40). Entering RETURNING with a slide sends the feeder
RETURN, without a feeder raises UNIT-LOST, and waits when held; without a slide the visit closes (R36, R39, R41). At the
close the members with work remaining go back to QUEUED, the others end DONE in admission order, and the visit record goes
with its lists, its zone table and the resume record; their reports enter the report queue as its slots are free, and the
wanted sets are brought up to date before anything that follows the close (R37, R192). With no visit open there is nothing
to close (R161). The label wait closes as the visit leaves EXPOSING (R123; assumption 10). -/
def Obligations.FeederCompletionsAndPhases : Prop :=
  (∀ (x : Nat) (o : Outstanding) (s : State), (s.slot .feeder).outstanding = some o → o.exchange = x →
    o.issuer = .visit → s.gate.engine ≠ .resetting →
    let t := s.setSlot .feeder { s.slot .feeder with outstanding := none }
    (o.cmd.name = .load →
      exec (.loadCompletion x .ok) s = .next (settle (sendNext .feeder (afterLoad t))) ∧
      exec (.loadCompletion x .empty) s = .next (settle (sendNext .feeder
        (enterReturning (failOrders .noSlide
          ((s.gate.visit.map (fun v => v.members.map (fun m => m.order))).getD []) t)))) ∧
      exec (.loadCompletion x .jam) s = .next (settle (sendNext .feeder
        (raiseFault (visitFault t .gateJam .feeder) t)))) ∧
    (o.cmd.name = .ret →
      exec (.returnCompletion x .ok) s = .next (settle (sendNext .feeder
        (closeVisit (updVisit (fun v => { v with slide := false }) t)))) ∧
      exec (.returnCompletion x .jam) s = .next (settle (sendNext .feeder
        (raiseFault (visitFault t .gateJam .feeder) t))))) ∧
  (∀ (v : Visit) (s : State), s.gate.visit = some v → s.gate.engine ≠ .resetting →
    let loaded := s.setGate { s.gate with visit := some { v with slide := true } }
    let fixed : Prop := ∀ m ∈ v.members, ∀ o, s.order? m.order = some o → o.mode = .fixed
    (v.members = [] ∨ v.release = true → afterLoad s = enterReturning loaded) ∧
    (v.members ≠ [] → v.release = false → ¬fixed → afterLoad s = enterMetering loaded) ∧
    (v.members ≠ [] → v.release = false → fixed → ∃ orders : List Order,
      afterLoad s = enterExposing (loaded.setQueue { s.queue with orders := orders }) ∧
      orders.length = s.queue.orders.length ∧
      ∀ (i : Nat) (o : Order), s.queue.orders[i]? = some o →
        ((∀ m ∈ v.members, m.order ≠ o.number) → orders[i]? = some o) ∧
        (∀ d, (∃ m ∈ v.members, m.order = o.number) → o.mode = .fixed → o.fixedDensity = some d →
          orders[i]? = some { o with density := some d }))) ∧
  (∀ (v : Visit) (s : State), s.gate.visit = some v →
    let now (x : VisitState) : State := s.setGate { s.gate with visit := some { v with state := x } }
    let quiet (w : State) : State := w.setLabels { s.labels with labelWait := false }
    let lost (u : FaultUnit) (x : VisitState) : FaultRec :=
      { kind := .unitLost, unit := u, order := none, back := none, position := some v.position, visit := some x }
    (s.present .meter = false → enterMetering s = raiseFault (lost .meter .metering) (now .metering)) ∧
    (s.present .meter = true → v.held = true → enterMetering s = now .metering) ∧
    (s.present .meter = true → v.held = false → enterMetering s = issue .meter .scan .visit
      ((s.setGate { s.gate with visit := some { v with
        state := .metering, metering := true, zones := [], rereads := [] } }).setTimer { s.timer with lamp := true })) ∧
    enterExposing s = testReturning (testFiring (now .exposing)) ∧
    (let leaves : Prop := s.gate.engine ≠ .resetting ∧ v.state = .exposing ∧ s.timer.firing = none ∧
       v.owed = ⟨false, false⟩ ∧ (v.lists = ⟨[], []⟩ ∨ v.release = true)
     (leaves → testReturning s = enterReturning s) ∧ (¬leaves → testReturning s = s)) ∧
    (v.slide = false → enterReturning s = closeVisit (quiet (now .returning))) ∧
    (v.slide = true → v.held = true → enterReturning s = quiet (now .returning)) ∧
    (v.slide = true → v.held = false → s.present .feeder = true →
      enterReturning s = issue .feeder .ret .visit (quiet (now .returning))) ∧
    (v.slide = true → v.held = false → s.present .feeder = false →
      enterReturning s = raiseFault (lost .feeder .returning) (quiet (now .returning)))) ∧
  (∀ (v : Visit) (s : State), s.gate.visit = some v → (s.queue.orders.map (fun o => o.number)).Nodup →
    let t := endVisit s
    let member (o : Order) : Bool := o.state != .ending && v.members.any (fun m => m.order == o.number)
    let work (o : Order) : Bool := o.next.isSome || !o.redo.isEmpty
    t.gate = { s.gate with visit := none, resume := none } ∧ t.labels = { s.labels with labelWait := false } ∧
    t.queue.orders = s.queue.orders.map (fun o =>
      if member o && work o then { o with state := .queued }
      else if member o then { o with
        state := .ending, endKind := some .done, waiting := .none, held := 0
        settled := some (o.prices.orderFee + (if o.rush then o.prices.rushFee else 0) + o.goodFrames * o.prices.frame +
          o.goodLabels * o.prices.labelFee) }
      else o) ∧
    t.queue.ending.map (fun e => e.number) = s.queue.ending.map (fun e => e.number) ++
      (s.queue.orders.filter (fun o => member o && !work o)).map (fun o => o.number) ∧
    t.events = s.events ∧ t.timer = s.timer ∧ t.rolls = s.rolls ∧ t.bus = s.bus ∧ t.link.reports = s.link.reports ∧
    closeVisit s = refreshWanted (drainReports t)) ∧
  (∀ s : State, s.gate.visit = none → closeVisit s = s)

/-- The visit's SCAN fills the nine records of the zone table and fixes the zones to re-read, one to three of them or
none: a density to 400 is OK with that value, a higher one and OVER are OVER and count as 400, FAIL is FAILED, and a re-read
gives REREAD, OVER or FAILED by the same bounds; the FAILED zones are re-read in ascending number when they are at most
three. A failed SCAN leaves all nine FAILED and none to re-read; its SPOT changes the record of its zone. The next zone to
re-read is sent SPOT; with none left LAMP falls and the phase is judged: every member that the readings fail takes
METER-FAIL, in list order, the others have their density written, and the visit goes on to RETURNING or EXPOSING (R29, R40,
R48 to R52, R55, R162). The density written is `effectiveDensity`, whose value ExposureArithmetic states by mode (R54). A
completion of a cut phase is taken into no zone table (R53). -/
def Obligations.MeterCompletions : Prop :=
  (∀ (x z : Nat) (readings : List Reading) (r : ScanResult) (rd : Reading) (o : Outstanding) (s : State),
    (s.slot .meter).outstanding = some o → o.exchange = x → rd.fits = true → r.fits = true →
    let t := s.setSlot .meter { s.slot .meter with outstanding := none }
    (o.issuer = .visit → o.cmd = .scan → r = .ok readings →
      let u := updVisit (fun v => { v with zones := readings.map scanZone, rereads := rereadsOf (readings.map scanZone) }) t
      exec (.scanCompletion x r) s = .next (settle (sendNext .meter (nextReread u))) ∧
      (readings.map scanZone).length = 9 ∧ (rereadsOf (readings.map scanZone)).length ≤ 3) ∧
    (o.issuer = .visit → o.cmd = .scan → r = .fail → s.gate.visit.isSome = true →
      exec (.scanCompletion x r) s = .next (settle (sendNext .meter (judgeMetering
        (updVisit (fun v => { v with zones := List.replicate 9 .failed, rereads := [] }) t))))) ∧
    (o.issuer = .visit → o.cmd = .spot z →
      exec (.spotCompletion x rd) s = .next (settle (sendNext .meter (nextReread (updVisit (fun v =>
        { v with zones := v.zones.set (z - 1) (rereadZone rd), rereads := v.rereads.tail }) t))))) ∧
    (o.issuer = .cutPhase → o.cmd = .scan → exec (.scanCompletion x r) s = .next (settle (sendNext .meter t))) ∧
    (o.issuer = .cutPhase → o.cmd = .spot z → exec (.spotCompletion x rd) s = .next (settle (sendNext .meter t)))) ∧
  (∀ (v : Visit) (s : State), s.gate.visit = some v →
    (∀ z rest, v.rereads = z :: rest → nextReread s = issue .meter (.spot z) .visit s) ∧
    (v.rereads = [] → nextReread s = judgeMetering s) ∧
    (judgeMetering s).timer.lamp = false ∧
    (let fails (o : Order) : Bool := o.mode != .fixed && (decide (5 ≤ (v.zones.filter (fun z => z == .failed)).length) ||
       (o.mode == .spot && v.zones[4]? == some .failed))
     let failed := (v.members.map (fun m => m.order)).filter (fun n =>
       (s.order? n).any (fun o => o.state != .ending && fails o))
     let u := failOrders .meterFail failed ((s.setTimer { s.timer with lamp := false }).setGate { s.gate with
       visit := some { v with metering := false, rereads := [] } })
     v.zones.length = 9 → ∃ w, u.gate.visit = some w ∧ w.metering = false ∧ w.zones = v.zones ∧ w.release = v.release ∧
       (RecordsAgree s → w.members = v.members.filter (fun m => m.order ∉ failed) ∧
         ∀ m ∈ w.members, ∀ o, s.order? m.order = some o → o.state ≠ .ending → u.order? m.order = some o) ∧
       (let judged := u.setQueue { u.queue with orders := u.queue.orders.map (fun o =>
          if w.members.any (fun m => m.order == o.number) then
            { o with density := some (effectiveDensity o v.zones) } else o) }
        judgeMetering s = if w.members = [] ∨ v.release = true then enterReturning judged else enterExposing judged))) ∧
  (∀ (d : Nat) (zones : List Zone),
    scanZone (.density d) = (if d ≤ 400 then .ok d else .over) ∧ scanZone .over = .over ∧ scanZone .fail = .failed ∧
    rereadZone (.density d) = (if d ≤ 400 then .reread d else .over) ∧ rereadZone .over = .over ∧
    rereadZone .fail = .failed ∧ (Zone.ok d).value? = some d ∧ (Zone.reread d).value? = some d ∧
    Zone.over.value? = some 400 ∧ Zone.failed.value? = none ∧
    (zones.length = 9 →
      let bad := [1, 2, 3, 4, 5, 6, 7, 8, 9].filter (fun z => zones[z - 1]? == some .failed)
      rereadsOf zones = if bad.length ≤ 3 then bad else []))

/-- ADVANCE 1 after a firing completes. With no frame record the advance-owed flag clears and nothing else. Otherwise, at
its position the frame becomes EXPOSED or SPOILED as the timing check says, with its time and measured time, the counter
moves past it, the count is recorded and the advance-owed flag clears; a good frame counts to its order, a TIMING spoil to
the house account. FILM-END closes the roll without a count check; the count of the roll's end closes it FULL; a count
that differs makes the back SUSPECT and raises COUNT-MISMATCH; else the back stays as it is (R77, R78, R92, R93). Then
cancels end, a close begun composes its report, the resume record learns the outcome, the STEP hold is tested, and the
tests of a firing and of printing follow (R18, R95, R124, R152, R154). That the STEP hold comes before the tests of R30
and R35 is the model's reading (assumption 9), as is that a report of RESHOOT-LIMIT enters past the steps of R78; that a
cancel's report comes before the roll's is its choice (assumption 49). A TIMING spoil at the reshoot limit ends its order
with RESHOOT-LIMIT; below it the order is owed the copy and step, and a REDO item heads the back's list, unless this
completion has the roll leave READY, which drops the list (R33, R79; that the count is judged first, assumption 16). A good
frame extends the span of its back and roll that ends before it, else opens one, else sets the more flag (R13); that of
several such spans the first is extended is the model's choice (assumption 54).
A TIMING spoil of a cancel-requested order counts, and neither uses a reshoot nor owes the item nor ends the order there
(R79). The entry has its REDO flag for a REDO item (R78).
The STEP hold is made when STEP is on, the engine RUNNING, a visit open that is not held, and the firing complete: no firing
of its serial is in flight, and no frame record of it is left. The engine is then STOPPING with kind HOLD, and the visit
held with its resume record, of cause STEP, whose cut firing is each back's part of a firing that is not complete, the
later of two (R152 to R154; its serials and its memory are the model's, assumption 11). The outcome the resume record learns
is EXPOSED, SPOILED TIMING or SPOILED LAMP, on the back's part of that firing alone (R154). -/
def Obligations.AdvanceCompletion : Prop :=
  (∀ (n : Nat) (s : State),
    let complete (m : Nat) : Bool := s.timer.firing.all (fun f => f.serial != m) &&
      [Back.a, .b].all (fun k => (s.timer.frames.get k).all (fun f => f.serial != m))
    let holds : Prop := s.gate.engine = .running ∧ s.gate.stepMode = true ∧
      (∃ v, s.gate.visit = some v ∧ v.held = false) ∧ complete n = true
    (¬holds → stepHold n s = s) ∧
    (holds → stepHold n s = (s.setGate { s.gate with
      engine := .stopping, stopKind := some .hold, visit := s.gate.visit.map (fun v => { v with held := true }),
      resume := s.gate.resume.or (some { cause := .step, cutFiring := [Back.a, .b].filterMap (fun k =>
        (s.gate.fired.get k).find? (fun x => !complete x.serial)) }) }).setLabels
        { s.labels with labelWait := false })) ∧
  (∀ (n : Nat) (k : Back) (x : CutOutcome) (f : FrameRec) (m : Nat) (s : State),
    let learns (c : CutShot) : CutShot := if c.back = k ∧ c.serial = n then { c with outcome := x } else c
    let t := cutOutcome n k x s
    t = s.setGate { s.gate with resume := t.gate.resume, fired := t.gate.fired } ∧
    t.gate.resume = s.gate.resume.map (fun r => { r with cutFiring := r.cutFiring.map learns }) ∧
    t.gate.fired.get k = (s.gate.fired.get k).map learns ∧ t.gate.fired.get k.other = s.gate.fired.get k.other ∧
    frameOutcome f m = (if f.lampSpoiled then .spoiledLamp
      else if f.expected ≤ m + f.allowed ∧ m ≤ f.expected + f.allowed then .exposed else .spoiledTiming)) ∧
  (∀ (k : Back) (r : AdvanceResult) (x count m : Nat) (o : Outstanding) (s : State),
    (s.slot k.slot).outstanding = some o → o.exchange = x → o.cmd = .advance .frame 1 → o.issuer = .firing →
    1 ≤ count → count ≤ 255 → m < 16777216 →
    let t := s.setSlot k.slot { s.slot k.slot with outstanding := none }
    exec (.advanceCompletion k x r count m) s = .next (settle (sendNext k.slot (advanceDone k r count m t))) ∧
    (s.timer.frames.get k = none → advanceDone k r count m t =
      updVisit (fun v => { v with owed := v.owed.set k false }) t) ∧
    (∀ f film, s.timer.frames.get k = some f → (s.roll k).film = some film → 1 ≤ f.position →
      f.position ≤ film.map.length →
      let u := resolveFrame k f r count m t
      let expected := (s.roll k).counter + 1
      let limited := (s.order? f.item.order).any (fun w => w.state != .ending) &&
        (u.order? f.item.order).all (fun w => w.state == .ending)
      let told := if limited then raise .orderFault (drainReports u) else u
      advanceDone k r count m t =
        tryPrint (testVisit (stepHold f.serial (cutOutcome f.serial k (frameOutcome f m)
          (finishIfClosing k (completeCancels told))))) ∧
      (∀ w, f.lampSpoiled = false → ¬(f.expected ≤ m + f.allowed ∧ m ≤ f.expected + f.allowed) →
        s.order? f.item.order = some w → w.state ≠ .ending → w.cancelRequested = false →
        (s.settings.reshootLimit ≤ w.reshoots → limited = true ∧ (u.order? f.item.order).map (fun y => y.endKind) =
          some (some (.faulted .reshootLimit))) ∧
        (w.reshoots < s.settings.reshootLimit → limited = false ∧
          (u.order? f.item.order).map (fun y => (y.state, y.timingSpoils, y.reshoots, y.redo)) =
            some (w.state, w.timingSpoils + 1, w.reshoots + 1,
              if (f.item.copy, f.item.step) ∈ w.redo then w.redo else w.redo ++ [(f.item.copy, f.item.step)]) ∧
          ∀ v, s.gate.visit = some v → (s.roll k).state = .ready → v.dropped.get k = false → ∃ z, u.gate.visit = some z ∧
            z.lists.get k.other = v.lists.get k.other ∧
            z.lists.get k = if r = .ok ∧ count = expected ∧ expected ≠ film.frames + 1
              then { f.item with kind := .redo } :: v.lists.get k else [])) ∧
      (∀ w, f.lampSpoiled = false → ¬(f.expected ≤ m + f.allowed ∧ m ≤ f.expected + f.allowed) →
        s.order? f.item.order = some w → w.state ≠ .ending → w.cancelRequested = true →
        limited = false ∧ u.order? f.item.order = some { w with timingSpoils := w.timingSpoils + 1 }) ∧
      (let timing := f.lampSpoiled = false ∧ ¬(f.expected ≤ m + f.allowed ∧ m ≤ f.expected + f.allowed)
       let price := ((s.stock? film.stock).map (fun e => e.price)).getD 0
       ∃ y, u = (if s.gate.engine = .resetting then y else composeLabel k f.position y) ∧
         (timing → y.charge.house = { s.charge.house with
           charged := min 16777215 (s.charge.house.charged + price), spoiled := min 65535 (s.charge.house.spoiled + 1) }) ∧
         (¬timing → y.charge = s.charge)) ∧
      (∃ e, (u.roll k).entry? f.position = some e ∧ e.time = some f.time ∧ e.measured = some m ∧
        e.item = some (f.item.order, f.item.copy, f.item.step) ∧ e.clamp = f.clamp ∧
        (e.redo = true ↔ f.item.kind = .redo) ∧
        (e.state = .exposed ↔ f.lampSpoiled = false ∧ f.expected ≤ m + f.allowed ∧ m ≤ f.expected + f.allowed) ∧
        (e.state ≠ .exposed → e.state = .spoiled ∧ e.cause = some (if f.lampSpoiled then .lamp else .timing)) ∧
        (∀ w, e.state = .exposed → s.order? f.item.order = some w → w.state ≠ .ending →
          let joins (x : Span) : Prop := x.back = k ∧ x.rollId = f.rollId ∧ x.last + 1 = f.position
          let counted (spans : List Span) (more : Bool) : Prop :=
            (u.order? f.item.order).map (fun y => (y.goodFrames, y.spans, y.more)) = some (w.goodFrames + 1, spans, more)
          (∀ before x after, w.spans = before ++ x :: after → (∀ y ∈ before, ¬joins y) → joins x →
            counted (before ++ { x with last := f.position } :: after) w.more) ∧
          ((∀ x ∈ w.spans, ¬joins x) → w.spans.length < 8 →
            counted (w.spans ++ [{ back := k, rollId := f.rollId, first := f.position, last := f.position }]) w.more) ∧
          ((∀ x ∈ w.spans, ¬joins x) → 8 ≤ w.spans.length → counted w.spans true)) ∧
        u.charge.house.spoiled = (if e.cause = some .timing then min 65535 (s.charge.house.spoiled + 1)
          else s.charge.house.spoiled)) ∧
      (u.roll k).counter = expected ∧ (u.roll k).lastCount = some count ∧ u.timer.frames.get k = none ∧
      (∀ v, u.gate.visit = some v → v.owed.get k = false) ∧ u.roll k.other = s.roll k.other ∧
      (r = .filmEnd → (u.roll k).state = .closing ∧ (u.roll k).closeCause = some .filmEnd) ∧
      (r = .ok → count = expected → expected = film.frames + 1 →
        (u.roll k).state = .closing ∧ (u.roll k).closeCause = some .full) ∧
      (r = .ok → count = expected → expected ≠ film.frames + 1 → (u.roll k).state = (s.roll k).state) ∧
      (r = .ok → count ≠ expected → (u.roll k).state = .suspect ∧
        (s.gate.engine ≠ .faulted → s.gate.engine ≠ .resetting → ∃ g, u.events.current = some g ∧
          g.kind = .countMismatch ∧ g.order = some f.item.order ∧ g.back = some k ∧ g.position = some f.position))))

/-- The AUTO leader advance and the blanking advance complete. In each row leader remaining becomes 0 and the count is
recorded: OK at count 1 makes a LEADER roll READY; FILM-END closes it with that cause, its counter and map as they were,
its report composed and ROLL-CLOSED raised; another count makes it SUSPECT with COUNT-MISMATCH (R90, R95). A blanking
records its count without a check, and the close goes on to its report and ROLL-CLOSED (R95, R97). With the engine RESETTING
a closing roll is CLOSED at once, with no report and no flag (R106). The ROLL REPORT holds the roll record and the numbers of
its entries in each state and with each flag (R98). The other back's roll is as it was, and the report of a roll that closes
enters the report queue with a slot free (R192). -/
def Obligations.LeaderAndBlankingCompletions : Prop :=
  ∀ (k : Back) (x count : Nat) (r : AdvanceResult) (o : Outstanding) (s : State),
    (s.slot k.slot).outstanding = some o → o.exchange = x → o.cmd.name = .advance → 1 ≤ count → count ≤ 255 →
    let t := s.setSlot k.slot { s.slot k.slot with outstanding := none }
    (o.issuer = .leader →
      exec (.leaderCompletion k x r count) s =
        .next (settle (sendNext k.slot (testReturning (drainReports (leaderDone k r count t))))) ∧
      (r = .ok → count = 1 →
        leaderDone k r count t =
          t.setRoll k { s.roll k with state := .ready, leaderRemaining := 0, lastCount := some 1 }) ∧
      ((leaderDone k r count t).roll k.other = s.roll k.other) ∧
      (r = .filmEnd →
        let closed : Roll := { s.roll k with
          state := .closing, closeCause := some .filmEnd, leaderRemaining := 0, lastCount := some count, passThrough := .idle }
        (s.gate.engine ≠ .resetting → hasFlag (leaderDone k r count t).events.flags .rollClosed = true ∧
          (leaderDone k r count t).roll k = { closed with report := some (s.link.clock, closed.rollReport k .filmEnd) }) ∧
        (s.gate.engine = .resetting → (leaderDone k r count t).events = s.events ∧
          (leaderDone k r count t).roll k = { closed with state := .closed })) ∧
      (r = .ok → count ≠ 1 →
        (leaderDone k r count t).roll k = { s.roll k with
          state := .suspect, leaderRemaining := 0, lastCount := some count, passThrough := .idle } ∧
        (s.gate.engine ≠ .faulted → s.gate.engine ≠ .resetting → ∃ g, (leaderDone k r count t).events.current = some g ∧
          g.kind = .countMismatch ∧ g.unit = faultUnit k.slot ∧ g.back = some k ∧ g.order = none ∧ g.position = none) ∧
        (s.gate.engine = .faulted → s.events.pendingFault = none → ∃ g,
          (leaderDone k r count t).events.pendingFault = some g ∧ g.kind = .countMismatch ∧ g.back = some k))) ∧
    (o.issuer = .blanking →
      let counted : Roll := { s.roll k with lastCount := some count }
      let v := finishClose k (t.setRoll k counted)
      exec (.blankingCompletion k x r count) s = .next (settle (sendNext k.slot (drainReports v))) ∧
      v.roll k.other = s.roll k.other ∧
      (∀ cause, s.gate.engine ≠ .resetting → (s.roll k).closeCause = some cause →
        hasFlag v.events.flags .rollClosed = true ∧
        v.roll k = { counted with report := some (s.link.clock, counted.rollReport k cause) }) ∧
      (s.gate.engine = .resetting → v.events = s.events ∧ v.roll k = { counted with state := .closed })) ∧
    (∀ (y : Roll) (film : Film) (cause : CloseCause), y.film = some film →
      let number (holds : MapEntry → Bool) : Nat := (film.map.filter holds).length
      y.rollReport k cause =
        { back := k, rollId := film.rollId, stock := film.stock, frames := film.frames, cause := cause,
          counter := y.counter, lastCount := y.lastCount, cut := y.cut,
          unused := number (fun e => e.state == .unused), exposed := number (fun e => e.state == .exposed),
          spoiled := number (fun e => e.state == .spoiled), blank := number (fun e => e.state == .blank),
          fogged := number (fun e => e.state == .fogged), short := number (fun e => e.clamp == .short),
          long := number (fun e => e.clamp == .long), unlabeled := number (fun e => e.unlabeled) })

/-- A pass-through advance, a READ COUNT of RESYNC ROLL and a forwarded command complete: the roll takes the
completion, and the reply that was waited for joins the queue in place of its reservation (R100, R180, R183, R187). A
pass-through advance OK at count 1 lowers the leader remaining, and at none left makes the roll READY; at another count it
makes the roll SUSPECT with COUNT-MISMATCH; FILM-END closes the roll (R183). A count of RESYNC ROLL that is ahead is adopted:
the positions passed over become BLANK, charged to the house account but for the cut position, and at the end of the roll
or beyond it the roll closes FULL (R100). The report of a roll that closes enters the report queue with a slot free (R192),
and the reply, which joins after the flags and reports of its completion, names CLOSING (the model's choices, assumption 8).
A forwarded READ COUNT records the count as the back's last back count in LEADER, READY, SUSPECT, CLOSING and CLOSED and in
no other state, and changes neither the counter nor the state; a forwarded TEST SHUTTER, and a forwarded feeder, meter or
printer command, changes nothing but the reply (R180; the printer is then tried, R124). A PRINT of the Label Composer completes: OK takes the head
record off the label queue, OUT leaves it, makes the printer OUT and raises PRINTER-OUT; then the printer is tried (R124,
R125). -/
def Obligations.DeferredAndPrintCompletions : Prop :=
  (∀ (u : UnitSlot) (k : Back) (x n count : Nat) (r : AdvanceResult) (d : DirectResult) (tag : Byte) (o : Outstanding)
       (s : State),
     (s.slot u).outstanding = some o → o.exchange = x → 1 ≤ count → count ≤ 255 →
     let t := s.setSlot u { s.slot u with outstanding := none }
     (u = k.slot → o.cmd = .advance .leader n → o.issuer = .direct (some tag) → (s.roll k).state = .leader →
       let v := passThroughDone k n r count t
       let w := drainReports v
       exec (.passThroughCompletion k x r count) s = .next (settle (sendNext u (testReturning
         (addReply { cls := 2#8, tag := tag, command := 0x30, result := .ok,
                     data := .passThrough r count (v.roll k).leaderRemaining (v.roll k).state }
           (w.setLink { w.link with reserved := w.link.reserved - 1 }))))) ∧
       (v.roll k).lastCount = some count ∧ v.roll k.other = s.roll k.other ∧
       (r = .ok → (v.roll k).leaderRemaining = (s.roll k).leaderRemaining - n) ∧
       (r = .ok → count = 1 → (s.roll k).leaderRemaining = n → (v.roll k).state = .ready ∧
         (v.roll k).passThrough = .idle ∧ hasFlag v.events.flags .passEnd = true) ∧
       (r = .ok → count = 1 → n < (s.roll k).leaderRemaining → (v.roll k).state = .leader ∧
         (v.roll k).passThrough = (s.roll k).passThrough ∧ v.events = s.events) ∧
       (r = .ok → count ≠ 1 → (v.roll k).state = .suspect ∧ (v.roll k).passThrough = .idle ∧
         (s.gate.engine ≠ .faulted → s.gate.engine ≠ .resetting → ∃ g, v.events.current = some g ∧
           g.kind = .countMismatch ∧ g.unit = faultUnit k.slot ∧ g.back = some k ∧ g.order = none ∧ g.position = none)) ∧
       (r = .filmEnd → (v.roll k).leaderRemaining = 0 ∧ (v.roll k).closeCause = some .filmEnd ∧
         (v.roll k).passThrough = .idle ∧ (s.gate.engine ≠ .resetting → (v.roll k).state = .closing ∧
           (v.roll k).report.isSome = true ∧ hasFlag v.events.flags .rollClosed = true))) ∧
     (u = k.slot → o.issuer = .resync (some tag) → count ≤ (s.roll k).counter →
       exec (.readCountCompletion k x count) s = .next (settle (sendNext u (testReturning
         (addReply { cls := 3#8, tag := tag, command := 19, result := .refused .notAhead, data := .count count }
           ((t.setRoll k { s.roll k with lastCount := some count }).setLink
             { s.link with reserved := s.link.reserved - 1 })))))) ∧
     (u = k.slot → o.issuer = .resync (some tag) → (s.roll k).counter < count → count ≤ (s.roll k).frames →
       let v := adoptCount k count (t.setRoll k { s.roll k with lastCount := some count })
       let w := drainReports v
       exec (.readCountCompletion k x count) s = .next (settle (sendNext u (testReturning
         (addReply { cls := 3#8, tag := tag, command := 19, result := .ok, data := .resynced count .ready }
           (w.setLink { w.link with reserved := w.link.reserved - 1 }))))) ∧
       (v.roll k).state = .ready ∧ (v.roll k).counter = count ∧ (v.roll k).cut = none ∧
       ∀ p e, (s.roll k).entry? p = some e → (v.roll k).entry? p =
         some (if (s.roll k).counter ≤ p ∧ p < count then { MapEntry.fresh with state := .blank } else e)) ∧
     (u = k.slot → o.issuer = .resync (some tag) → (s.roll k).counter < count → (s.roll k).frames < count →
       let v := adoptCount k count (t.setRoll k { s.roll k with lastCount := some count })
       let w := drainReports v
       exec (.readCountCompletion k x count) s = .next (settle (sendNext u (testReturning
         (addReply { cls := 3#8, tag := tag, command := 19, result := .ok, data := .resynced count .closing }
           (w.setLink { w.link with reserved := w.link.reserved - 1 }))))) ∧
       (v.roll k).counter = (s.roll k).frames + 1 ∧ (v.roll k).cut = none ∧ (v.roll k).closeCause = some .full ∧
       (s.gate.engine ≠ .resetting → (v.roll k).state = .closing ∧ (v.roll k).report.isSome = true ∧
         hasFlag v.events.flags .rollClosed = true) ∧
       ∀ p e, (s.roll k).entry? p = some e → (v.roll k).entry? p =
         some (if (s.roll k).counter ≤ p ∧ p ≤ (s.roll k).frames then { MapEntry.fresh with state := .blank } else e)) ∧
     ((s.roll k).counter < count →
       let blanked := (List.range' (s.roll k).counter (min count ((s.roll k).frames + 1) - (s.roll k).counter)).filter
         (fun p => (s.roll k).cut != some p)
       let price := (((s.roll k).film.bind (fun f => s.stock? f.stock)).map (fun e => e.price)).getD 0
       (adoptCount k count (t.setRoll k { s.roll k with lastCount := some count })).charge =
         { s.charge with house := { s.charge.house with
           charged := min 16777215 (s.charge.house.charged + blanked.length * price)
           blank := min 65535 (s.charge.house.blank + blanked.length) } }) ∧
     (o.issuer = .direct (some tag) → o.cmd.name = resultName d → d.fits = true →
       let leaves (v : State) : Prop := exec (.directCompletion u x d) s = .next (settle (sendNext u (tryPrint
         (addReply { cls := 2#8, tag := tag, command := o.cmd.name.code, result := .ok, data := .unitResult d }
           (v.setLink { s.link with reserved := s.link.reserved - 1 })))))
       let counted : Prop := (s.roll k).state = .leader ∨ (s.roll k).state = .ready ∨ (s.roll k).state = .suspect ∨
         (s.roll k).state = .closing ∨ (s.roll k).state = .closed
       (∀ c, u = k.slot → d = .readCount c → counted → leaves (t.setRoll k { s.roll k with lastCount := some c })) ∧
       (∀ c, u = k.slot → d = .readCount c → ¬counted → leaves t) ∧
       ((∀ c, d ≠ .readCount c) ∨ (∀ j : Back, u ≠ j.slot) → leaves t))) ∧
  (∀ (x : Nat) (o : Outstanding) (s : State), (s.slot .printer).outstanding = some o → o.exchange = x →
     o.cmd.name = .print → o.issuer = .label →
     let t := s.setSlot .printer { s.slot .printer with outstanding := none }
     (s.labels.printing = true →
       exec (.printCompletion x .ok) s = .next (settle (sendNext .printer (tryPrint (testVisit
         (t.setLabels { s.labels with queue := s.labels.queue.tail, printing := false })))))) ∧
     exec (.printCompletion x .out) s = .next (settle (sendNext .printer (tryPrint (printDone .out t)))) ∧
     (printDone .out t).labels = { s.labels with printing := false } ∧
     (printDone .out t).bus.printer.printer = some .out ∧
     hasFlag (printDone .out t).events.flags .printerOut = true)

/-- A DETACHING answer is the loss of its back's slot. A slot lost has its change flag set, no command left on it and
UNIT-CHANGE raised; a feeder's magazine and a printer's state go, a visit open faults UNIT-LOST with the feeder, and a back
goes to NO-BACK or its roll is LOST (R87, R101, R171, R172, R174, R176). The expiry of a command's timeout makes the slot
ABSENT in the same way, answers a DIRECT frame or a RESYNC ROLL that waited REFUSED UNIT-TIMEOUT, a reply that joins the
tail of the reply queue and begins its sending when that may begin (R187, R193), and raises UNIT-TIMEOUT;
a back's roll becomes SUSPECT with its cut position, or its back NO-BACK; a metering phase in progress is cut (R53, R81,
R87, R94, R175, R180). The commands that wait are withdrawn in their order: a DIRECT frame is answered ABSENT, each reply in
place of its reservation; at a timeout a withdrawn ADVANCE 1 after a firing is cut, a leader advance makes the roll SUSPECT,
and with a blanking advance the close goes on to its report, as R176 is read (assumption 17), an advance withdrawn unsent being
cut at the position of its own frame (assumption 29), and the report entering before R87 is applied to the back, a full
report queue leaving the roll CLOSING (assumption 18); at a loss the roll takes
them (R101, R176, R187). A READ COUNT
of RESYNC ROLL is answered REFUSED NO-UNIT at a loss (R100, R174). That at a loss the reply to the outstanding command comes
first, and then those to the waiting ones, is the model's choice (assumption 52), and that a firing losing its last back
ends before the fault too (assumption 47). A back in the firing leaves it; the last one to leave ends it, before the fault is raised, so that no
firing is cut by the hold (R83, R154, R175). A frame cut at a timeout, of an ADVANCE 1 after a firing or of another command
to a back in the firing, is owed again by its order, QUEUED or ACTIVE and not cancel-requested, without a reshoot, and
charged to the house account, where it was PENDING (R81, R83, R138); cancels end after the fault is raised, the model's
choice (assumption 47). UNIT-TIMEOUT names the back, the order and cut position of the frame of an ADVANCE 1, the
visit's position for its LOAD or RETURN, and the state of the visit (R156). The timeout of an outstanding leader advance makes
a LEADER roll SUSPECT with its leader remaining, that of a blanking advance has the close go on with the last back count as it
was, and that of a READ COUNT of RESYNC ROLL leaves the roll SUSPECT (R94, R97). The loss of the meter's slot raises
UNIT-LOST while the open visit is METERING, or LOADING with a member that is not FIXED, and cuts the phase; else it does
nothing beyond the slot (R41, R53, R156). -/
def Obligations.UnitsLost : Prop :=
  let lostReply (c : Issued) : Option Reply :=
    match c.issuer with
    | .direct (some tag) => some { cls := 2#8, tag := tag, command := c.cmd.name.code, result := .absent, data := .none }
    | .resync (some tag) => some { cls := 3#8, tag := tag, command := 19, result := .refused .noUnit, data := .none }
    | _ => none
  let timedReply (o : Outstanding) : List Reply :=
    match o.issuer with
    | .direct (some tag) =>
      [{ cls := 2#8, tag := tag, command := o.cmd.name.code, result := .refused .unitTimeout, data := .none }]
    | .resync (some tag) => [{ cls := 3#8, tag := tag, command := 19, result := .refused .unitTimeout, data := .none }]
    | _ => []
  let cutHouse (k : Back) (s : State) : House :=
    let price := (((s.roll k).film.map (fun f => f.stock)).bind s.stock?).elim 0 (fun e => e.price)
    { s.charge.house with charged := min 16777215 (s.charge.house.charged + price)
                          cut := min 65535 (s.charge.house.cut + 1) }
  let owed (w : WorkItem) (q : Queue) : Queue := { q with orders := q.orders.map (fun o =>
    if o.number = w.order ∧ o.state ≠ .ending ∧ o.cancelRequested = false ∧ (w.copy, w.step) ∉ o.redo then
      { o with redo := o.redo ++ [(w.copy, w.step)] } else o) }
  (∀ (k : Back) (o : Outstanding) (s : State), (s.slot k.slot).outstanding = some o →
    exec (.detachingAnswer k o.exchange) s = .next (settle (slotLost k.slot .absent s))) ∧
  (∀ (u : UnitSlot) (x : SlotState) (s : State),
    let t := slotLost u x s
    (t.slot u).state = x ∧ (t.slot u).changed = true ∧ (t.slot u).outstanding = none ∧ (t.slot u).waiting = [] ∧
    hasFlag t.events.flags .unitChange = true ∧
    (s.link.sending.isSome = true ∨ s.link.deskReady = false →
      let replies := ((s.slot u).outstanding.toList.map (fun o => (⟨o.cmd, o.issuer⟩ : Issued)) ++
        (s.slot u).waiting).filterMap lostReply
      t.link.replies = s.link.replies ++ replies ∧ t.link.reserved = s.link.reserved - replies.length) ∧
    (u = .feeder → t.bus.feeder.magazine = none ∧
      (s.gate.visit.isSome = true → s.gate.engine ≠ .faulted → s.gate.engine ≠ .resetting →
        ∃ g, t.events.current = some g ∧ g.kind = .unitLost ∧ g.unit = .feeder)) ∧
    (u = .printer → t.bus.printer.printer = none) ∧
    (∀ k : Back, u = k.slot →
      ((s.roll k).state = .unloaded ∨ (s.roll k).state = .closed → (t.roll k).state = .noBack) ∧
      ((s.roll k).state = .leader ∨ (s.roll k).state = .ready ∨ (s.roll k).state = .suspect ∨
        (s.roll k).state = .closing → (t.roll k).state = .lost)) ∧
    (u = .meter →
      let due (v : Visit) : Prop := v.state = .metering ∨
        v.state = .loading ∧ ∃ m ∈ v.members, ∃ o, s.order? m.order = some o ∧ o.mode ≠ .fixed
      let lost (v : Visit) : FaultRec := { kind := .unitLost, unit := .meter, order := none, back := none,
                                           position := some v.position, visit := some v.state }
      (∀ v, s.gate.visit = some v → due v →
        (s.gate.engine ≠ .faulted → s.gate.engine ≠ .resetting →
          t.events.current = some (lost v) ∧ t.gate.engine = .faulted) ∧
        (s.gate.engine = .faulted → s.events.pendingFault = none → t.events.pendingFault = some (lost v)) ∧
        ∃ w, t.gate.visit = some w ∧ w.state = v.state ∧
          (v.metering = true → w.metering = false ∧ w.zones = [] ∧ w.rereads = [] ∧ t.timer.lamp = false)) ∧
      ((∀ v, s.gate.visit = some v → ¬due v) → t.gate = s.gate ∧ t.timer = s.timer ∧
        t.events.current = s.events.current ∧ t.events.pendingFault = s.events.pendingFault))) ∧
  (∀ (u : UnitSlot) (o : Outstanding) (s : State), (s.slot u).outstanding = some o →
    (∀ k, u = k.slot → s.shot? k = none) →
    let t := commandTimeout u o s
    exec (.unitCommandTimeout u) s = .next (settle t) ∧
    (t.slot u).state = .absent ∧ (t.slot u).changed = true ∧ (t.slot u).outstanding = none ∧ (t.slot u).waiting = [] ∧
    hasFlag t.events.flags .unitChange = true ∧
    (let frame := if o.issuer = .firing then u.back.bind (fun k => s.timer.frames.get k) else none
     let fault : FaultRec :=
       { kind := .unitTimeout, unit := faultUnit u, order := frame.map (fun f => f.item.order), back := u.back,
         position := if u = .feeder ∧ o.issuer = .visit then s.gate.visit.map (fun v => v.position)
           else frame.map (fun f => f.position),
         visit := s.gate.visit.map (fun v => v.state) }
     (s.gate.engine ≠ .faulted → s.gate.engine ≠ .resetting → t.events.current = some fault) ∧
     (s.gate.engine = .faulted → s.events.pendingFault = none → t.events.pendingFault = some fault) ∧
     t = testReturning (u.back.elim (completeCancels (raiseFault fault (timedOut u o s)))
       (fun k => stepAfterFrame (s.timer.frames.get k) (completeCancels (raiseFault fault (timedOut u o s)))))) ∧
    (∀ (r : Reply) (tag : Byte), r.tag = tag → r.result = .refused .unitTimeout → r.data = .none →
        (o.issuer = .direct (some tag) ∧ r.cls = 2#8 ∧ r.command = o.cmd.name.code ∨
          o.issuer = .resync (some tag) ∧ r.cls = 3#8 ∧ r.command = 19) →
      ((s.link.sending.isSome = true ∨ s.link.deskReady = false) →
        ∃ rest, t.link.replies = s.link.replies ++ r :: rest) ∧
      (s.link.sending = none → s.link.deskReady = true → ∃ x held rest, s.link.replies ++ [r] = x :: held ∧
        t.link.sending = some (.reply x) ∧ t.link.replies = held ++ rest)) ∧
    (s.link.sending.isSome = true ∨ s.link.deskReady = false →
      let replies := timedReply o ++ (s.slot u).waiting.filterMap lostReply
      t.link.replies = s.link.replies ++ replies ∧ t.link.reserved = s.link.reserved - replies.length) ∧
    (∀ k c, u = k.slot → (s.slot u).waiting = [c] → o.issuer.isDirect = true →
      (∀ f, c.issuer = .firing → (s.roll k).state = .ready → s.timer.frames.get k = some f →
        (t.roll k).state = .suspect ∧ (t.roll k).cut = some f.position ∧ t.timer.frames.get k = none ∧
        ∀ v, t.gate.visit = some v → v.owed.get k = false) ∧
      (c.issuer = .leader → (s.roll k).state = .leader →
        (t.roll k).state = .suspect ∧ (t.roll k).leaderRemaining = (s.roll k).leaderRemaining) ∧
      (c.issuer = .blanking → (s.roll k).state = .closing → s.gate.engine ≠ .resetting →
        hasFlag t.events.flags .rollClosed = true ∧
        ((t.roll k).state = .closing ∧ (t.roll k).report.isSome = true ∨
          (t.roll k).state = .noBack ∧ (t.roll k).report = none))) ∧
    (u = .feeder → t.bus.feeder.magazine = none) ∧ (u = .printer → t.bus.printer.printer = none) ∧
    (∀ v, u = .meter → s.gate.visit = some v → v.metering = true → t.timer.lamp = false ∧
      ∀ w, t.gate.visit = some w → w.metering = false ∧ w.zones = []) ∧
    (∀ k, u = k.slot → (s.slot u).waiting = [] →
      (∀ f, o.issuer = .firing → (s.roll k).state = .ready → s.timer.frames.get k = some f →
        (t.roll k).state = .suspect ∧ (t.roll k).cut = some f.position ∧ t.timer.frames.get k = none) ∧
      (∀ f, o.issuer = .firing → s.timer.frames.get k = some f →
        t.charge.house = (if f.lampSpoiled then s.charge.house else cutHouse k s) ∧
        (timedOut u o s).queue = if f.lampSpoiled then s.queue else owed f.item s.queue) ∧
      (o.issuer = .leader → (s.roll k).state = .leader →
        (t.roll k).state = .suspect ∧ (t.roll k).leaderRemaining = (s.roll k).leaderRemaining) ∧
      (o.issuer = .blanking → (s.roll k).state = .closing → s.gate.engine ≠ .resetting →
        hasFlag t.events.flags .rollClosed = true ∧ (t.roll k).lastCount = (s.roll k).lastCount ∧
        (t.roll k).film = (s.roll k).film ∧
        ((t.roll k).state = .closing ∧ (t.roll k).report.isSome = true ∨
          (t.roll k).state = .noBack ∧ (t.roll k).report = none)) ∧
      (∀ tag, o.issuer = .resync tag → (s.roll k).state = .suspect →
        t.roll k = { s.roll k with report := (t.roll k).report }) ∧
      (∀ tag, o.issuer = .direct tag →
        ((s.roll k).state = .leader ∨ (s.roll k).state = .ready → (t.roll k).state = .suspect) ∧
        ((s.roll k).state = .unloaded ∨ (s.roll k).state = .closed → (t.roll k).state = .noBack)))) ∧
  (∀ (k : Back) (tag : Option Byte) (y : Shot) (o : Outstanding) (s : State),
    (s.slot k.slot).outstanding = some o → (s.slot k.slot).waiting = [] → o.issuer = .direct tag →
    (s.roll k).state = .ready → s.shot? k = some y →
    let t := commandTimeout k.slot o s
    exec (.unitCommandTimeout k.slot) s = .next (settle t) ∧ (t.roll k).state = .suspect ∧
    (t.roll k).cut = some y.position ∧ t.shot? k = none ∧
    (timedOut k.slot o s).queue = owed y.item s.queue ∧ (timedOut k.slot o s).charge.house = cutHouse k s ∧
    (s.gate.engine ≠ .faulted → s.gate.engine ≠ .resetting → t.events.current = some
      { kind := .unitTimeout, unit := faultUnit k.slot, order := none, back := some k, position := none,
        visit := s.gate.visit.map (fun v => v.state) }) ∧
    (s.shot? k.other = none → s.timer.frames = ⟨none, none⟩ → s.gate.resume = none → t.timer.firing = none ∧
      t.timer.lamp = false ∧ ∀ r, t.gate.resume = some r → r.cutFiring = []))

/-! ## Firings (R70 to R75) -/

/-- The events of a firing: LAMP rises at P and the firing is LIT at once with LAMP SENSE active; the sense lights a
firing in LAMP-RISING; the shutters whose time it is fall together at their time, LAMP with the last; the fall of LAMP
ends a LIT firing and aborts another; the sense deadline aborts LAMP-RISING, and the fall of the sense aborts LIT (R70 to
R75). A change of LAMP SENSE that is not watched for only sets the line's state: becoming active in another phase than
LAMP-RISING, becoming inactive in another than LIT, and either with no firing in flight (R72 to R74). A sense deadline found
in LIT has nothing to judge (R73), and an expiry that the firing does not await has no effect (assumption 6). At the end or
abort of a firing every line is low, the exposure timer is stopped, and each included back has its
frame record, its expected time P plus its time and its allowance the larger of the tolerance and 5; an abort raises
LAMP-FAIL for the first included back (R72, R75, R76, R156). At an abort the order of each included back's frame, QUEUED or
ACTIVE, counts a LAMP spoil and, not cancel-requested, is owed the item, a REDO item heads the back's list while it is in
force, and the house account is charged one frame of each such back's stock (R75 steps 2 and 3, R80). That an event of the timer stands for the counts up to it,
and that the count is the one of the last event, are the model's choices (assumption 6). -/
def Obligations.FiringsAndTheirLines : Prop :=
  (∀ (f : Firing) (k : Back) (x : Shot) (s : State), s.timer.firing = some f →
     (f.phase = .opening → exec .lampRiseExpiry s = .next (settle (s.setTimer { s.timer with
       lamp := true, count := some f.preOpen,
       firing := some { f with phase := if s.timer.lampSense then .lit else .lampRising } }))) ∧
     (f.phase ≠ .opening → f.shots.get k = some x → x.shutter = .open_ →
       let due (y : Shot) : Bool := y.shutter == .open_ && y.time == x.time
       let falls (j : Back) : Bool := (f.shots.get j).any due
       let after (j : Back) : Option Shot := (f.shots.get j).map (fun y => if due y then { y with shutter := .closed } else y)
       (f.preOpen + x.time ≠ f.lampFall → f.preOpen + x.time ≠ f.deadline ∨ f.phase = .lit →
         exec (.shutterFallExpiry k) s = .next (settle (s.setTimer { s.timer with
           count := some (f.preOpen + x.time)
           shutters := ⟨s.timer.shutters.a && !falls .a, s.timer.shutters.b && !falls .b⟩
           firing := some { f with shots := ⟨after .a, after .b⟩ } }))) ∧
       (f.preOpen + x.time = f.lampFall → exec (.shutterFallExpiry k) s = exec .lampFallExpiry s) ∧
       (f.preOpen + x.time = f.deadline → exec (.shutterFallExpiry k) s = exec .senseDeadlineExpiry s)) ∧
     (f.phase = .lit → exec .lampFallExpiry s = .next (settle (endFiring s))) ∧
     (f.phase = .lampRising → exec .lampFallExpiry s = .next (settle (abortFiring s))) ∧
     (f.phase = .lampRising → exec .senseDeadlineExpiry s = .next (settle (abortFiring s))) ∧
     (f.phase = .lampRising → exec .lampSenseActive s = .next (settle (s.setTimer { s.timer with
       lampSense := true, firing := some { f with phase := .lit } }))) ∧
     (f.phase = .lit →
       exec .lampSenseInactive s = .next (settle (abortFiring (s.setTimer { s.timer with lampSense := false })))) ∧
     (f.phase ≠ .lampRising → exec .lampSenseActive s = .next (s.setTimer { s.timer with lampSense := true })) ∧
     (f.phase ≠ .lit → exec .lampSenseInactive s = .next (s.setTimer { s.timer with lampSense := false })) ∧
     (f.phase = .lit → f.deadline ≠ f.lampFall →
       (∀ j y, f.shots.get j = some y → y.shutter = .open_ → f.preOpen + y.time ≠ f.deadline) →
       exec .senseDeadlineExpiry s = .next (settle (s.setTimer { s.timer with count := some f.deadline }))) ∧
     (f.phase ≠ .opening → exec .lampRiseExpiry s = .next s) ∧
     ((f.phase = .opening ∨ ∀ y, f.shots.get k = some y → y.shutter ≠ .open_) →
       exec (.shutterFallExpiry k) s = .next s) ∧
     (f.phase = .opening → exec .lampFallExpiry s = .next s ∧ exec .senseDeadlineExpiry s = .next s)) ∧
  (∀ (k : Back) (s : State), s.timer.firing = none →
     exec .lampSenseActive s = .next (s.setTimer { s.timer with lampSense := true }) ∧
     exec .lampSenseInactive s = .next (s.setTimer { s.timer with lampSense := false }) ∧
     exec .lampRiseExpiry s = .next s ∧ exec (.shutterFallExpiry k) s = .next s ∧ exec .lampFallExpiry s = .next s ∧
     exec .senseDeadlineExpiry s = .next s) ∧
  (∀ (f : Firing) (k : Back) (x : Shot) (s : State), s.timer.firing = some f → s.shot? k = some x →
     let frame (lamp : Bool) : FrameRec :=
       { serial := f.serial, rollId := x.rollId, position := x.position, item := x.item, time := x.time, clamp := x.clamp,
         expected := f.preOpen + x.time, allowed := max ((f.preOpen + x.time) * f.tolerance / 100) 5, lampSpoiled := lamp }
     let t := dropLines (framesAfter s f false) s
     let u := abortFiring s
     endFiring s = testVisit (oweAdvances (includedBacks s) t) ∧
     t.timer.lamp = false ∧ t.timer.shutters = ⟨false, false⟩ ∧ t.timer.count = none ∧ t.timer.firing = none ∧
     t.timer.frames.get k = some (frame false) ∧
     u.timer.lamp = false ∧ u.timer.shutters = ⟨false, false⟩ ∧ u.timer.count = none ∧ u.timer.firing = none ∧
     u.timer.frames.get k = some (frame true) ∧ u.gate.engine ≠ .running ∧
     (∀ v, u.gate.visit = some v → v.owed.get k = true ∨ v.state ≠ .exposing) ∧
     (let told (j : Back) (o : Order) : Order := (s.shot? j).elim o (fun y =>
        if y.item.order = o.number ∧ o.state ≠ .ending then
          { o with lampSpoils := min 255 (o.lampSpoils + 1)
                   redo := if o.cancelRequested = true ∨ (y.item.copy, y.item.step) ∈ o.redo then o.redo
                           else o.redo ++ [(y.item.copy, y.item.step)] }
        else o)
      let cost (j : Back) : Nat := if (s.shot? j).isSome then s.framePrice j else 0
      let spoils : Nat := (if (s.shot? .a).isSome then 1 else 0) + (if (s.shot? .b).isSome then 1 else 0)
      (∀ n o, s.order? n = some o → u.order? n = some (told .b (told .a o))) ∧
      u.charge = { s.charge with house := { s.charge.house with
        charged := min 16777215 (s.charge.house.charged + cost .a + cost .b)
        spoiled := min 65535 (s.charge.house.spoiled + spoils) } } ∧
      ∀ v, s.gate.visit = some v → v.state = .exposing → ∃ z, u.gate.visit = some z ∧
        (∀ o, s.order? x.item.order = some o → o.state ≠ .ending → o.cancelRequested = false → v.dropped.get k = false →
          z.lists.get k = { x.item with kind := .redo } :: v.lists.get k) ∧
        ((s.order? x.item.order).all (fun o => o.state == .ending || o.cancelRequested || v.dropped.get k) = true →
          z.lists.get k = v.lists.get k)) ∧
     (∀ j, s.framePrice j = (((s.roll j).stock?.bind s.stock?).map (fun e => e.price)).getD 0) ∧
     (s.gate.engine ≠ .faulted → s.gate.engine ≠ .resetting → u.gate.engine = .faulted ∧
       ∃ g, u.events.current = some g ∧ g.kind = .lampFail ∧ g.unit = .lamp ∧
         (k = .a ∨ s.shot? .a = none →
           g.back = some k ∧ g.order = some x.item.order ∧ g.position = some x.position)))

/-! ## Exposure arithmetic (R54, R56 to R62) -/

/-- Every commanded time lies between the floor and the ceiling, SHORT at the floor and LONG at the ceiling exactly
when it was clamped (R62). The time of an index of q stops and f tenths: the base time doubled q times, or halved
with halves up, not formed above 7 and 0 below -16; the index past the knee rises by its slope, floored (R58 to R61).
The raw index is the density in tenths of a stop, the third of the density + 1 floored, less the speed, with the offset, the
correction and the calibration added (R57). The time of a step of an order on a back is that of its density used, the stock
its roll carries, the offset of the step in the order's pattern snapshot, and its correction (R56).
The effective density of an order is by its mode: AVERAGE the mean of the valid zones, OVER counted as 400, rounded half up;
CENTRE the mean with a valid zone 5 counted four times and each other valid zone once, and as AVERAGE with zone 5 FAILED;
SPOT the value of a valid zone 5; FIXED the order's fixed density (R48, R54). With a valid zone the means lie between the
least and the greatest of them. -/
def Obligations.ExposureArithmetic : Prop :=
  (∀ (x : Settings) (e : StockEntry) (de : Nat) (offset correction : Int), x.floor ≤ x.ceiling →
     let index := correctedIndex (rawIndex de e.speed offset correction x.calibration) e.knee e.slope
     let t := exposureTime x e de offset correction
     x.floor ≤ t.1 ∧ t.1 ≤ x.ceiling ∧
     (unclampedTime x.tref index = none → t = (x.ceiling, .long)) ∧
     (∀ n, unclampedTime x.tref index = some n →
       (n < x.floor → t = (x.floor, .short)) ∧ (x.ceiling < n → t = (x.ceiling, .long)) ∧
       (x.floor ≤ n → n ≤ x.ceiling → t = (n, .none)))) ∧
  (∀ (tref f n slope : Nat) (x knee : Int), f < 10 →
     let base := (tref * [1000, 1072, 1149, 1231, 1320, 1414, 1516, 1625, 1741, 1866].getD f 0 + 500) / 1000
     (n ≤ 7 → unclampedTime tref (10 * n + f) = some (base * 2 ^ n)) ∧
     (8 ≤ n → unclampedTime tref (10 * n + f) = none) ∧
     (1 ≤ n → n ≤ 16 → ∃ t, unclampedTime tref (f - 10 * n) = some t ∧
       2 * base < 2 * t * 2 ^ n + 2 ^ n ∧ 2 * t * 2 ^ n ≤ 2 * base + 2 ^ n) ∧
     (17 ≤ n → unclampedTime tref (f - 10 * n) = some 0) ∧
     (x ≤ knee → correctedIndex x knee slope = x) ∧
     (knee < x → 100 * (correctedIndex x knee slope - x) ≤ (x - knee) * slope ∧
       (x - knee) * slope < 100 * (correctedIndex x knee slope - x) + 100)) ∧
  (∀ (zones : List Zone) (lo hi : Nat), validValues zones ≠ [] → (∀ v ∈ validValues zones, lo ≤ v ∧ v ≤ hi) →
    (∃ d, averageDensity zones = some d ∧ lo ≤ d ∧ d ≤ hi) ∧ (∃ d, centreDensity zones = some d ∧ lo ≤ d ∧ d ≤ hi)) ∧
  (∀ (de : Nat) (speed offset correction calibration : Int), ∃ ed : Int, 3 * ed ≤ de + 1 ∧ (de : Int) + 1 < 3 * ed + 3 ∧
    rawIndex de speed offset correction calibration = ed - speed + offset + correction + calibration) ∧
  (∀ (o : Order) (zones : List Zone) (z : Zone), zones[4]? = some z →
    let vs := zones.filterMap Zone.value?
    let mean := (vs.sum + vs.length / 2) / vs.length
    let others := (zones.take 4 ++ zones.drop 5).filterMap Zone.value?
    let w := 4 + others.length
    (o.mode = .average → vs ≠ [] → effectiveDensity o zones = mean) ∧
    (∀ v, o.mode = .centre → z.value? = some v →
      effectiveDensity o zones = (4 * v + others.sum + w / 2) / w) ∧
    (o.mode = .centre → z.value? = none → vs ≠ [] → effectiveDensity o zones = mean) ∧
    (∀ v, o.mode = .spot → z.value? = some v → effectiveDensity o zones = v) ∧
    (∀ d, o.mode = .fixed → o.fixedDensity = some d → effectiveDensity o zones = d)) ∧
  (∀ (k : Back) (o : Order) (step d : Nat) (offset : Int) (film : Film) (e : StockEntry) (s : State),
    (s.roll k).film = some film → s.stock? film.stock = some e → o.density = some d → 1 ≤ step →
    o.pattern.offsets[step - 1]? = some offset →
    itemTime s k o step = exposureTime s.settings e d offset o.correction)
end

