-- ==== Sys2Proof/Laws/State.lean ====
section
/-!
SUPPORT. What replacing one part of the state does to each part: one lemma for each field of each update, with what
comes of replacing a part twice and by itself.
-/

namespace Sys2Proof.Machine.State

variable (s : State)

/-! ## setPending -/

@[simp] theorem setPending_pending (x : List Instr) : (s.setPending x).pending = x := rfl
@[simp] theorem setPending_link (x : List Instr) : (s.setPending x).link = s.link := rfl
@[simp] theorem setPending_events (x : List Instr) : (s.setPending x).events = s.events := rfl
@[simp] theorem setPending_queue (x : List Instr) : (s.setPending x).queue = s.queue := rfl
@[simp] theorem setPending_gate (x : List Instr) : (s.setPending x).gate = s.gate := rfl
@[simp] theorem setPending_tables (x : List Instr) : (s.setPending x).tables = s.tables := rfl
@[simp] theorem setPending_timer (x : List Instr) : (s.setPending x).timer = s.timer := rfl
@[simp] theorem setPending_rolls (x : List Instr) : (s.setPending x).rolls = s.rolls := rfl
@[simp] theorem setPending_labels (x : List Instr) : (s.setPending x).labels = s.labels := rfl
@[simp] theorem setPending_charge (x : List Instr) : (s.setPending x).charge = s.charge := rfl
@[simp] theorem setPending_bus (x : List Instr) : (s.setPending x).bus = s.bus := rfl
@[simp] theorem setPending_settings (x : List Instr) : (s.setPending x).settings = s.settings := rfl
@[simp] theorem setPending_twice (x y : List Instr) : (s.setPending x).setPending y = s.setPending y := rfl
@[simp] theorem setPending_self : s.setPending s.pending = s := rfl

/-! ## setLink -/

@[simp] theorem setLink_pending (x : Link) : (s.setLink x).pending = s.pending := rfl
@[simp] theorem setLink_link (x : Link) : (s.setLink x).link = x := rfl
@[simp] theorem setLink_events (x : Link) : (s.setLink x).events = s.events := rfl
@[simp] theorem setLink_queue (x : Link) : (s.setLink x).queue = s.queue := rfl
@[simp] theorem setLink_gate (x : Link) : (s.setLink x).gate = s.gate := rfl
@[simp] theorem setLink_tables (x : Link) : (s.setLink x).tables = s.tables := rfl
@[simp] theorem setLink_timer (x : Link) : (s.setLink x).timer = s.timer := rfl
@[simp] theorem setLink_rolls (x : Link) : (s.setLink x).rolls = s.rolls := rfl
@[simp] theorem setLink_labels (x : Link) : (s.setLink x).labels = s.labels := rfl
@[simp] theorem setLink_charge (x : Link) : (s.setLink x).charge = s.charge := rfl
@[simp] theorem setLink_bus (x : Link) : (s.setLink x).bus = s.bus := rfl
@[simp] theorem setLink_settings (x : Link) : (s.setLink x).settings = s.settings := rfl
@[simp] theorem setLink_twice (x y : Link) : (s.setLink x).setLink y = s.setLink y := rfl
@[simp] theorem setLink_self : s.setLink s.link = s := rfl

/-! ## setEvents -/

@[simp] theorem setEvents_pending (x : Events) : (s.setEvents x).pending = s.pending := rfl
@[simp] theorem setEvents_link (x : Events) : (s.setEvents x).link = s.link := rfl
@[simp] theorem setEvents_events (x : Events) : (s.setEvents x).events = x := rfl
@[simp] theorem setEvents_queue (x : Events) : (s.setEvents x).queue = s.queue := rfl
@[simp] theorem setEvents_gate (x : Events) : (s.setEvents x).gate = s.gate := rfl
@[simp] theorem setEvents_tables (x : Events) : (s.setEvents x).tables = s.tables := rfl
@[simp] theorem setEvents_timer (x : Events) : (s.setEvents x).timer = s.timer := rfl
@[simp] theorem setEvents_rolls (x : Events) : (s.setEvents x).rolls = s.rolls := rfl
@[simp] theorem setEvents_labels (x : Events) : (s.setEvents x).labels = s.labels := rfl
@[simp] theorem setEvents_charge (x : Events) : (s.setEvents x).charge = s.charge := rfl
@[simp] theorem setEvents_bus (x : Events) : (s.setEvents x).bus = s.bus := rfl
@[simp] theorem setEvents_settings (x : Events) : (s.setEvents x).settings = s.settings := rfl
@[simp] theorem setEvents_twice (x y : Events) : (s.setEvents x).setEvents y = s.setEvents y := rfl
@[simp] theorem setEvents_self : s.setEvents s.events = s := rfl

/-! ## setQueue -/

@[simp] theorem setQueue_pending (x : Queue) : (s.setQueue x).pending = s.pending := rfl
@[simp] theorem setQueue_link (x : Queue) : (s.setQueue x).link = s.link := rfl
@[simp] theorem setQueue_events (x : Queue) : (s.setQueue x).events = s.events := rfl
@[simp] theorem setQueue_queue (x : Queue) : (s.setQueue x).queue = x := rfl
@[simp] theorem setQueue_gate (x : Queue) : (s.setQueue x).gate = s.gate := rfl
@[simp] theorem setQueue_tables (x : Queue) : (s.setQueue x).tables = s.tables := rfl
@[simp] theorem setQueue_timer (x : Queue) : (s.setQueue x).timer = s.timer := rfl
@[simp] theorem setQueue_rolls (x : Queue) : (s.setQueue x).rolls = s.rolls := rfl
@[simp] theorem setQueue_labels (x : Queue) : (s.setQueue x).labels = s.labels := rfl
@[simp] theorem setQueue_charge (x : Queue) : (s.setQueue x).charge = s.charge := rfl
@[simp] theorem setQueue_bus (x : Queue) : (s.setQueue x).bus = s.bus := rfl
@[simp] theorem setQueue_settings (x : Queue) : (s.setQueue x).settings = s.settings := rfl
@[simp] theorem setQueue_twice (x y : Queue) : (s.setQueue x).setQueue y = s.setQueue y := rfl
@[simp] theorem setQueue_self : s.setQueue s.queue = s := rfl

/-! ## setGate -/

@[simp] theorem setGate_pending (x : Gate) : (s.setGate x).pending = s.pending := rfl
@[simp] theorem setGate_link (x : Gate) : (s.setGate x).link = s.link := rfl
@[simp] theorem setGate_events (x : Gate) : (s.setGate x).events = s.events := rfl
@[simp] theorem setGate_queue (x : Gate) : (s.setGate x).queue = s.queue := rfl
@[simp] theorem setGate_gate (x : Gate) : (s.setGate x).gate = x := rfl
@[simp] theorem setGate_tables (x : Gate) : (s.setGate x).tables = s.tables := rfl
@[simp] theorem setGate_timer (x : Gate) : (s.setGate x).timer = s.timer := rfl
@[simp] theorem setGate_rolls (x : Gate) : (s.setGate x).rolls = s.rolls := rfl
@[simp] theorem setGate_labels (x : Gate) : (s.setGate x).labels = s.labels := rfl
@[simp] theorem setGate_charge (x : Gate) : (s.setGate x).charge = s.charge := rfl
@[simp] theorem setGate_bus (x : Gate) : (s.setGate x).bus = s.bus := rfl
@[simp] theorem setGate_settings (x : Gate) : (s.setGate x).settings = s.settings := rfl
@[simp] theorem setGate_twice (x y : Gate) : (s.setGate x).setGate y = s.setGate y := rfl
@[simp] theorem setGate_self : s.setGate s.gate = s := rfl

/-! ## setTables -/

@[simp] theorem setTables_pending (x : Calc) : (s.setTables x).pending = s.pending := rfl
@[simp] theorem setTables_link (x : Calc) : (s.setTables x).link = s.link := rfl
@[simp] theorem setTables_events (x : Calc) : (s.setTables x).events = s.events := rfl
@[simp] theorem setTables_queue (x : Calc) : (s.setTables x).queue = s.queue := rfl
@[simp] theorem setTables_gate (x : Calc) : (s.setTables x).gate = s.gate := rfl
@[simp] theorem setTables_tables (x : Calc) : (s.setTables x).tables = x := rfl
@[simp] theorem setTables_timer (x : Calc) : (s.setTables x).timer = s.timer := rfl
@[simp] theorem setTables_rolls (x : Calc) : (s.setTables x).rolls = s.rolls := rfl
@[simp] theorem setTables_labels (x : Calc) : (s.setTables x).labels = s.labels := rfl
@[simp] theorem setTables_charge (x : Calc) : (s.setTables x).charge = s.charge := rfl
@[simp] theorem setTables_bus (x : Calc) : (s.setTables x).bus = s.bus := rfl
@[simp] theorem setTables_settings (x : Calc) : (s.setTables x).settings = s.settings := rfl
@[simp] theorem setTables_twice (x y : Calc) : (s.setTables x).setTables y = s.setTables y := rfl
@[simp] theorem setTables_self : s.setTables s.tables = s := rfl

/-! ## setTimer -/

@[simp] theorem setTimer_pending (x : Timer) : (s.setTimer x).pending = s.pending := rfl
@[simp] theorem setTimer_link (x : Timer) : (s.setTimer x).link = s.link := rfl
@[simp] theorem setTimer_events (x : Timer) : (s.setTimer x).events = s.events := rfl
@[simp] theorem setTimer_queue (x : Timer) : (s.setTimer x).queue = s.queue := rfl
@[simp] theorem setTimer_gate (x : Timer) : (s.setTimer x).gate = s.gate := rfl
@[simp] theorem setTimer_tables (x : Timer) : (s.setTimer x).tables = s.tables := rfl
@[simp] theorem setTimer_timer (x : Timer) : (s.setTimer x).timer = x := rfl
@[simp] theorem setTimer_rolls (x : Timer) : (s.setTimer x).rolls = s.rolls := rfl
@[simp] theorem setTimer_labels (x : Timer) : (s.setTimer x).labels = s.labels := rfl
@[simp] theorem setTimer_charge (x : Timer) : (s.setTimer x).charge = s.charge := rfl
@[simp] theorem setTimer_bus (x : Timer) : (s.setTimer x).bus = s.bus := rfl
@[simp] theorem setTimer_settings (x : Timer) : (s.setTimer x).settings = s.settings := rfl
@[simp] theorem setTimer_twice (x y : Timer) : (s.setTimer x).setTimer y = s.setTimer y := rfl
@[simp] theorem setTimer_self : s.setTimer s.timer = s := rfl

/-! ## setRolls -/

@[simp] theorem setRolls_pending (x : PerBack Roll) : (s.setRolls x).pending = s.pending := rfl
@[simp] theorem setRolls_link (x : PerBack Roll) : (s.setRolls x).link = s.link := rfl
@[simp] theorem setRolls_events (x : PerBack Roll) : (s.setRolls x).events = s.events := rfl
@[simp] theorem setRolls_queue (x : PerBack Roll) : (s.setRolls x).queue = s.queue := rfl
@[simp] theorem setRolls_gate (x : PerBack Roll) : (s.setRolls x).gate = s.gate := rfl
@[simp] theorem setRolls_tables (x : PerBack Roll) : (s.setRolls x).tables = s.tables := rfl
@[simp] theorem setRolls_timer (x : PerBack Roll) : (s.setRolls x).timer = s.timer := rfl
@[simp] theorem setRolls_rolls (x : PerBack Roll) : (s.setRolls x).rolls = x := rfl
@[simp] theorem setRolls_labels (x : PerBack Roll) : (s.setRolls x).labels = s.labels := rfl
@[simp] theorem setRolls_charge (x : PerBack Roll) : (s.setRolls x).charge = s.charge := rfl
@[simp] theorem setRolls_bus (x : PerBack Roll) : (s.setRolls x).bus = s.bus := rfl
@[simp] theorem setRolls_settings (x : PerBack Roll) : (s.setRolls x).settings = s.settings := rfl
@[simp] theorem setRolls_twice (x y : PerBack Roll) : (s.setRolls x).setRolls y = s.setRolls y := rfl
@[simp] theorem setRolls_self : s.setRolls s.rolls = s := rfl

/-! ## setLabels -/

@[simp] theorem setLabels_pending (x : Labels) : (s.setLabels x).pending = s.pending := rfl
@[simp] theorem setLabels_link (x : Labels) : (s.setLabels x).link = s.link := rfl
@[simp] theorem setLabels_events (x : Labels) : (s.setLabels x).events = s.events := rfl
@[simp] theorem setLabels_queue (x : Labels) : (s.setLabels x).queue = s.queue := rfl
@[simp] theorem setLabels_gate (x : Labels) : (s.setLabels x).gate = s.gate := rfl
@[simp] theorem setLabels_tables (x : Labels) : (s.setLabels x).tables = s.tables := rfl
@[simp] theorem setLabels_timer (x : Labels) : (s.setLabels x).timer = s.timer := rfl
@[simp] theorem setLabels_rolls (x : Labels) : (s.setLabels x).rolls = s.rolls := rfl
@[simp] theorem setLabels_labels (x : Labels) : (s.setLabels x).labels = x := rfl
@[simp] theorem setLabels_charge (x : Labels) : (s.setLabels x).charge = s.charge := rfl
@[simp] theorem setLabels_bus (x : Labels) : (s.setLabels x).bus = s.bus := rfl
@[simp] theorem setLabels_settings (x : Labels) : (s.setLabels x).settings = s.settings := rfl
@[simp] theorem setLabels_twice (x y : Labels) : (s.setLabels x).setLabels y = s.setLabels y := rfl
@[simp] theorem setLabels_self : s.setLabels s.labels = s := rfl

/-! ## setCharge -/

@[simp] theorem setCharge_pending (x : Charge) : (s.setCharge x).pending = s.pending := rfl
@[simp] theorem setCharge_link (x : Charge) : (s.setCharge x).link = s.link := rfl
@[simp] theorem setCharge_events (x : Charge) : (s.setCharge x).events = s.events := rfl
@[simp] theorem setCharge_queue (x : Charge) : (s.setCharge x).queue = s.queue := rfl
@[simp] theorem setCharge_gate (x : Charge) : (s.setCharge x).gate = s.gate := rfl
@[simp] theorem setCharge_tables (x : Charge) : (s.setCharge x).tables = s.tables := rfl
@[simp] theorem setCharge_timer (x : Charge) : (s.setCharge x).timer = s.timer := rfl
@[simp] theorem setCharge_rolls (x : Charge) : (s.setCharge x).rolls = s.rolls := rfl
@[simp] theorem setCharge_labels (x : Charge) : (s.setCharge x).labels = s.labels := rfl
@[simp] theorem setCharge_charge (x : Charge) : (s.setCharge x).charge = x := rfl
@[simp] theorem setCharge_bus (x : Charge) : (s.setCharge x).bus = s.bus := rfl
@[simp] theorem setCharge_settings (x : Charge) : (s.setCharge x).settings = s.settings := rfl
@[simp] theorem setCharge_twice (x y : Charge) : (s.setCharge x).setCharge y = s.setCharge y := rfl
@[simp] theorem setCharge_self : s.setCharge s.charge = s := rfl

/-! ## setBus -/

@[simp] theorem setBus_pending (x : Bus) : (s.setBus x).pending = s.pending := rfl
@[simp] theorem setBus_link (x : Bus) : (s.setBus x).link = s.link := rfl
@[simp] theorem setBus_events (x : Bus) : (s.setBus x).events = s.events := rfl
@[simp] theorem setBus_queue (x : Bus) : (s.setBus x).queue = s.queue := rfl
@[simp] theorem setBus_gate (x : Bus) : (s.setBus x).gate = s.gate := rfl
@[simp] theorem setBus_tables (x : Bus) : (s.setBus x).tables = s.tables := rfl
@[simp] theorem setBus_timer (x : Bus) : (s.setBus x).timer = s.timer := rfl
@[simp] theorem setBus_rolls (x : Bus) : (s.setBus x).rolls = s.rolls := rfl
@[simp] theorem setBus_labels (x : Bus) : (s.setBus x).labels = s.labels := rfl
@[simp] theorem setBus_charge (x : Bus) : (s.setBus x).charge = s.charge := rfl
@[simp] theorem setBus_bus (x : Bus) : (s.setBus x).bus = x := rfl
@[simp] theorem setBus_settings (x : Bus) : (s.setBus x).settings = s.settings := rfl
@[simp] theorem setBus_twice (x y : Bus) : (s.setBus x).setBus y = s.setBus y := rfl
@[simp] theorem setBus_self : s.setBus s.bus = s := rfl

/-! ## setSettings -/

@[simp] theorem setSettings_pending (x : Settings) : (s.setSettings x).pending = s.pending := rfl
@[simp] theorem setSettings_link (x : Settings) : (s.setSettings x).link = s.link := rfl
@[simp] theorem setSettings_events (x : Settings) : (s.setSettings x).events = s.events := rfl
@[simp] theorem setSettings_queue (x : Settings) : (s.setSettings x).queue = s.queue := rfl
@[simp] theorem setSettings_gate (x : Settings) : (s.setSettings x).gate = s.gate := rfl
@[simp] theorem setSettings_tables (x : Settings) : (s.setSettings x).tables = s.tables := rfl
@[simp] theorem setSettings_timer (x : Settings) : (s.setSettings x).timer = s.timer := rfl
@[simp] theorem setSettings_rolls (x : Settings) : (s.setSettings x).rolls = s.rolls := rfl
@[simp] theorem setSettings_labels (x : Settings) : (s.setSettings x).labels = s.labels := rfl
@[simp] theorem setSettings_charge (x : Settings) : (s.setSettings x).charge = s.charge := rfl
@[simp] theorem setSettings_bus (x : Settings) : (s.setSettings x).bus = s.bus := rfl
@[simp] theorem setSettings_settings (x : Settings) : (s.setSettings x).settings = x := rfl
@[simp] theorem setSettings_twice (x y : Settings) : (s.setSettings x).setSettings y = s.setSettings y := rfl
@[simp] theorem setSettings_self : s.setSettings s.settings = s := rfl

end Sys2Proof.Machine.State

namespace Sys2Proof.PerBack

variable {α : Type} (p : PerBack α)

@[simp] theorem get_set_same (k : Back) (v : α) : (p.set k v).get k = v := by cases k <;> rfl
@[simp] theorem get_set_other (k j : Back) (v : α) (h : j ≠ k) : (p.set k v).get j = p.get j := by
  cases k <;> cases j <;> first | rfl | exact absurd rfl h
@[simp] theorem set_get (k : Back) : p.set k (p.get k) = p := by cases k <;> rfl
@[simp] theorem get_a : p.get .a = p.a := rfl
@[simp] theorem get_b : p.get .b = p.b := rfl

end Sys2Proof.PerBack

namespace Sys2Proof.Machine.Bus

variable (x : Bus)

@[simp] theorem get_set_same (u : UnitSlot) (v : Slot) : (x.set u v).get u = v := by cases u <;> rfl
@[simp] theorem get_set_other (u w : UnitSlot) (v : Slot) (h : w ≠ u) : (x.set u v).get w = x.get w := by
  cases u <;> cases w <;> first | rfl | exact absurd rfl h

end Sys2Proof.Machine.Bus
end

