-- ==== Sys2Proof/Laws/Ops.lean ====
section
/-!
SUPPORT. What each shared operation of Machine/Ops.lean does and leaves: the parts of the state it does not touch, and what it
makes of the part it does.
-/

namespace Sys2Proof.Machine

variable (s : State)

/-! ## The transmitter (R193) -/

@[simp] theorem sendNotice_frame :
    (sendNotice s).pending = s.pending ∧ (sendNotice s).queue = s.queue ∧ (sendNotice s).gate = s.gate ∧
    (sendNotice s).tables = s.tables ∧ (sendNotice s).timer = s.timer ∧ (sendNotice s).rolls = s.rolls ∧
    (sendNotice s).labels = s.labels ∧ (sendNotice s).charge = s.charge ∧ (sendNotice s).bus = s.bus ∧
    (sendNotice s).settings = s.settings := by
  simp [sendNotice]

/-- All that the arbiter can do: nothing, when the transmitter may not begin or nothing is held; or the head reply, else
the NOTICE, else the head report begins to be sent and leaves its queue or slot (R193). -/
theorem arbiter_cases :
    (arbiter s = s ∧ (s.link.mayBegin = false ∨
      s.link.replies = [] ∧ s.link.notice = false ∧ s.link.reports = [])) ∨
    (s.link.mayBegin = true ∧ ((∃ r rest, s.link.replies = r :: rest ∧
        arbiter s = s.setLink { s.link with replies := rest, sending := some (.reply r) }) ∨
      (s.link.replies = [] ∧ s.link.notice = true ∧ arbiter s = sendNotice s) ∨
      (∃ r rest, s.link.replies = [] ∧ s.link.notice = false ∧ s.link.reports = r :: rest ∧
        arbiter s = s.setLink { s.link with reports := rest, sending := some (.report r) }))) := by
  unfold arbiter
  cases hm : s.link.mayBegin with
  | false => simp
  | true =>
    cases hr : s.link.replies with
    | cons r rest => simp
    | nil => cases hn : s.link.notice with
      | true => simp
      | false => cases hp : s.link.reports <;> simp

/-- With the transmitter not idle, or desk-ready inactive, nothing begins (R193). -/
theorem arbiter_waits (h : s.link.mayBegin = false) : arbiter s = s := by simp [arbiter, h]

@[simp] theorem arbiter_frame :
    (arbiter s).pending = s.pending ∧ (arbiter s).queue = s.queue ∧ (arbiter s).gate = s.gate ∧
    (arbiter s).tables = s.tables ∧ (arbiter s).timer = s.timer ∧ (arbiter s).rolls = s.rolls ∧
    (arbiter s).labels = s.labels ∧ (arbiter s).charge = s.charge ∧ (arbiter s).bus = s.bus ∧
    (arbiter s).settings = s.settings := by
  unfold arbiter; (repeat' split) <;> simp

/-- Of the Fault and Event Register the arbiter changes the risen set alone (R189). -/
@[simp] theorem arbiter_events :
    (arbiter s).events.flags = s.events.flags ∧ (arbiter s).events.current = s.events.current ∧
    (arbiter s).events.pendingFault = s.events.pendingFault ∧ (arbiter s).events.traps = s.events.traps ∧
    (arbiter s).events.lastTrap = s.events.lastTrap := by
  unfold arbiter sendNotice; (repeat' split) <;> simp

/-- Of the link the arbiter leaves the receiving side, the reservations and the lines. -/
@[simp] theorem arbiter_link :
    (arbiter s).link.receiver = s.link.receiver ∧ (arbiter s).link.buffer = s.link.buffer ∧
    (arbiter s).link.reserved = s.link.reserved ∧ (arbiter s).link.deskReady = s.link.deskReady ∧
    (arbiter s).link.clock = s.link.clock := by
  unfold arbiter sendNotice; (repeat' split) <;> simp

/-! ## Event flags (R188, R189) -/

@[simp] theorem fillNotice_frame :
    (fillNotice s).pending = s.pending ∧ (fillNotice s).queue = s.queue ∧ (fillNotice s).gate = s.gate ∧
    (fillNotice s).tables = s.tables ∧ (fillNotice s).timer = s.timer ∧ (fillNotice s).rolls = s.rolls ∧
    (fillNotice s).labels = s.labels ∧ (fillNotice s).charge = s.charge ∧ (fillNotice s).bus = s.bus ∧
    (fillNotice s).settings = s.settings := by
  unfold fillNotice; split <;> simp

@[simp] theorem fillNotice_events :
    (fillNotice s).events.flags = s.events.flags ∧ (fillNotice s).events.current = s.events.current ∧
    (fillNotice s).events.pendingFault = s.events.pendingFault ∧ (fillNotice s).events.traps = s.events.traps ∧
    (fillNotice s).events.lastTrap = s.events.lastTrap := by
  unfold fillNotice; split <;> simp

@[simp] theorem raise_frame (f : EventFlag) :
    (raise f s).pending = s.pending ∧ (raise f s).queue = s.queue ∧ (raise f s).gate = s.gate ∧
    (raise f s).tables = s.tables ∧ (raise f s).timer = s.timer ∧ (raise f s).rolls = s.rolls ∧
    (raise f s).labels = s.labels ∧ (raise f s).charge = s.charge ∧ (raise f s).bus = s.bus ∧
    (raise f s).settings = s.settings := by
  unfold raise; dsimp only; split <;> simp

/-- A raising sets the flag, the other flags, the fault records and the traps as they were (R188 step 1). -/
@[simp] theorem raise_events (f : EventFlag) :
    (raise f s).events.flags = s.events.flags ||| f.bit ∧ (raise f s).events.current = s.events.current ∧
    (raise f s).events.pendingFault = s.events.pendingFault ∧ (raise f s).events.traps = s.events.traps ∧
    (raise f s).events.lastTrap = s.events.lastTrap := by
  unfold raise; dsimp only; split <;> simp [Events.raise]

/-- All that a raising can do: the flag is set and joins the risen set; with its mask bit enabled and the slot empty a
NOTICE is placed and the arbiter chooses; with the bit disabled, or an unsent NOTICE in the slot, that is all (R188,
R189). -/
theorem raise_cases (f : EventFlag) :
    (hasFlag s.settings.noticeMask f = true ∧ s.link.notice = false ∧
      raise f s = arbiter ((s.setEvents (s.events.raise f)).setLink { s.link with notice := true })) ∨
    ((hasFlag s.settings.noticeMask f = false ∨ s.link.notice = true) ∧
      raise f s = s.setEvents (s.events.raise f)) := by
  cases hm : hasFlag s.settings.noticeMask f <;> cases hn : s.link.notice <;> simp [raise, fillNotice, hm, hn]

@[simp] theorem raiseTimes_frame (f : EventFlag) (n : Nat) :
    (raiseTimes f n s).pending = s.pending ∧ (raiseTimes f n s).queue = s.queue ∧ (raiseTimes f n s).gate = s.gate ∧
    (raiseTimes f n s).tables = s.tables ∧ (raiseTimes f n s).timer = s.timer ∧ (raiseTimes f n s).rolls = s.rolls ∧
    (raiseTimes f n s).labels = s.labels ∧ (raiseTimes f n s).charge = s.charge ∧ (raiseTimes f n s).bus = s.bus ∧
    (raiseTimes f n s).settings = s.settings := by
  induction n generalizing s with
  | zero => simp [raiseTimes]
  | succ n ih => simp [raiseTimes, ih]

/-! ## Orders, rolls, the visit -/

@[simp] theorem updOrder_frame (n : Nat) (f : Order → Order) :
    (updOrder n f s).pending = s.pending ∧ (updOrder n f s).link = s.link ∧ (updOrder n f s).events = s.events ∧
    (updOrder n f s).gate = s.gate ∧ (updOrder n f s).tables = s.tables ∧ (updOrder n f s).timer = s.timer ∧
    (updOrder n f s).rolls = s.rolls ∧ (updOrder n f s).labels = s.labels ∧ (updOrder n f s).charge = s.charge ∧
    (updOrder n f s).bus = s.bus ∧ (updOrder n f s).settings = s.settings := by
  simp [updOrder]

@[simp] theorem setRoll_frame (k : Back) (r : Roll) :
    (s.setRoll k r).pending = s.pending ∧ (s.setRoll k r).link = s.link ∧ (s.setRoll k r).events = s.events ∧
    (s.setRoll k r).queue = s.queue ∧ (s.setRoll k r).gate = s.gate ∧ (s.setRoll k r).tables = s.tables ∧
    (s.setRoll k r).timer = s.timer ∧ (s.setRoll k r).labels = s.labels ∧ (s.setRoll k r).charge = s.charge ∧
    (s.setRoll k r).bus = s.bus ∧ (s.setRoll k r).settings = s.settings := by
  simp [State.setRoll]

@[simp] theorem updRoll_frame (k : Back) (f : Roll → Roll) :
    (updRoll k f s).pending = s.pending ∧ (updRoll k f s).link = s.link ∧ (updRoll k f s).events = s.events ∧
    (updRoll k f s).queue = s.queue ∧ (updRoll k f s).gate = s.gate ∧ (updRoll k f s).tables = s.tables ∧
    (updRoll k f s).timer = s.timer ∧ (updRoll k f s).labels = s.labels ∧ (updRoll k f s).charge = s.charge ∧
    (updRoll k f s).bus = s.bus ∧ (updRoll k f s).settings = s.settings := by
  simp [updRoll]

@[simp] theorem updRoll_same (k : Back) (f : Roll → Roll) : (updRoll k f s).roll k = f (s.roll k) := by
  simp [updRoll, State.setRoll, State.roll]

@[simp] theorem updRoll_other (k j : Back) (f : Roll → Roll) (h : j ≠ k) : (updRoll k f s).roll j = s.roll j := by
  simp [updRoll, State.setRoll, State.roll, h]

@[simp] theorem updVisit_frame (f : Visit → Visit) :
    (updVisit f s).pending = s.pending ∧ (updVisit f s).link = s.link ∧ (updVisit f s).events = s.events ∧
    (updVisit f s).queue = s.queue ∧ (updVisit f s).tables = s.tables ∧ (updVisit f s).timer = s.timer ∧
    (updVisit f s).rolls = s.rolls ∧ (updVisit f s).labels = s.labels ∧ (updVisit f s).charge = s.charge ∧
    (updVisit f s).bus = s.bus ∧ (updVisit f s).settings = s.settings := by
  simp [updVisit]

@[simp] theorem updVisit_gate (f : Visit → Visit) : (updVisit f s).gate = { s.gate with visit := s.gate.visit.map f } :=
  rfl

@[simp] theorem setLabelWait_frame (w : Bool) :
    (setLabelWait w s).pending = s.pending ∧ (setLabelWait w s).link = s.link ∧
    (setLabelWait w s).events = s.events ∧ (setLabelWait w s).queue = s.queue ∧ (setLabelWait w s).gate = s.gate ∧
    (setLabelWait w s).tables = s.tables ∧ (setLabelWait w s).timer = s.timer ∧ (setLabelWait w s).rolls = s.rolls ∧
    (setLabelWait w s).charge = s.charge ∧ (setLabelWait w s).bus = s.bus ∧
    (setLabelWait w s).settings = s.settings ∧ (setLabelWait w s).labels.templates = s.labels.templates := by
  simp [setLabelWait]

/-! ## The stand bus (R173 to R175) -/

@[simp] theorem setSlot_frame (u : UnitSlot) (x : Slot) :
    (s.setSlot u x).pending = s.pending ∧ (s.setSlot u x).link = s.link ∧ (s.setSlot u x).events = s.events ∧
    (s.setSlot u x).queue = s.queue ∧ (s.setSlot u x).gate = s.gate ∧ (s.setSlot u x).tables = s.tables ∧
    (s.setSlot u x).timer = s.timer ∧ (s.setSlot u x).rolls = s.rolls ∧ (s.setSlot u x).labels = s.labels ∧
    (s.setSlot u x).charge = s.charge ∧ (s.setSlot u x).settings = s.settings := by
  simp [State.setSlot]

@[simp] theorem setSlot_same (u : UnitSlot) (x : Slot) : (s.setSlot u x).slot u = x := by
  simp [State.setSlot, State.slot]

@[simp] theorem setSlot_other (u w : UnitSlot) (x : Slot) (h : w ≠ u) : (s.setSlot u x).slot w = s.slot w := by
  simp [State.setSlot, State.slot, h]

@[simp] theorem updSlot_frame (u : UnitSlot) (f : Slot → Slot) :
    (updSlot u f s).pending = s.pending ∧ (updSlot u f s).link = s.link ∧ (updSlot u f s).events = s.events ∧
    (updSlot u f s).queue = s.queue ∧ (updSlot u f s).gate = s.gate ∧ (updSlot u f s).tables = s.tables ∧
    (updSlot u f s).timer = s.timer ∧ (updSlot u f s).rolls = s.rolls ∧ (updSlot u f s).labels = s.labels ∧
    (updSlot u f s).charge = s.charge ∧ (updSlot u f s).settings = s.settings := by
  simp [updSlot]

@[simp] theorem updSlot_same (u : UnitSlot) (f : Slot → Slot) : (updSlot u f s).slot u = f (s.slot u) := by
  simp [updSlot]

@[simp] theorem updSlot_other (u w : UnitSlot) (f : Slot → Slot) (h : w ≠ u) : (updSlot u f s).slot w = s.slot w := by
  simp [updSlot, h]

@[simp] theorem sendCommand_frame (u : UnitSlot) (c : Issued) :
    (sendCommand u c s).pending = s.pending ∧ (sendCommand u c s).link = s.link ∧
    (sendCommand u c s).events = s.events ∧ (sendCommand u c s).queue = s.queue ∧ (sendCommand u c s).gate = s.gate ∧
    (sendCommand u c s).tables = s.tables ∧ (sendCommand u c s).timer = s.timer ∧
    (sendCommand u c s).rolls = s.rolls ∧ (sendCommand u c s).labels = s.labels ∧
    (sendCommand u c s).charge = s.charge ∧ (sendCommand u c s).settings = s.settings := by
  simp [sendCommand]

@[simp] theorem issue_frame (u : UnitSlot) (c : UnitCmd) (i : Issuer) :
    (issue u c i s).pending = s.pending ∧ (issue u c i s).link = s.link ∧ (issue u c i s).events = s.events ∧
    (issue u c i s).queue = s.queue ∧ (issue u c i s).gate = s.gate ∧ (issue u c i s).tables = s.tables ∧
    (issue u c i s).timer = s.timer ∧ (issue u c i s).rolls = s.rolls ∧ (issue u c i s).labels = s.labels ∧
    (issue u c i s).charge = s.charge ∧ (issue u c i s).settings = s.settings := by
  simp only [issue]; split <;> simp

/-- All that issuing a command can do: with nothing outstanding and nothing waiting it is sent, with the exchange
number raised, a poll withdrawn and its timeout; otherwise it joins the tail of the waiting commands (R169, R173,
R175). -/
theorem issue_slot (u : UnitSlot) (c : UnitCmd) (i : Issuer) :
    (s.slot u).outstanding = none ∧ (s.slot u).waiting = [] ∧
        (issue u c i s).slot u = { s.slot u with
          exchange := nextExchange (s.slot u).exchange, poll := none,
          outstanding := some { cmd := c, issuer := i, exchange := nextExchange (s.slot u).exchange,
                                timeout := unitTimeout s.settings u + c.extraTimeout } } ∨
      ((s.slot u).outstanding ≠ none ∨ (s.slot u).waiting ≠ []) ∧
        (issue u c i s).slot u = { s.slot u with waiting := (s.slot u).waiting ++ [{ cmd := c, issuer := i }] } := by
  cases ho : (s.slot u).outstanding <;> cases hw : (s.slot u).waiting <;> simp [issue, sendCommand, ho, hw]

@[simp] theorem issue_other (u w : UnitSlot) (c : UnitCmd) (i : Issuer) (h : w ≠ u) :
    (issue u c i s).slot w = s.slot w := by
  simp only [issue, sendCommand]; split <;> simp [h]

@[simp] theorem sendNext_frame (u : UnitSlot) :
    (sendNext u s).pending = s.pending ∧ (sendNext u s).link = s.link ∧ (sendNext u s).events = s.events ∧
    (sendNext u s).queue = s.queue ∧ (sendNext u s).gate = s.gate ∧ (sendNext u s).tables = s.tables ∧
    (sendNext u s).timer = s.timer ∧ (sendNext u s).rolls = s.rolls ∧ (sendNext u s).labels = s.labels ∧
    (sendNext u s).charge = s.charge ∧ (sendNext u s).settings = s.settings := by
  simp only [sendNext]; split <;> simp

@[simp] theorem clearOutstanding_frame (u : UnitSlot) :
    (clearOutstanding u s).pending = s.pending ∧ (clearOutstanding u s).link = s.link ∧
    (clearOutstanding u s).events = s.events ∧ (clearOutstanding u s).queue = s.queue ∧
    (clearOutstanding u s).gate = s.gate ∧ (clearOutstanding u s).tables = s.tables ∧
    (clearOutstanding u s).timer = s.timer ∧ (clearOutstanding u s).rolls = s.rolls ∧
    (clearOutstanding u s).labels = s.labels ∧ (clearOutstanding u s).charge = s.charge ∧
    (clearOutstanding u s).settings = s.settings := by
  simp [clearOutstanding]

/-! ## Replies (R187) -/

/-- All that a reply's entry can do: it joins the tail of the queue, and when the transmitter may begin, the head of the
queue it then is begins to be sent (R187, R193). -/
theorem addReply_cases (r : Reply) :
    (s.link.mayBegin = false ∧ addReply r s = s.setLink { s.link with replies := s.link.replies ++ [r] }) ∨
    (s.link.mayBegin = true ∧ ∃ x rest, s.link.replies ++ [r] = x :: rest ∧
      addReply r s = s.setLink { s.link with replies := rest, sending := some (.reply x) }) := by
  cases hm : s.link.mayBegin with
  | false => exact .inl ⟨rfl, arbiter_waits _ hm⟩
  | true =>
    have hm' : ({ s.link with replies := s.link.replies ++ [r] } : Link).mayBegin = true := hm
    cases hr : s.link.replies ++ [r] with
    | nil => simp at hr
    | cons x rest => exact .inr ⟨rfl, x, rest, rfl, by simp only [hr] at hm'; simp [addReply, arbiter, hr, hm']⟩

@[simp] theorem addReply_frame (r : Reply) :
    (addReply r s).pending = s.pending ∧ (addReply r s).events = s.events ∧ (addReply r s).queue = s.queue ∧
    (addReply r s).gate = s.gate ∧ (addReply r s).tables = s.tables ∧ (addReply r s).timer = s.timer ∧
    (addReply r s).rolls = s.rolls ∧ (addReply r s).labels = s.labels ∧ (addReply r s).charge = s.charge ∧
    (addReply r s).bus = s.bus ∧ (addReply r s).settings = s.settings := by
  rcases addReply_cases s r with ⟨_, h⟩ | ⟨_, x, rest, _, h⟩ <;> simp [h]

@[simp] theorem answer_frame (tag : Byte) (c : Nat) (r : Result) (d : ReplyData) :
    (answer tag c r d s).pending = s.pending ∧ (answer tag c r d s).events = s.events ∧
    (answer tag c r d s).queue = s.queue ∧ (answer tag c r d s).gate = s.gate ∧
    (answer tag c r d s).tables = s.tables ∧ (answer tag c r d s).timer = s.timer ∧
    (answer tag c r d s).rolls = s.rolls ∧ (answer tag c r d s).labels = s.labels ∧
    (answer tag c r d s).charge = s.charge ∧ (answer tag c r d s).bus = s.bus ∧
    (answer tag c r d s).settings = s.settings := by
  simp [answer]

@[simp] theorem answerDeferred_frame (cls : Byte) (tag : Option Byte) (c : Nat) (r : Result) (d : ReplyData) :
    (answerDeferred cls tag c r d s).pending = s.pending ∧ (answerDeferred cls tag c r d s).events = s.events ∧
    (answerDeferred cls tag c r d s).queue = s.queue ∧ (answerDeferred cls tag c r d s).gate = s.gate ∧
    (answerDeferred cls tag c r d s).tables = s.tables ∧ (answerDeferred cls tag c r d s).timer = s.timer ∧
    (answerDeferred cls tag c r d s).rolls = s.rolls ∧ (answerDeferred cls tag c r d s).labels = s.labels ∧
    (answerDeferred cls tag c r d s).charge = s.charge ∧ (answerDeferred cls tag c r d s).bus = s.bus ∧
    (answerDeferred cls tag c r d s).settings = s.settings := by
  simp only [answerDeferred]; split <;> simp

/-- A deferred reply turns one reservation into an entry; without a tag nothing is sent (R176, R187). -/
theorem answerDeferred_some (cls tag : Byte) (c : Nat) (r : Result) (d : ReplyData) :
    answerDeferred cls (some tag) c r d s = addReply { cls := cls, tag := tag, command := c, result := r, data := d }
      (s.setLink { s.link with reserved := s.link.reserved - 1 }) := rfl

@[simp] theorem answerDeferred_none (cls : Byte) (c : Nat) (r : Result) (d : ReplyData) :
    answerDeferred cls none c r d s = s := rfl

end Sys2Proof.Machine
end

