-- ==== Sys2Proof/Laws/Reports.lean ====
section
/-!
SUPPORT. What the report queue does when it takes the reports offered to it (R192), and what it leaves as it is.
-/

namespace Sys2Proof.Machine

variable (s : State)

@[simp] theorem enterReport_frame (r : Report) :
    (enterReport r s).pending = s.pending ∧ (enterReport r s).queue = s.queue ∧
    (enterReport r s).gate = s.gate ∧ (enterReport r s).tables = s.tables ∧ (enterReport r s).timer = s.timer ∧
    (enterReport r s).rolls = s.rolls ∧ (enterReport r s).labels = s.labels ∧ (enterReport r s).charge = s.charge ∧
    (enterReport r s).bus = s.bus ∧ (enterReport r s).settings = s.settings := by
  simp [enterReport]

@[simp] theorem takeOffer_frame (x : Offer) :
    (takeOffer x s).pending = s.pending ∧ (takeOffer x s).gate = s.gate ∧
    (takeOffer x s).tables = s.tables ∧ (takeOffer x s).timer = s.timer ∧ (takeOffer x s).labels = s.labels ∧
    (takeOffer x s).charge = s.charge ∧ (takeOffer x s).bus = s.bus ∧ (takeOffer x s).settings = s.settings := by
  simp only [takeOffer]; split <;> simp

@[simp] theorem drainFuel_frame (n : Nat) :
    (drainFuel n s).pending = s.pending ∧ (drainFuel n s).gate = s.gate ∧
    (drainFuel n s).tables = s.tables ∧ (drainFuel n s).timer = s.timer ∧ (drainFuel n s).labels = s.labels ∧
    (drainFuel n s).charge = s.charge ∧ (drainFuel n s).bus = s.bus ∧ (drainFuel n s).settings = s.settings := by
  induction n generalizing s with
  | zero => simp [drainFuel]
  | succ n ih => unfold drainFuel; (repeat' split) <;> simp [ih]

@[simp] theorem drainReports_frame  :
    (drainReports s).pending = s.pending ∧ (drainReports s).gate = s.gate ∧
    (drainReports s).tables = s.tables ∧ (drainReports s).timer = s.timer ∧ (drainReports s).labels = s.labels ∧
    (drainReports s).charge = s.charge ∧ (drainReports s).bus = s.bus ∧ (drainReports s).settings = s.settings := by
  simp [drainReports]

/-! ## What the taking of reports comes to -/

/-- What is left of the taking while the queue has slots: a slot each, and one more while a report may begin to be sent. -/
def roomLeft (l : Link) : Nat := Config.reportCapacity - l.reports.length + if l.mayBegin then 1 else 0

theorem roomLeft_held {l : Link} (h : l.mayBegin = false) :
    roomLeft l = Config.reportCapacity - l.reports.length := by simp [roomLeft, h]

theorem roomLeft_begin {l : Link} (h : l.mayBegin = true) :
    roomLeft l = Config.reportCapacity - l.reports.length + 1 := by simp [roomLeft, h]

theorem mayBegin_sending {l : Link} (h : l.sending.isSome) : l.mayBegin = false := by
  cases hx : l.sending <;> simp_all [Link.mayBegin]

/-- A report that enters takes up room: a slot, or the transmitter (R192, R193). -/
theorem enterReport_room (r : Report) (h : s.link.reports.length < Config.reportCapacity) :
    roomLeft (enterReport r s).link < roomLeft s.link := by
  unfold enterReport
  rcases arbiter_cases (s.setLink { s.link with reports := s.link.reports ++ [r] }) with
    ⟨he, hm | ⟨_, _, hr⟩⟩ | ⟨hm, ⟨x, rest, _, he⟩ | ⟨_, _, he⟩ | ⟨x, rest, _, _, hr, he⟩⟩
  · have hl : s.link.mayBegin = false := hm
    rw [he, roomLeft_held hl, roomLeft_held hm]; simp; omega
  · simp at hr
  all_goals
    have hl : s.link.mayBegin = true := hm
    rw [he, roomLeft_begin hl, roomLeft_held (mayBegin_sending rfl)]
  · simp; omega
  · simp [sendNotice]; omega
  · have hn : s.link.reports.length = rest.length := by simpa using congrArg List.length hr
    simp [hn]

/-- A taken offer takes up room. -/
theorem takeOffer_room (x : Offer) (h : s.link.reports.length < Config.reportCapacity) :
    roomLeft (takeOffer x s).link < roomLeft s.link := by
  cases x with
  | order e => exact enterReport_room (s.setQueue _) _ h
  | roll k t r => exact enterReport_room (updRoll k reportTaken s) _ h

/-- Taking goes on until no slot is free or no report is offered (R192). -/
theorem drainFuel_done (n : Nat) (h : roomLeft s.link ≤ n) :
    Config.reportCapacity ≤ (drainFuel n s).link.reports.length ∨ offers (drainFuel n s) = [] := by
  induction n generalizing s with
  | zero => left; simp only [roomLeft] at h; simp only [drainFuel]; omega
  | succ n ih =>
    unfold drainFuel
    split
    · rename_i hl
      split
      · rename_i ho; right; cases hx : offers s with
        | nil => rfl
        | cons x rest => simp [hx, earliest] at ho
      · rename_i x _
        exact ih _ (by have := takeOffer_room s x hl; omega)
    · left; omega

/-- With room left there is nothing that more fuel would take. -/
theorem drainFuel_succ (n : Nat) (h : roomLeft s.link ≤ n) : drainFuel (n + 1) s = drainFuel n s := by
  induction n generalizing s with
  | zero =>
    have hl : ¬s.link.reports.length < Config.reportCapacity := by unfold roomLeft at h; omega
    simp [drainFuel, hl]
  | succ n ih =>
    rw [drainFuel, drainFuel]
    split
    · rename_i hl
      split
      · rfl
      · rename_i x _
        exact ih _ (by have := takeOffer_room s x hl; omega)
    · rfl

theorem drainFuel_enough (n m : Nat) (h : roomLeft s.link ≤ n) : drainFuel (n + m) s = drainFuel n s := by
  induction m with
  | zero => rfl
  | succ m ih => rw [← Nat.add_assoc, drainFuel_succ s _ (by omega), ih]

/-- With no slot free nothing is taken (R192). -/
theorem drainReports_full (h : Config.reportCapacity ≤ s.link.reports.length) : drainReports s = s := by
  have hd : ∀ n, drainFuel n s = s := fun n => by cases n <;> simp [drainFuel, Nat.not_lt.mpr h]
  exact hd _

/-- Past the taking of reports, no slot is free or no report is offered (R192). -/
theorem drainReports_done :
    Config.reportCapacity ≤ (drainReports s).link.reports.length ∨ offers (drainReports s) = [] := by
  rcases Nat.lt_or_ge s.link.reports.length Config.reportCapacity with h | h
  · exact drainFuel_done s _ (by unfold roomLeft; split <;> omega)
  · left; rw [drainReports_full s h]; exact h

/-- The taking of reports is that of any fuel that lasts. -/
theorem drainReports_eq (n : Nat) (h : roomLeft s.link ≤ n) : drainReports s = drainFuel n s := by
  rcases Nat.lt_or_ge s.link.reports.length Config.reportCapacity with hl | hl
  · have hr : roomLeft s.link ≤ Config.reportCapacity + 1 - s.link.reports.length := by
      unfold roomLeft; split <;> omega
    rw [drainReports, ← drainFuel_enough s _ n hr, Nat.add_comm, drainFuel_enough s n _ h]
  · rw [drainReports_full s hl]; cases n <;> simp [drainFuel, Nat.not_lt.mpr hl]

/-- With a slot free the earliest offer is taken, and then what is left (R9, R192). -/
theorem drainReports_step (x : Offer) (h : s.link.reports.length < Config.reportCapacity)
    (hx : earliest (offers s) = some x) : drainReports s = drainReports (takeOffer x s) := by
  rw [drainReports_eq s (roomLeft s.link) (Nat.le_refl _)]
  cases hn : roomLeft s.link with
  | zero => exact absurd (takeOffer_room s x h) (by omega)
  | succ n =>
    rw [drainReports_eq _ n (by have := takeOffer_room s x h; omega), drainFuel]
    simp [h, hx]

/-- The taking of reports leaves each roll as it was, or takes its waiting report (R192). -/
theorem drainFuel_roll (k : Back) (n : Nat) :
    (drainFuel n s).roll k = s.roll k ∨ (drainFuel n s).roll k = reportTaken (s.roll k) := by
  have again (r : Roll) : reportTaken (reportTaken r) = reportTaken r := by
    simp only [reportTaken]; split <;> simp_all
  induction n generalizing s with
  | zero => exact .inl rfl
  | succ n ih =>
    unfold drainFuel
    split
    · split
      · exact .inl rfl
      · rename_i x _
        have step : (takeOffer x s).roll k = s.roll k ∨ (takeOffer x s).roll k = reportTaken (s.roll k) := by
          cases x with
          | order e => left; simp [takeOffer, State.roll]
          | roll j t r =>
            by_cases h : k = j
            · subst h; right; simp [takeOffer, State.roll, updRoll, State.setRoll]
            · left; simp [takeOffer, State.roll, updRoll, State.setRoll, h]
        rcases ih (takeOffer x s) with hi | hi <;> rcases step with hs | hs <;> simp [hi, hs, again]
    · exact .inl rfl

theorem drainReports_roll (k : Back) :
    (drainReports s).roll k = s.roll k ∨ (drainReports s).roll k = reportTaken (s.roll k) := drainFuel_roll s k _

end Sys2Proof.Machine
end

