-- ==== Sys2Proof/Laws/Blocks.lean ====
section
/-!
SUPPORT. The parts of the state that each shared operation of the charge, order, roll, label and gate files leaves as they are.
-/

namespace Sys2Proof.Machine

variable (s : State)

/-! ## The Charge Unit (R130, R137 to R139) -/

@[simp] theorem chargeFrames_frame (w : Waste) (k : Back) (n : Nat) :
    (chargeFrames w k n s).pending = s.pending ∧ (chargeFrames w k n s).link = s.link ∧
    (chargeFrames w k n s).events = s.events ∧ (chargeFrames w k n s).queue = s.queue ∧
    (chargeFrames w k n s).gate = s.gate ∧ (chargeFrames w k n s).tables = s.tables ∧
    (chargeFrames w k n s).timer = s.timer ∧ (chargeFrames w k n s).rolls = s.rolls ∧
    (chargeFrames w k n s).labels = s.labels ∧ (chargeFrames w k n s).bus = s.bus ∧
    (chargeFrames w k n s).settings = s.settings ∧ (chargeFrames w k n s).charge.fees = s.charge.fees := by
  simp [chargeFrames]

@[simp] theorem chargeLabel_frame  :
    (chargeLabel s).pending = s.pending ∧ (chargeLabel s).link = s.link ∧ (chargeLabel s).events = s.events ∧
    (chargeLabel s).queue = s.queue ∧ (chargeLabel s).gate = s.gate ∧ (chargeLabel s).tables = s.tables ∧
    (chargeLabel s).timer = s.timer ∧ (chargeLabel s).rolls = s.rolls ∧ (chargeLabel s).labels = s.labels ∧
    (chargeLabel s).bus = s.bus ∧ (chargeLabel s).settings = s.settings ∧ (chargeLabel s).charge.fees = s.charge.fees := by
  simp [chargeLabel]

@[simp] theorem updAccount_frame (n : Nat) (f : Account → Account) :
    (updAccount n f s).pending = s.pending ∧ (updAccount n f s).link = s.link ∧
    (updAccount n f s).events = s.events ∧ (updAccount n f s).queue = s.queue ∧ (updAccount n f s).gate = s.gate ∧
    (updAccount n f s).tables = s.tables ∧ (updAccount n f s).timer = s.timer ∧ (updAccount n f s).rolls = s.rolls ∧
    (updAccount n f s).labels = s.labels ∧ (updAccount n f s).bus = s.bus ∧
    (updAccount n f s).settings = s.settings ∧ (updAccount n f s).charge.fees = s.charge.fees := by
  simp [updAccount]

@[simp] theorem settleOrder_frame (n : Nat) :
    (settleOrder n s).pending = s.pending ∧ (settleOrder n s).link = s.link ∧ (settleOrder n s).events = s.events ∧
    (settleOrder n s).gate = s.gate ∧ (settleOrder n s).tables = s.tables ∧ (settleOrder n s).timer = s.timer ∧
    (settleOrder n s).rolls = s.rolls ∧ (settleOrder n s).labels = s.labels ∧ (settleOrder n s).bus = s.bus ∧
    (settleOrder n s).settings = s.settings ∧ (settleOrder n s).charge.fees = s.charge.fees := by
  simp only [settleOrder]; split <;> simp

/-! ## The Order Queue (R8, R9, R14 to R16) -/

@[simp] theorem updLive_frame (n : Nat) (f : Order → Order) :
    (updLive n f s).pending = s.pending ∧ (updLive n f s).link = s.link ∧ (updLive n f s).events = s.events ∧
    (updLive n f s).gate = s.gate ∧ (updLive n f s).tables = s.tables ∧ (updLive n f s).timer = s.timer ∧
    (updLive n f s).rolls = s.rolls ∧ (updLive n f s).labels = s.labels ∧ (updLive n f s).charge = s.charge ∧
    (updLive n f s).bus = s.bus ∧ (updLive n f s).settings = s.settings := by
  simp [updLive]

@[simp] theorem removeItems_frame (n : Nat) :
    (removeItems n s).pending = s.pending ∧ (removeItems n s).link = s.link ∧ (removeItems n s).events = s.events ∧
    (removeItems n s).queue = s.queue ∧ (removeItems n s).tables = s.tables ∧ (removeItems n s).timer = s.timer ∧
    (removeItems n s).rolls = s.rolls ∧ (removeItems n s).labels = s.labels ∧ (removeItems n s).charge = s.charge ∧
    (removeItems n s).bus = s.bus ∧ (removeItems n s).settings = s.settings := by
  simp [removeItems]

@[simp] theorem removeMember_frame (n : Nat) :
    (removeMember n s).pending = s.pending ∧ (removeMember n s).link = s.link ∧
    (removeMember n s).events = s.events ∧ (removeMember n s).queue = s.queue ∧
    (removeMember n s).tables = s.tables ∧ (removeMember n s).timer = s.timer ∧ (removeMember n s).rolls = s.rolls ∧
    (removeMember n s).labels = s.labels ∧ (removeMember n s).charge = s.charge ∧ (removeMember n s).bus = s.bus ∧
    (removeMember n s).settings = s.settings := by
  simp [removeMember]

@[simp] theorem tick_frame  :
    (tick s).pending = s.pending ∧ (tick s).events = s.events ∧ (tick s).queue = s.queue ∧ (tick s).gate = s.gate ∧
    (tick s).tables = s.tables ∧ (tick s).timer = s.timer ∧ (tick s).rolls = s.rolls ∧ (tick s).labels = s.labels ∧
    (tick s).charge = s.charge ∧ (tick s).bus = s.bus ∧ (tick s).settings = s.settings := by
  simp [tick]

@[simp] theorem endOrder_frame (e : EndKind) (n : Nat) :
    (endOrder e n s).pending = s.pending ∧ (endOrder e n s).tables = s.tables ∧ (endOrder e n s).timer = s.timer ∧
    (endOrder e n s).rolls = s.rolls ∧ (endOrder e n s).labels = s.labels ∧ (endOrder e n s).bus = s.bus ∧
    (endOrder e n s).settings = s.settings ∧ (endOrder e n s).charge.fees = s.charge.fees := by
  simp only [endOrder]; (repeat' split) <;> simp

@[simp] theorem endOrders_frame (e : EndKind) (ns : List Nat) :
    (endOrders e ns s).pending = s.pending ∧ (endOrders e ns s).tables = s.tables ∧
    (endOrders e ns s).timer = s.timer ∧ (endOrders e ns s).rolls = s.rolls ∧ (endOrders e ns s).labels = s.labels ∧
    (endOrders e ns s).bus = s.bus ∧ (endOrders e ns s).settings = s.settings ∧
    (endOrders e ns s).charge.fees = s.charge.fees := by
  unfold endOrders; induction ns generalizing s with
  | nil => simp
  | cons n ns ih => simp [ih]

@[simp] theorem tellFault_frame :
    (tellFault s).pending = s.pending ∧ (tellFault s).gate = s.gate ∧ (tellFault s).tables = s.tables ∧
    (tellFault s).timer = s.timer ∧ (tellFault s).labels = s.labels ∧ (tellFault s).charge = s.charge ∧
    (tellFault s).bus = s.bus ∧ (tellFault s).settings = s.settings := by
  simp [tellFault]

/-- What a class B fault does to the state is the ending of its order, and what is told of it (R162). -/
theorem failOrder_cases (c : ClassB) (n : Nat) :
    ((s.live? n) = none ∧ failOrder c n s = s) ∨
    (∃ o, s.live? n = some o ∧ failOrder c n s = raise .orderFault (drainReports (endOrder (.faulted c) n s))) := by
  unfold failOrder; cases h : s.live? n <;> simp [tellFault]

@[simp] theorem failOrder_frame (c : ClassB) (n : Nat) :
    (failOrder c n s).pending = s.pending ∧ (failOrder c n s).tables = s.tables ∧ (failOrder c n s).timer = s.timer ∧
    (failOrder c n s).labels = s.labels ∧ (failOrder c n s).bus = s.bus ∧
    (failOrder c n s).settings = s.settings ∧ (failOrder c n s).charge.fees = s.charge.fees := by
  unfold failOrder; split <;> simp

@[simp] theorem failOrders_frame (c : ClassB) (ns : List Nat) :
    (failOrders c ns s).pending = s.pending ∧ (failOrders c ns s).tables = s.tables ∧
    (failOrders c ns s).timer = s.timer ∧ (failOrders c ns s).labels = s.labels ∧ (failOrders c ns s).bus = s.bus ∧
    (failOrders c ns s).settings = s.settings ∧ (failOrders c ns s).charge.fees = s.charge.fees := by
  unfold failOrders; induction ns generalizing s with
  | nil => simp
  | cons n ns ih => simp [ih]

@[simp] theorem refreshWanted_frame  :
    (refreshWanted s).pending = s.pending ∧ (refreshWanted s).gate = s.gate ∧ (refreshWanted s).tables = s.tables ∧
    (refreshWanted s).timer = s.timer ∧ (refreshWanted s).rolls = s.rolls ∧ (refreshWanted s).labels = s.labels ∧
    (refreshWanted s).charge = s.charge ∧ (refreshWanted s).bus = s.bus ∧ (refreshWanted s).settings = s.settings := by
  simp [refreshWanted]

/-! ## The Roll Tracker (R90 to R101) -/

@[simp] theorem dropList_frame (k : Back) :
    (dropList k s).pending = s.pending ∧ (dropList k s).link = s.link ∧ (dropList k s).events = s.events ∧
    (dropList k s).queue = s.queue ∧ (dropList k s).tables = s.tables ∧ (dropList k s).timer = s.timer ∧
    (dropList k s).rolls = s.rolls ∧ (dropList k s).labels = s.labels ∧ (dropList k s).charge = s.charge ∧
    (dropList k s).bus = s.bus ∧ (dropList k s).settings = s.settings := by
  simp [dropList]

@[simp] theorem clearOwed_frame (k : Back) :
    (clearOwed k s).pending = s.pending ∧ (clearOwed k s).link = s.link ∧ (clearOwed k s).events = s.events ∧
    (clearOwed k s).queue = s.queue ∧ (clearOwed k s).tables = s.tables ∧ (clearOwed k s).timer = s.timer ∧
    (clearOwed k s).rolls = s.rolls ∧ (clearOwed k s).labels = s.labels ∧ (clearOwed k s).charge = s.charge ∧
    (clearOwed k s).bus = s.bus ∧ (clearOwed k s).settings = s.settings := by
  simp [clearOwed]

@[simp] theorem composeReport_frame (k : Back) (c : CloseCause) :
    (composeReport k c s).pending = s.pending ∧ (composeReport k c s).queue = s.queue ∧
    (composeReport k c s).gate = s.gate ∧ (composeReport k c s).tables = s.tables ∧
    (composeReport k c s).timer = s.timer ∧ (composeReport k c s).labels = s.labels ∧
    (composeReport k c s).charge = s.charge ∧ (composeReport k c s).bus = s.bus ∧
    (composeReport k c s).settings = s.settings := by
  simp [composeReport]

@[simp] theorem enterClosing_frame (k : Back) (c : CloseCause) :
    (enterClosing k c s).pending = s.pending ∧ (enterClosing k c s).link = s.link ∧
    (enterClosing k c s).events = s.events ∧ (enterClosing k c s).queue = s.queue ∧
    (enterClosing k c s).tables = s.tables ∧ (enterClosing k c s).timer = s.timer ∧
    (enterClosing k c s).labels = s.labels ∧ (enterClosing k c s).charge = s.charge ∧
    (enterClosing k c s).bus = s.bus ∧ (enterClosing k c s).settings = s.settings := by
  simp [enterClosing]

@[simp] theorem finishClose_frame (k : Back) :
    (finishClose k s).pending = s.pending ∧ (finishClose k s).queue = s.queue ∧ (finishClose k s).gate = s.gate ∧
    (finishClose k s).tables = s.tables ∧ (finishClose k s).timer = s.timer ∧ (finishClose k s).labels = s.labels ∧
    (finishClose k s).charge = s.charge ∧ (finishClose k s).bus = s.bus ∧ (finishClose k s).settings = s.settings := by
  simp only [finishClose]; split <;> simp

@[simp] theorem closeRollFor_frame (k : Back) (c : CloseCause) :
    (closeRollFor k c s).pending = s.pending ∧ (closeRollFor k c s).queue = s.queue ∧
    (closeRollFor k c s).tables = s.tables ∧ (closeRollFor k c s).timer = s.timer ∧
    (closeRollFor k c s).labels = s.labels ∧ (closeRollFor k c s).charge = s.charge ∧
    (closeRollFor k c s).bus = s.bus ∧ (closeRollFor k c s).settings = s.settings := by
  simp [closeRollFor]

@[simp] theorem enterSuspect_frame (k : Back) :
    (enterSuspect k s).pending = s.pending ∧ (enterSuspect k s).link = s.link ∧
    (enterSuspect k s).events = s.events ∧ (enterSuspect k s).queue = s.queue ∧
    (enterSuspect k s).tables = s.tables ∧ (enterSuspect k s).timer = s.timer ∧
    (enterSuspect k s).labels = s.labels ∧ (enterSuspect k s).charge = s.charge ∧ (enterSuspect k s).bus = s.bus ∧
    (enterSuspect k s).settings = s.settings := by
  simp only [enterSuspect]; split <;> simp

@[simp] theorem blankRoll_frame (k : Back) :
    (blankRoll k s).pending = s.pending ∧ (blankRoll k s).link = s.link ∧ (blankRoll k s).events = s.events ∧
    (blankRoll k s).queue = s.queue ∧ (blankRoll k s).tables = s.tables ∧ (blankRoll k s).timer = s.timer ∧
    (blankRoll k s).labels = s.labels ∧ (blankRoll k s).settings = s.settings ∧
    (blankRoll k s).charge.fees = s.charge.fees := by
  simp [blankRoll]

@[simp] theorem sendLeader_frame (k : Back) :
    (sendLeader k s).pending = s.pending ∧ (sendLeader k s).link = s.link ∧ (sendLeader k s).events = s.events ∧
    (sendLeader k s).queue = s.queue ∧ (sendLeader k s).gate = s.gate ∧ (sendLeader k s).tables = s.tables ∧
    (sendLeader k s).timer = s.timer ∧ (sendLeader k s).rolls = s.rolls ∧ (sendLeader k s).labels = s.labels ∧
    (sendLeader k s).charge = s.charge ∧ (sendLeader k s).settings = s.settings := by
  simp only [sendLeader]; split <;> simp

@[simp] theorem writeFrame_frame (k : Back) (p : Nat) (e : MapEntry) :
    (writeFrame k p e s).pending = s.pending ∧ (writeFrame k p e s).link = s.link ∧
    (writeFrame k p e s).events = s.events ∧ (writeFrame k p e s).queue = s.queue ∧
    (writeFrame k p e s).gate = s.gate ∧ (writeFrame k p e s).tables = s.tables ∧
    (writeFrame k p e s).timer = s.timer ∧ (writeFrame k p e s).labels = s.labels ∧
    (writeFrame k p e s).charge = s.charge ∧ (writeFrame k p e s).bus = s.bus ∧
    (writeFrame k p e s).settings = s.settings := by
  simp [writeFrame]

@[simp] theorem recordCount_frame (k : Back) (c : Nat) :
    (recordCount k c s).pending = s.pending ∧ (recordCount k c s).link = s.link ∧
    (recordCount k c s).events = s.events ∧ (recordCount k c s).queue = s.queue ∧ (recordCount k c s).gate = s.gate ∧
    (recordCount k c s).tables = s.tables ∧ (recordCount k c s).timer = s.timer ∧
    (recordCount k c s).labels = s.labels ∧ (recordCount k c s).charge = s.charge ∧ (recordCount k c s).bus = s.bus ∧
    (recordCount k c s).settings = s.settings := by
  simp [recordCount]

/-! ## The Label Composer (R116 to R124) -/

@[simp] theorem queuePreceding_frame (k : Back) (x : LabelRec) :
    (queuePreceding k x s).pending = s.pending ∧ (queuePreceding k x s).link = s.link ∧
    (queuePreceding k x s).events = s.events ∧ (queuePreceding k x s).queue = s.queue ∧
    (queuePreceding k x s).gate = s.gate ∧ (queuePreceding k x s).tables = s.tables ∧
    (queuePreceding k x s).timer = s.timer ∧ (queuePreceding k x s).bus = s.bus ∧
    (queuePreceding k x s).settings = s.settings ∧ (queuePreceding k x s).labels.templates = s.labels.templates ∧
    (queuePreceding k x s).charge.fees = s.charge.fees := by
  simp only [queuePreceding]; split <;> simp

@[simp] theorem queueFrame_frame (k : Back) (p : Nat) (e : MapEntry) (x : LabelRec) :
    (queueFrame k p e x s).pending = s.pending ∧ (queueFrame k p e x s).link = s.link ∧
    (queueFrame k p e x s).events = s.events ∧ (queueFrame k p e x s).gate = s.gate ∧
    (queueFrame k p e x s).tables = s.tables ∧ (queueFrame k p e x s).timer = s.timer ∧
    (queueFrame k p e x s).bus = s.bus ∧ (queueFrame k p e x s).settings = s.settings ∧
    (queueFrame k p e x s).labels.templates = s.labels.templates ∧ (queueFrame k p e x s).charge.fees = s.charge.fees := by
  simp only [queueFrame]; split <;> simp

@[simp] theorem queueLabel_frame (k : Back) (p : Nat) (e : MapEntry) (x : LabelRec) :
    (queueLabel k p e x s).pending = s.pending ∧ (queueLabel k p e x s).link = s.link ∧
    (queueLabel k p e x s).events = s.events ∧ (queueLabel k p e x s).gate = s.gate ∧
    (queueLabel k p e x s).tables = s.tables ∧ (queueLabel k p e x s).timer = s.timer ∧
    (queueLabel k p e x s).bus = s.bus ∧ (queueLabel k p e x s).settings = s.settings ∧
    (queueLabel k p e x s).labels.templates = s.labels.templates ∧ (queueLabel k p e x s).charge.fees = s.charge.fees := by
  simp only [queueLabel]; cases preceding s k p <;> (repeat' split) <;> simp

@[simp] theorem composeLabel_frame (k : Back) (p : Nat) :
    (composeLabel k p s).pending = s.pending ∧ (composeLabel k p s).link = s.link ∧
    (composeLabel k p s).events = s.events ∧ (composeLabel k p s).gate = s.gate ∧
    (composeLabel k p s).tables = s.tables ∧ (composeLabel k p s).timer = s.timer ∧
    (composeLabel k p s).bus = s.bus ∧ (composeLabel k p s).settings = s.settings ∧
    (composeLabel k p s).labels.templates = s.labels.templates ∧ (composeLabel k p s).charge.fees = s.charge.fees := by
  simp only [composeLabel]; (repeat' split) <;> simp

@[simp] theorem tryPrint_frame  :
    (tryPrint s).pending = s.pending ∧ (tryPrint s).link = s.link ∧ (tryPrint s).events = s.events ∧
    (tryPrint s).queue = s.queue ∧ (tryPrint s).gate = s.gate ∧ (tryPrint s).tables = s.tables ∧
    (tryPrint s).timer = s.timer ∧ (tryPrint s).rolls = s.rolls ∧ (tryPrint s).charge = s.charge ∧
    (tryPrint s).settings = s.settings ∧ (tryPrint s).labels.templates = s.labels.templates := by
  simp only [tryPrint]; (repeat' split) <;> simp

/-! ## The Gate Sequencer (R22 to R40, R148 to R158) -/

@[simp] theorem holdVisit_frame (c : HoldCause) :
    (holdVisit c s).pending = s.pending ∧ (holdVisit c s).link = s.link ∧ (holdVisit c s).events = s.events ∧
    (holdVisit c s).queue = s.queue ∧ (holdVisit c s).tables = s.tables ∧ (holdVisit c s).timer = s.timer ∧
    (holdVisit c s).rolls = s.rolls ∧ (holdVisit c s).charge = s.charge ∧ (holdVisit c s).bus = s.bus ∧
    (holdVisit c s).settings = s.settings ∧ (holdVisit c s).labels.templates = s.labels.templates := by
  simp only [holdVisit]; split <;> simp

@[simp] theorem cutOutcome_frame (n : Nat) (k : Back) (x : CutOutcome) :
    (cutOutcome n k x s).pending = s.pending ∧ (cutOutcome n k x s).link = s.link ∧
    (cutOutcome n k x s).events = s.events ∧ (cutOutcome n k x s).queue = s.queue ∧
    (cutOutcome n k x s).tables = s.tables ∧ (cutOutcome n k x s).timer = s.timer ∧ (cutOutcome n k x s).rolls = s.rolls ∧
    (cutOutcome n k x s).labels = s.labels ∧ (cutOutcome n k x s).charge = s.charge ∧ (cutOutcome n k x s).bus = s.bus ∧
    (cutOutcome n k x s).settings = s.settings := by
  simp [cutOutcome]

@[simp] theorem raiseFault_frame (f : FaultRec) :
    (raiseFault f s).pending = s.pending ∧ (raiseFault f s).queue = s.queue ∧ (raiseFault f s).tables = s.tables ∧
    (raiseFault f s).timer = s.timer ∧ (raiseFault f s).rolls = s.rolls ∧ (raiseFault f s).charge = s.charge ∧
    (raiseFault f s).bus = s.bus ∧ (raiseFault f s).settings = s.settings ∧
    (raiseFault f s).labels.templates = s.labels.templates := by
  simp only [raiseFault]; split <;> simp

@[simp] theorem requeue_frame (ns : List Nat) :
    (requeue ns s).pending = s.pending ∧ (requeue ns s).link = s.link ∧ (requeue ns s).events = s.events ∧
    (requeue ns s).gate = s.gate ∧ (requeue ns s).tables = s.tables ∧ (requeue ns s).timer = s.timer ∧
    (requeue ns s).rolls = s.rolls ∧ (requeue ns s).labels = s.labels ∧ (requeue ns s).charge = s.charge ∧
    (requeue ns s).bus = s.bus ∧ (requeue ns s).settings = s.settings := by
  unfold requeue; induction ns generalizing s with
  | nil => simp
  | cons n ns ih => simp [ih]

@[simp] theorem endVisit_frame  :
    (endVisit s).pending = s.pending ∧ (endVisit s).tables = s.tables ∧ (endVisit s).timer = s.timer ∧
    (endVisit s).rolls = s.rolls ∧ (endVisit s).bus = s.bus ∧ (endVisit s).settings = s.settings ∧
    (endVisit s).labels.templates = s.labels.templates ∧ (endVisit s).charge.fees = s.charge.fees := by
  simp only [endVisit]; split <;> simp

/-- With no visit open there is nothing to close (R161). -/
@[simp] theorem closeVisit_none (h : s.gate.visit = none) : closeVisit s = s := by simp [closeVisit, h]

/-- The close of an open visit, in its three parts (R37, R192). -/
theorem closeVisit_some {v : Visit} (h : s.gate.visit = some v) :
    closeVisit s = refreshWanted (drainReports (endVisit s)) := by simp [closeVisit, h]

@[simp] theorem closeVisit_frame  :
    (closeVisit s).pending = s.pending ∧ (closeVisit s).tables = s.tables ∧ (closeVisit s).timer = s.timer ∧
    (closeVisit s).bus = s.bus ∧ (closeVisit s).settings = s.settings ∧
    (closeVisit s).labels.templates = s.labels.templates ∧ (closeVisit s).charge.fees = s.charge.fees := by
  simp only [closeVisit]; split <;> simp

@[simp] theorem sendLoad_frame  :
    (sendLoad s).pending = s.pending ∧ (sendLoad s).queue = s.queue ∧ (sendLoad s).tables = s.tables ∧
    (sendLoad s).timer = s.timer ∧ (sendLoad s).rolls = s.rolls ∧ (sendLoad s).charge = s.charge ∧
    (sendLoad s).settings = s.settings ∧ (sendLoad s).labels.templates = s.labels.templates := by
  simp only [sendLoad]; (repeat' split) <;> simp

@[simp] theorem sendReturn_frame  :
    (sendReturn s).pending = s.pending ∧ (sendReturn s).queue = s.queue ∧ (sendReturn s).tables = s.tables ∧
    (sendReturn s).timer = s.timer ∧ (sendReturn s).rolls = s.rolls ∧ (sendReturn s).charge = s.charge ∧
    (sendReturn s).settings = s.settings ∧ (sendReturn s).labels.templates = s.labels.templates := by
  simp only [sendReturn]; split <;> simp

@[simp] theorem enterReturning_frame  :
    (enterReturning s).pending = s.pending ∧ (enterReturning s).tables = s.tables ∧
    (enterReturning s).timer = s.timer ∧
    (enterReturning s).settings = s.settings ∧ (enterReturning s).labels.templates = s.labels.templates ∧
    (enterReturning s).charge.fees = s.charge.fees := by
  simp only [enterReturning]; (repeat' split) <;> simp

@[simp] theorem beginMetering_frame  :
    (beginMetering s).pending = s.pending ∧ (beginMetering s).link = s.link ∧ (beginMetering s).events = s.events ∧
    (beginMetering s).queue = s.queue ∧ (beginMetering s).tables = s.tables ∧ (beginMetering s).rolls = s.rolls ∧
    (beginMetering s).labels = s.labels ∧ (beginMetering s).charge = s.charge ∧
    (beginMetering s).settings = s.settings := by
  simp [beginMetering]

@[simp] theorem enterMetering_frame  :
    (enterMetering s).pending = s.pending ∧ (enterMetering s).queue = s.queue ∧ (enterMetering s).tables = s.tables ∧
    (enterMetering s).rolls = s.rolls ∧ (enterMetering s).charge = s.charge ∧
    (enterMetering s).settings = s.settings ∧ (enterMetering s).labels.templates = s.labels.templates := by
  simp only [enterMetering]; (repeat' split) <;> simp

@[simp] theorem cutMetering_frame  :
    (cutMetering s).pending = s.pending ∧ (cutMetering s).link = s.link ∧ (cutMetering s).events = s.events ∧
    (cutMetering s).queue = s.queue ∧ (cutMetering s).tables = s.tables ∧ (cutMetering s).rolls = s.rolls ∧
    (cutMetering s).labels = s.labels ∧ (cutMetering s).charge = s.charge ∧ (cutMetering s).bus = s.bus ∧
    (cutMetering s).settings = s.settings := by
  simp only [cutMetering]; split <;> simp

@[simp] theorem testReturning_frame  :
    (testReturning s).pending = s.pending ∧ (testReturning s).tables = s.tables ∧ (testReturning s).timer = s.timer ∧
    (testReturning s).settings = s.settings ∧
    (testReturning s).labels.templates = s.labels.templates ∧ (testReturning s).charge.fees = s.charge.fees := by
  simp only [testReturning]; split <;> simp

@[simp] theorem takeItem_frame (k : Back) (w : WorkItem) :
    (takeItem k w s).pending = s.pending ∧ (takeItem k w s).link = s.link ∧ (takeItem k w s).events = s.events ∧
    (takeItem k w s).tables = s.tables ∧ (takeItem k w s).timer = s.timer ∧ (takeItem k w s).rolls = s.rolls ∧
    (takeItem k w s).charge = s.charge ∧ (takeItem k w s).bus = s.bus ∧ (takeItem k w s).settings = s.settings ∧
    (takeItem k w s).labels.templates = s.labels.templates := by
  simp [takeItem]

@[simp] theorem armFiring_frame (wa wb : Option WorkItem) :
    (armFiring wa wb s).pending = s.pending ∧ (armFiring wa wb s).link = s.link ∧
    (armFiring wa wb s).events = s.events ∧ (armFiring wa wb s).tables = s.tables ∧
    (armFiring wa wb s).rolls = s.rolls ∧ (armFiring wa wb s).charge = s.charge ∧ (armFiring wa wb s).bus = s.bus ∧
    (armFiring wa wb s).settings = s.settings ∧ (armFiring wa wb s).labels.templates = s.labels.templates := by
  cases wa <;> cases wb <;> simp [armFiring]

@[simp] theorem blankUnfit_frame (k : Back) (w : Option WorkItem) :
    (blankUnfit k w s).pending = s.pending ∧ (blankUnfit k w s).link = s.link ∧
    (blankUnfit k w s).events = s.events ∧ (blankUnfit k w s).queue = s.queue ∧
    (blankUnfit k w s).tables = s.tables ∧ (blankUnfit k w s).timer = s.timer ∧
    (blankUnfit k w s).labels = s.labels ∧ (blankUnfit k w s).settings = s.settings ∧
    (blankUnfit k w s).charge.fees = s.charge.fees := by
  simp only [blankUnfit]; split <;> simp

@[simp] theorem startFiring_frame (v : Visit) :
    (startFiring v s).pending = s.pending ∧ (startFiring v s).tables = s.tables ∧
    (startFiring v s).settings = s.settings ∧ (startFiring v s).labels.templates = s.labels.templates ∧
    (startFiring v s).charge.fees = s.charge.fees := by
  simp only [startFiring]; split <;> simp

@[simp] theorem testFiring_frame  :
    (testFiring s).pending = s.pending ∧ (testFiring s).tables = s.tables ∧ (testFiring s).settings = s.settings ∧
    (testFiring s).labels.templates = s.labels.templates ∧ (testFiring s).charge.fees = s.charge.fees := by
  simp only [testFiring]; (repeat' split) <;> simp

@[simp] theorem testVisit_frame  :
    (testVisit s).pending = s.pending ∧ (testVisit s).tables = s.tables ∧ (testVisit s).settings = s.settings ∧
    (testVisit s).labels.templates = s.labels.templates ∧ (testVisit s).charge.fees = s.charge.fees := by
  simp [testVisit]

@[simp] theorem enterExposing_frame  :
    (enterExposing s).pending = s.pending ∧ (enterExposing s).tables = s.tables ∧
    (enterExposing s).settings = s.settings ∧ (enterExposing s).labels.templates = s.labels.templates ∧
    (enterExposing s).charge.fees = s.charge.fees := by
  simp [enterExposing]

@[simp] theorem placeRedo_frame (k : Back) (w : WorkItem) :
    (placeRedo k w s).pending = s.pending ∧ (placeRedo k w s).link = s.link ∧ (placeRedo k w s).events = s.events ∧
    (placeRedo k w s).queue = s.queue ∧ (placeRedo k w s).tables = s.tables ∧ (placeRedo k w s).timer = s.timer ∧
    (placeRedo k w s).rolls = s.rolls ∧ (placeRedo k w s).labels = s.labels ∧ (placeRedo k w s).charge = s.charge ∧
    (placeRedo k w s).bus = s.bus ∧ (placeRedo k w s).settings = s.settings := by
  simp [placeRedo]

@[simp] theorem unhold_frame  :
    (unhold s).pending = s.pending ∧ (unhold s).link = s.link ∧ (unhold s).events = s.events ∧
    (unhold s).queue = s.queue ∧ (unhold s).tables = s.tables ∧ (unhold s).timer = s.timer ∧
    (unhold s).rolls = s.rolls ∧ (unhold s).labels = s.labels ∧ (unhold s).charge = s.charge ∧
    (unhold s).bus = s.bus ∧ (unhold s).settings = s.settings := by
  simp [unhold]

@[simp] theorem continueVisit_frame  :
    (continueVisit s).pending = s.pending ∧ (continueVisit s).tables = s.tables ∧
    (continueVisit s).settings = s.settings ∧ (continueVisit s).labels.templates = s.labels.templates ∧
    (continueVisit s).charge.fees = s.charge.fees := by
  simp only [continueVisit]; (repeat' split) <;> simp

@[simp] theorem releasePath_frame  :
    (releasePath s).pending = s.pending ∧ (releasePath s).tables = s.tables ∧ (releasePath s).timer = s.timer ∧
    (releasePath s).settings = s.settings ∧
    (releasePath s).labels.templates = s.labels.templates ∧ (releasePath s).charge.fees = s.charge.fees := by
  simp only [releasePath]; (repeat' split) <;> simp

@[simp] theorem open_frame (w : Order) :
    (open_ w s).pending = s.pending ∧ (open_ w s).tables = s.tables ∧ (open_ w s).timer = s.timer ∧
    (open_ w s).rolls = s.rolls ∧ (open_ w s).charge = s.charge ∧ (open_ w s).settings = s.settings ∧
    (open_ w s).labels.templates = s.labels.templates := by
  simp [open_]

@[simp] theorem choose_frame  :
    (choose s).pending = s.pending ∧ (choose s).tables = s.tables ∧ (choose s).timer = s.timer ∧
    (choose s).rolls = s.rolls ∧ (choose s).charge = s.charge ∧ (choose s).settings = s.settings ∧
    (choose s).labels.templates = s.labels.templates := by
  simp only [choose]; (repeat' split) <;> simp

@[simp] theorem enterStopped_frame  :
    (enterStopped s).pending = s.pending ∧ (enterStopped s).queue = s.queue ∧ (enterStopped s).tables = s.tables ∧
    (enterStopped s).timer = s.timer ∧ (enterStopped s).rolls = s.rolls ∧ (enterStopped s).labels = s.labels ∧
    (enterStopped s).charge = s.charge ∧ (enterStopped s).bus = s.bus ∧ (enterStopped s).settings = s.settings := by
  simp [enterStopped]

@[simp] theorem stopEnds_frame  :
    (stopEnds s).pending = s.pending ∧ (stopEnds s).queue = s.queue ∧ (stopEnds s).tables = s.tables ∧
    (stopEnds s).timer = s.timer ∧ (stopEnds s).rolls = s.rolls ∧ (stopEnds s).labels = s.labels ∧
    (stopEnds s).charge = s.charge ∧ (stopEnds s).bus = s.bus ∧ (stopEnds s).settings = s.settings := by
  simp only [stopEnds]; split <;> simp

end Sys2Proof.Machine
end

