-- ==== Sys2Proof/Laws/Firing.lean ====
section
/-!
SUPPORT. The parts of the state that each shared operation of the firing, loss and cleanup files leaves as they are.
-/

namespace Sys2Proof.Machine

variable (s : State)

/-! ## Firings (R72 to R83) -/

@[simp] theorem dropLines_frame (x : PerBack (Option FrameRec)) :
    (dropLines x s).pending = s.pending ∧ (dropLines x s).link = s.link ∧ (dropLines x s).events = s.events ∧
    (dropLines x s).queue = s.queue ∧ (dropLines x s).gate = s.gate ∧ (dropLines x s).tables = s.tables ∧
    (dropLines x s).rolls = s.rolls ∧ (dropLines x s).labels = s.labels ∧ (dropLines x s).charge = s.charge ∧
    (dropLines x s).bus = s.bus ∧ (dropLines x s).settings = s.settings := by
  simp [dropLines]

@[simp] theorem oweAdvance_frame (k : Back) :
    (oweAdvance k s).pending = s.pending ∧ (oweAdvance k s).link = s.link ∧ (oweAdvance k s).events = s.events ∧
    (oweAdvance k s).queue = s.queue ∧ (oweAdvance k s).tables = s.tables ∧ (oweAdvance k s).timer = s.timer ∧
    (oweAdvance k s).rolls = s.rolls ∧ (oweAdvance k s).labels = s.labels ∧ (oweAdvance k s).charge = s.charge ∧
    (oweAdvance k s).settings = s.settings := by
  simp [oweAdvance]

@[simp] theorem oweAdvances_frame (ks : List Back) :
    (oweAdvances ks s).pending = s.pending ∧ (oweAdvances ks s).link = s.link ∧
    (oweAdvances ks s).events = s.events ∧ (oweAdvances ks s).queue = s.queue ∧
    (oweAdvances ks s).tables = s.tables ∧ (oweAdvances ks s).timer = s.timer ∧ (oweAdvances ks s).rolls = s.rolls ∧
    (oweAdvances ks s).labels = s.labels ∧ (oweAdvances ks s).charge = s.charge ∧
    (oweAdvances ks s).settings = s.settings := by
  unfold oweAdvances; induction ks generalizing s with
  | nil => simp
  | cons n ns ih => simp [ih]

@[simp] theorem endFiring_frame  :
    (endFiring s).pending = s.pending ∧ (endFiring s).tables = s.tables ∧ (endFiring s).settings = s.settings ∧
    (endFiring s).labels.templates = s.labels.templates ∧ (endFiring s).charge.fees = s.charge.fees := by
  simp only [endFiring]; split <;> simp

@[simp] theorem tellLampSpoil_frame (k : Back) (w : WorkItem) :
    (tellLampSpoil k w s).pending = s.pending ∧ (tellLampSpoil k w s).link = s.link ∧
    (tellLampSpoil k w s).events = s.events ∧ (tellLampSpoil k w s).tables = s.tables ∧
    (tellLampSpoil k w s).timer = s.timer ∧ (tellLampSpoil k w s).rolls = s.rolls ∧
    (tellLampSpoil k w s).labels = s.labels ∧ (tellLampSpoil k w s).charge = s.charge ∧
    (tellLampSpoil k w s).bus = s.bus ∧ (tellLampSpoil k w s).settings = s.settings := by
  simp only [tellLampSpoil]; (repeat' split) <;> simp

@[simp] theorem spoilShot_frame (k : Back) (x : Option Shot) :
    (spoilShot k x s).pending = s.pending ∧ (spoilShot k x s).link = s.link ∧ (spoilShot k x s).events = s.events ∧
    (spoilShot k x s).tables = s.tables ∧ (spoilShot k x s).timer = s.timer ∧ (spoilShot k x s).rolls = s.rolls ∧
    (spoilShot k x s).labels = s.labels ∧ (spoilShot k x s).bus = s.bus ∧ (spoilShot k x s).settings = s.settings ∧
    (spoilShot k x s).charge.fees = s.charge.fees := by
  simp only [spoilShot]; split <;> simp

@[simp] theorem cutOutcomeIncluded_frame (n : Nat) (t : State) :
    (abortFiring.cutOutcomeIncluded n t s).pending = s.pending ∧ (abortFiring.cutOutcomeIncluded n t s).link = s.link ∧
    (abortFiring.cutOutcomeIncluded n t s).events = s.events ∧ (abortFiring.cutOutcomeIncluded n t s).queue = s.queue ∧
    (abortFiring.cutOutcomeIncluded n t s).tables = s.tables ∧ (abortFiring.cutOutcomeIncluded n t s).timer = s.timer ∧
    (abortFiring.cutOutcomeIncluded n t s).rolls = s.rolls ∧ (abortFiring.cutOutcomeIncluded n t s).labels = s.labels ∧
    (abortFiring.cutOutcomeIncluded n t s).charge = s.charge ∧ (abortFiring.cutOutcomeIncluded n t s).bus = s.bus ∧
    (abortFiring.cutOutcomeIncluded n t s).settings = s.settings := by
  unfold abortFiring.cutOutcomeIncluded; induction includedBacks t generalizing s with
  | nil => simp
  | cons n ns ih => simp [ih]

@[simp] theorem abortFiring_frame  :
    (abortFiring s).pending = s.pending ∧ (abortFiring s).tables = s.tables ∧ (abortFiring s).settings = s.settings ∧
    (abortFiring s).labels.templates = s.labels.templates ∧ (abortFiring s).charge.fees = s.charge.fees := by
  simp only [abortFiring]; split <;> simp

@[simp] theorem cutPending_frame (n : Nat) (k : Back) (w : WorkItem) :
    (cutPending n k w s).pending = s.pending ∧ (cutPending n k w s).link = s.link ∧
    (cutPending n k w s).events = s.events ∧ (cutPending n k w s).tables = s.tables ∧
    (cutPending n k w s).timer = s.timer ∧ (cutPending n k w s).rolls = s.rolls ∧ (cutPending n k w s).labels = s.labels ∧
    (cutPending n k w s).bus = s.bus ∧ (cutPending n k w s).settings = s.settings ∧
    (cutPending n k w s).charge.fees = s.charge.fees := by
  simp [cutPending]

@[simp] theorem endEmpty_frame :
    (endEmpty s).pending = s.pending ∧ (endEmpty s).link = s.link ∧ (endEmpty s).events = s.events ∧
    (endEmpty s).queue = s.queue ∧ (endEmpty s).gate = s.gate ∧ (endEmpty s).tables = s.tables ∧
    (endEmpty s).rolls = s.rolls ∧ (endEmpty s).labels = s.labels ∧ (endEmpty s).charge = s.charge ∧
    (endEmpty s).bus = s.bus ∧ (endEmpty s).settings = s.settings := by
  simp only [endEmpty]; split <;> simp

@[simp] theorem leaveFiring_frame (k : Back) :
    (leaveFiring k s).pending = s.pending ∧ (leaveFiring k s).link = s.link ∧ (leaveFiring k s).events = s.events ∧
    (leaveFiring k s).tables = s.tables ∧ (leaveFiring k s).rolls = s.rolls ∧ (leaveFiring k s).labels = s.labels ∧
    (leaveFiring k s).bus = s.bus ∧ (leaveFiring k s).settings = s.settings ∧
    (leaveFiring k s).charge.fees = s.charge.fees := by
  simp only [leaveFiring]; split <;> simp

@[simp] theorem stepHold_frame (n : Nat) :
    (stepHold n s).pending = s.pending ∧ (stepHold n s).link = s.link ∧ (stepHold n s).events = s.events ∧
    (stepHold n s).queue = s.queue ∧ (stepHold n s).tables = s.tables ∧ (stepHold n s).timer = s.timer ∧
    (stepHold n s).rolls = s.rolls ∧ (stepHold n s).charge = s.charge ∧ (stepHold n s).bus = s.bus ∧
    (stepHold n s).settings = s.settings ∧ (stepHold n s).labels.templates = s.labels.templates := by
  simp only [stepHold]; split <;> simp

@[simp] theorem firingAfterLoss_frame (n : Nat) :
    (firingAfterLoss n s).pending = s.pending ∧ (firingAfterLoss n s).tables = s.tables ∧
    (firingAfterLoss n s).settings = s.settings ∧ (firingAfterLoss n s).labels.templates = s.labels.templates ∧
    (firingAfterLoss n s).charge.fees = s.charge.fees := by
  simp only [firingAfterLoss]; (repeat' split) <;> simp

@[simp] theorem stepAfterFrame_frame (f : Option FrameRec) :
    (stepAfterFrame f s).pending = s.pending ∧ (stepAfterFrame f s).link = s.link ∧
    (stepAfterFrame f s).events = s.events ∧ (stepAfterFrame f s).queue = s.queue ∧
    (stepAfterFrame f s).tables = s.tables ∧ (stepAfterFrame f s).timer = s.timer ∧
    (stepAfterFrame f s).rolls = s.rolls ∧ (stepAfterFrame f s).charge = s.charge ∧
    (stepAfterFrame f s).bus = s.bus ∧ (stepAfterFrame f s).settings = s.settings ∧
    (stepAfterFrame f s).labels.templates = s.labels.templates := by
  cases f <;> simp [stepAfterFrame]

@[simp] theorem afterLoss_frame (k : Back) (before : State) :
    (afterLoss k before s).pending = s.pending ∧ (afterLoss k before s).tables = s.tables ∧
    (afterLoss k before s).settings = s.settings ∧ (afterLoss k before s).labels.templates = s.labels.templates ∧
    (afterLoss k before s).charge.fees = s.charge.fees := by
  simp only [afterLoss]; split <;> simp

@[simp] theorem completeCancels_frame  :
    (completeCancels s).pending = s.pending ∧ (completeCancels s).tables = s.tables ∧
    (completeCancels s).timer = s.timer ∧
    (completeCancels s).labels = s.labels ∧ (completeCancels s).bus = s.bus ∧
    (completeCancels s).settings = s.settings ∧ (completeCancels s).charge.fees = s.charge.fees := by
  simp [completeCancels]

@[simp] theorem applyOutcome_frame (k : Back) (f : FrameRec) (m : Nat) :
    (applyOutcome k f m s).pending = s.pending ∧ (applyOutcome k f m s).tables = s.tables ∧
    (applyOutcome k f m s).timer = s.timer ∧ (applyOutcome k f m s).rolls = s.rolls ∧
    (applyOutcome k f m s).labels = s.labels ∧ (applyOutcome k f m s).bus = s.bus ∧
    (applyOutcome k f m s).settings = s.settings ∧ (applyOutcome k f m s).charge.fees = s.charge.fees := by
  simp only [applyOutcome]; (repeat' split) <;> simp

@[simp] theorem redoAfter_frame (k : Back) (f : FrameRec) (m : Nat) (t : State) :
    (redoAfter k f m t s).pending = s.pending ∧ (redoAfter k f m t s).link = s.link ∧
    (redoAfter k f m t s).events = s.events ∧ (redoAfter k f m t s).queue = s.queue ∧
    (redoAfter k f m t s).tables = s.tables ∧ (redoAfter k f m t s).timer = s.timer ∧
    (redoAfter k f m t s).rolls = s.rolls ∧ (redoAfter k f m t s).labels = s.labels ∧
    (redoAfter k f m t s).charge = s.charge ∧ (redoAfter k f m t s).bus = s.bus ∧
    (redoAfter k f m t s).settings = s.settings := by
  simp only [redoAfter]; split <;> simp

@[simp] theorem chargeOutcome_frame (k : Back) (f : FrameRec) (m : Nat) :
    (chargeOutcome k f m s).pending = s.pending ∧ (chargeOutcome k f m s).link = s.link ∧
    (chargeOutcome k f m s).events = s.events ∧ (chargeOutcome k f m s).queue = s.queue ∧
    (chargeOutcome k f m s).gate = s.gate ∧ (chargeOutcome k f m s).tables = s.tables ∧
    (chargeOutcome k f m s).timer = s.timer ∧ (chargeOutcome k f m s).rolls = s.rolls ∧
    (chargeOutcome k f m s).labels = s.labels ∧ (chargeOutcome k f m s).bus = s.bus ∧
    (chargeOutcome k f m s).settings = s.settings ∧ (chargeOutcome k f m s).charge.fees = s.charge.fees := by
  simp only [chargeOutcome]; split <;> simp

/-! ## Losses and timeouts (R101 to R103, R172 to R176) -/

@[simp] theorem loseShot_frame (k : Back) :
    (loseShot k s).pending = s.pending ∧ (loseShot k s).link = s.link ∧ (loseShot k s).events = s.events ∧
    (loseShot k s).tables = s.tables ∧ (loseShot k s).labels = s.labels ∧ (loseShot k s).bus = s.bus ∧
    (loseShot k s).settings = s.settings ∧ (loseShot k s).charge.fees = s.charge.fees := by
  simp only [loseShot]; split <;> simp

@[simp] theorem dropFrame_frame (k : Back) :
    (dropFrame k s).pending = s.pending ∧ (dropFrame k s).link = s.link ∧ (dropFrame k s).events = s.events ∧
    (dropFrame k s).queue = s.queue ∧ (dropFrame k s).gate = s.gate ∧ (dropFrame k s).tables = s.tables ∧
    (dropFrame k s).rolls = s.rolls ∧ (dropFrame k s).labels = s.labels ∧ (dropFrame k s).charge = s.charge ∧
    (dropFrame k s).bus = s.bus ∧ (dropFrame k s).settings = s.settings := by
  simp [dropFrame]

@[simp] theorem cutFrameRec_frame (k : Back) (f : FrameRec) :
    (cutFrameRec k f s).pending = s.pending ∧ (cutFrameRec k f s).link = s.link ∧
    (cutFrameRec k f s).events = s.events ∧ (cutFrameRec k f s).tables = s.tables ∧
    (cutFrameRec k f s).rolls = s.rolls ∧ (cutFrameRec k f s).labels = s.labels ∧ (cutFrameRec k f s).bus = s.bus ∧
    (cutFrameRec k f s).settings = s.settings ∧ (cutFrameRec k f s).charge.fees = s.charge.fees := by
  simp only [cutFrameRec]; split <;> simp

@[simp] theorem loseFrame_frame (k : Back) :
    (loseFrame k s).pending = s.pending ∧ (loseFrame k s).link = s.link ∧ (loseFrame k s).events = s.events ∧
    (loseFrame k s).tables = s.tables ∧ (loseFrame k s).labels = s.labels ∧ (loseFrame k s).bus = s.bus ∧
    (loseFrame k s).settings = s.settings ∧ (loseFrame k s).charge.fees = s.charge.fees := by
  simp only [loseFrame]; split <;> simp

@[simp] theorem fogItem_frame (k : Back) (x : (Nat × Nat × Nat) × Bool) :
    (fogItem k s x).pending = s.pending ∧ (fogItem k s x).link = s.link ∧ (fogItem k s x).events = s.events ∧
    (fogItem k s x).gate = s.gate ∧ (fogItem k s x).tables = s.tables ∧ (fogItem k s x).timer = s.timer ∧
    (fogItem k s x).rolls = s.rolls ∧ (fogItem k s x).labels = s.labels ∧ (fogItem k s x).bus = s.bus ∧
    (fogItem k s x).settings = s.settings ∧ (fogItem k s x).charge.fees = s.charge.fees := by
  simp only [fogItem]; split <;> simp

@[simp] theorem fogItems_frame (k : Back) (l : List ((Nat × Nat × Nat) × Bool)) :
    (l.foldl (fogItem k) s).pending = s.pending ∧ (l.foldl (fogItem k) s).link = s.link ∧
    (l.foldl (fogItem k) s).events = s.events ∧ (l.foldl (fogItem k) s).gate = s.gate ∧
    (l.foldl (fogItem k) s).tables = s.tables ∧ (l.foldl (fogItem k) s).timer = s.timer ∧
    (l.foldl (fogItem k) s).rolls = s.rolls ∧ (l.foldl (fogItem k) s).labels = s.labels ∧
    (l.foldl (fogItem k) s).bus = s.bus ∧ (l.foldl (fogItem k) s).settings = s.settings ∧
    (l.foldl (fogItem k) s).charge.fees = s.charge.fees := by
  induction l generalizing s with
  | nil => simp
  | cons x l ih => simp [ih]

@[simp] theorem fogRoll_frame (k : Back) :
    (fogRoll k s).pending = s.pending ∧ (fogRoll k s).link = s.link ∧ (fogRoll k s).events = s.events ∧
    (fogRoll k s).gate = s.gate ∧ (fogRoll k s).tables = s.tables ∧ (fogRoll k s).timer = s.timer ∧
    (fogRoll k s).labels = s.labels ∧ (fogRoll k s).bus = s.bus ∧ (fogRoll k s).settings = s.settings ∧
    (fogRoll k s).charge.fees = s.charge.fees := by
  simp [fogRoll]

@[simp] theorem rollLost_frame (k : Back) :
    (rollLost k s).pending = s.pending ∧ (rollLost k s).tables = s.tables ∧ (rollLost k s).settings = s.settings ∧
    (rollLost k s).labels.templates = s.labels.templates ∧ (rollLost k s).charge.fees = s.charge.fees := by
  simp [rollLost]

@[simp] theorem backGone_frame (k : Back) :
    (backGone k s).pending = s.pending ∧ (backGone k s).tables = s.tables ∧ (backGone k s).settings = s.settings ∧
    (backGone k s).labels.templates = s.labels.templates ∧ (backGone k s).charge.fees = s.charge.fees := by
  simp only [backGone]; split <;> simp

@[simp] theorem changeSlot_frame (u : UnitSlot) (x : SlotState) :
    (changeSlot u x s).pending = s.pending ∧ (changeSlot u x s).queue = s.queue ∧ (changeSlot u x s).gate = s.gate ∧
    (changeSlot u x s).tables = s.tables ∧ (changeSlot u x s).timer = s.timer ∧ (changeSlot u x s).rolls = s.rolls ∧
    (changeSlot u x s).labels = s.labels ∧ (changeSlot u x s).charge = s.charge ∧
    (changeSlot u x s).settings = s.settings := by
  simp [changeSlot]

@[simp] theorem answerLost_frame (c : Issued) :
    (answerLost c s).pending = s.pending ∧ (answerLost c s).events = s.events ∧ (answerLost c s).queue = s.queue ∧
    (answerLost c s).gate = s.gate ∧ (answerLost c s).tables = s.tables ∧ (answerLost c s).timer = s.timer ∧
    (answerLost c s).rolls = s.rolls ∧ (answerLost c s).charge = s.charge ∧ (answerLost c s).bus = s.bus ∧
    (answerLost c s).settings = s.settings ∧ (answerLost c s).labels.templates = s.labels.templates := by
  simp only [answerLost]; split <;> simp

@[simp] theorem answersLost_frame (l : List Issued) :
    (l.foldl (fun t c => answerLost c t) s).pending = s.pending ∧
    (l.foldl (fun t c => answerLost c t) s).events = s.events ∧
    (l.foldl (fun t c => answerLost c t) s).queue = s.queue ∧ (l.foldl (fun t c => answerLost c t) s).gate = s.gate ∧
    (l.foldl (fun t c => answerLost c t) s).tables = s.tables ∧
    (l.foldl (fun t c => answerLost c t) s).timer = s.timer ∧
    (l.foldl (fun t c => answerLost c t) s).rolls = s.rolls ∧
    (l.foldl (fun t c => answerLost c t) s).charge = s.charge ∧ (l.foldl (fun t c => answerLost c t) s).bus = s.bus ∧
    (l.foldl (fun t c => answerLost c t) s).settings = s.settings ∧
    (l.foldl (fun t c => answerLost c t) s).labels.templates = s.labels.templates := by
  induction l generalizing s with
  | nil => simp
  | cons x l ih => simp [ih]

@[simp] theorem keepFailure_frame (k : FaultKind) :
    (keepFailure k s).pending = s.pending ∧ (keepFailure k s).link = s.link ∧ (keepFailure k s).events = s.events ∧
    (keepFailure k s).queue = s.queue ∧ (keepFailure k s).tables = s.tables ∧ (keepFailure k s).timer = s.timer ∧
    (keepFailure k s).rolls = s.rolls ∧ (keepFailure k s).labels = s.labels ∧ (keepFailure k s).charge = s.charge ∧
    (keepFailure k s).bus = s.bus ∧ (keepFailure k s).settings = s.settings := by
  simp [keepFailure]

@[simp] theorem handOnLoss_frame (u : UnitSlot) (x : Bool) :
    (handOnLoss u x s).pending = s.pending ∧ (handOnLoss u x s).tables = s.tables ∧
    (handOnLoss u x s).settings = s.settings ∧ (handOnLoss u x s).labels.templates = s.labels.templates ∧
    (handOnLoss u x s).charge.fees = s.charge.fees := by
  simp only [handOnLoss]; (repeat' split) <;> simp

@[simp] theorem slotLost_frame (u : UnitSlot) (x : SlotState) :
    (slotLost u x s).pending = s.pending ∧ (slotLost u x s).tables = s.tables ∧
    (slotLost u x s).settings = s.settings ∧ (slotLost u x s).labels.templates = s.labels.templates ∧
    (slotLost u x s).charge.fees = s.charge.fees := by
  simp [slotLost]

@[simp] theorem advanceLost_frame (k : Back) :
    (advanceLost k s).pending = s.pending ∧ (advanceLost k s).link = s.link ∧ (advanceLost k s).events = s.events ∧
    (advanceLost k s).tables = s.tables ∧ (advanceLost k s).labels = s.labels ∧ (advanceLost k s).bus = s.bus ∧
    (advanceLost k s).settings = s.settings ∧ (advanceLost k s).charge.fees = s.charge.fees := by
  simp only [advanceLost]; (repeat' split) <;> simp

@[simp] theorem otherTimeout_frame (k : Back) :
    (otherTimeout k s).pending = s.pending ∧ (otherTimeout k s).link = s.link ∧
    (otherTimeout k s).events = s.events ∧ (otherTimeout k s).tables = s.tables ∧
    (otherTimeout k s).labels = s.labels ∧ (otherTimeout k s).bus = s.bus ∧
    (otherTimeout k s).settings = s.settings ∧ (otherTimeout k s).charge.fees = s.charge.fees := by
  simp only [otherTimeout]; (repeat' split) <;> simp

@[simp] theorem backTimeout_frame (u : UnitSlot) :
    (backTimeout u s).pending = s.pending ∧ (backTimeout u s).link = s.link ∧ (backTimeout u s).events = s.events ∧
    (backTimeout u s).tables = s.tables ∧ (backTimeout u s).labels = s.labels ∧ (backTimeout u s).bus = s.bus ∧
    (backTimeout u s).settings = s.settings ∧ (backTimeout u s).charge.fees = s.charge.fees := by
  cases u <;> simp [backTimeout, UnitSlot.back]

@[simp] theorem takeTimeout_frame (u : UnitSlot) (c : Issued) :
    (takeTimeout u c s).pending = s.pending ∧ (takeTimeout u c s).tables = s.tables ∧
    (takeTimeout u c s).bus = s.bus ∧ (takeTimeout u c s).settings = s.settings ∧
    (takeTimeout u c s).labels.templates = s.labels.templates ∧ (takeTimeout u c s).charge.fees = s.charge.fees := by
  unfold takeTimeout; cases u <;> (repeat' split) <;> simp [UnitSlot.back]

@[simp] theorem withdraw_frame (u : UnitSlot) (c : Issued) :
    (withdraw u s c).pending = s.pending ∧ (withdraw u s c).tables = s.tables ∧ (withdraw u s c).bus = s.bus ∧
    (withdraw u s c).settings = s.settings ∧ (withdraw u s c).labels.templates = s.labels.templates ∧
    (withdraw u s c).charge.fees = s.charge.fees := by
  unfold withdraw; cases u <;> (repeat' split) <;> simp [UnitSlot.back]

@[simp] theorem withdraws_frame (u : UnitSlot) (l : List Issued) :
    (l.foldl (withdraw u) s).pending = s.pending ∧ (l.foldl (withdraw u) s).tables = s.tables ∧
    (l.foldl (withdraw u) s).bus = s.bus ∧ (l.foldl (withdraw u) s).settings = s.settings ∧
    (l.foldl (withdraw u) s).labels.templates = s.labels.templates ∧
    (l.foldl (withdraw u) s).charge.fees = s.charge.fees := by
  induction l generalizing s with
  | nil => simp
  | cons x l ih => simp [ih]

@[simp] theorem absentUnit_frame (u : UnitSlot) :
    (absentUnit u s).pending = s.pending ∧ (absentUnit u s).link = s.link ∧ (absentUnit u s).events = s.events ∧
    (absentUnit u s).queue = s.queue ∧ (absentUnit u s).tables = s.tables ∧ (absentUnit u s).labels = s.labels ∧
    (absentUnit u s).charge = s.charge ∧ (absentUnit u s).settings = s.settings := by
  unfold absentUnit absentUnit.noBackAfter; (repeat' split) <;> simp

@[simp] theorem timedOut_frame (u : UnitSlot) (o : Outstanding) :
    (timedOut u o s).pending = s.pending ∧ (timedOut u o s).tables = s.tables ∧ (timedOut u o s).settings = s.settings ∧
    (timedOut u o s).labels.templates = s.labels.templates ∧ (timedOut u o s).charge.fees = s.charge.fees := by
  simp [timedOut]

@[simp] theorem commandTimeout_frame (u : UnitSlot) (o : Outstanding) :
    (commandTimeout u o s).pending = s.pending ∧ (commandTimeout u o s).tables = s.tables ∧
    (commandTimeout u o s).settings = s.settings ∧ (commandTimeout u o s).labels.templates = s.labels.templates ∧
    (commandTimeout u o s).charge.fees = s.charge.fees := by
  cases u <;> simp [commandTimeout, UnitSlot.back]

/-! ## LINK RESET (R163 to R166) -/

@[simp] theorem settles_frame (ns : List Nat) :
    (ns.foldl (fun t n => settleOrder n t) s).pending = s.pending ∧
    (ns.foldl (fun t n => settleOrder n t) s).link = s.link ∧
    (ns.foldl (fun t n => settleOrder n t) s).events = s.events ∧
    (ns.foldl (fun t n => settleOrder n t) s).gate = s.gate ∧
    (ns.foldl (fun t n => settleOrder n t) s).tables = s.tables ∧
    (ns.foldl (fun t n => settleOrder n t) s).timer = s.timer ∧
    (ns.foldl (fun t n => settleOrder n t) s).rolls = s.rolls ∧
    (ns.foldl (fun t n => settleOrder n t) s).labels = s.labels ∧
    (ns.foldl (fun t n => settleOrder n t) s).bus = s.bus ∧
    (ns.foldl (fun t n => settleOrder n t) s).settings = s.settings ∧
    (ns.foldl (fun t n => settleOrder n t) s).charge.fees = s.charge.fees := by
  induction ns generalizing s with
  | nil => simp
  | cons x l ih => simp [ih]

@[simp] theorem resetOrders_frame  :
    (resetOrders s).pending = s.pending ∧ (resetOrders s).link = s.link ∧ (resetOrders s).events = s.events ∧
    (resetOrders s).gate = s.gate ∧ (resetOrders s).tables = s.tables ∧ (resetOrders s).timer = s.timer ∧
    (resetOrders s).rolls = s.rolls ∧ (resetOrders s).labels = s.labels ∧ (resetOrders s).bus = s.bus ∧
    (resetOrders s).settings = s.settings ∧ (resetOrders s).charge.fees = s.charge.fees := by
  simp [resetOrders]

@[simp] theorem resetEngine_frame  :
    (resetEngine s).pending = s.pending ∧ (resetEngine s).link = s.link ∧ (resetEngine s).events = s.events ∧
    (resetEngine s).queue = s.queue ∧ (resetEngine s).tables = s.tables ∧ (resetEngine s).timer = s.timer ∧
    (resetEngine s).rolls = s.rolls ∧ (resetEngine s).labels = s.labels ∧ (resetEngine s).charge = s.charge ∧
    (resetEngine s).bus = s.bus ∧ (resetEngine s).settings = s.settings := by
  simp [resetEngine]

@[simp] theorem resetFlags_frame  :
    (resetFlags s).pending = s.pending ∧ (resetFlags s).link = s.link ∧ (resetFlags s).queue = s.queue ∧
    (resetFlags s).gate = s.gate ∧ (resetFlags s).tables = s.tables ∧ (resetFlags s).timer = s.timer ∧
    (resetFlags s).rolls = s.rolls ∧ (resetFlags s).labels = s.labels ∧ (resetFlags s).charge = s.charge ∧
    (resetFlags s).bus = s.bus ∧ (resetFlags s).settings = s.settings := by
  simp [resetFlags]

@[simp] theorem resetLabelQueue_frame  :
    (resetLabelQueue s).pending = s.pending ∧ (resetLabelQueue s).link = s.link ∧
    (resetLabelQueue s).events = s.events ∧ (resetLabelQueue s).queue = s.queue ∧ (resetLabelQueue s).gate = s.gate ∧
    (resetLabelQueue s).tables = s.tables ∧ (resetLabelQueue s).timer = s.timer ∧
    (resetLabelQueue s).rolls = s.rolls ∧ (resetLabelQueue s).charge = s.charge ∧ (resetLabelQueue s).bus = s.bus ∧
    (resetLabelQueue s).settings = s.settings ∧ (resetLabelQueue s).labels.templates = s.labels.templates := by
  simp [resetLabelQueue]

@[simp] theorem resetLinkQueues_frame  :
    (resetLinkQueues s).pending = s.pending ∧ (resetLinkQueues s).events = s.events ∧
    (resetLinkQueues s).queue = s.queue ∧ (resetLinkQueues s).gate = s.gate ∧ (resetLinkQueues s).tables = s.tables ∧
    (resetLinkQueues s).timer = s.timer ∧ (resetLinkQueues s).rolls = s.rolls ∧
    (resetLinkQueues s).labels = s.labels ∧ (resetLinkQueues s).charge = s.charge ∧ (resetLinkQueues s).bus = s.bus ∧
    (resetLinkQueues s).settings = s.settings := by
  simp [resetLinkQueues]

@[simp] theorem resetBusCommands_frame  :
    (resetBusCommands s).pending = s.pending ∧ (resetBusCommands s).link = s.link ∧
    (resetBusCommands s).events = s.events ∧ (resetBusCommands s).queue = s.queue ∧
    (resetBusCommands s).gate = s.gate ∧ (resetBusCommands s).tables = s.tables ∧
    (resetBusCommands s).timer = s.timer ∧ (resetBusCommands s).rolls = s.rolls ∧
    (resetBusCommands s).labels = s.labels ∧ (resetBusCommands s).charge = s.charge ∧
    (resetBusCommands s).settings = s.settings := by
  simp [resetBusCommands]

@[simp] theorem resetEntry_frame  :
    (resetEntry s).pending = s.pending ∧ (resetEntry s).tables = s.tables ∧ (resetEntry s).timer = s.timer ∧
    (resetEntry s).settings = s.settings ∧ (resetEntry s).labels.templates = s.labels.templates ∧
    (resetEntry s).charge.fees = s.charge.fees := by
  simp [resetEntry]

@[simp] theorem spoilFrame_frame (k : Back) :
    (spoilFrame k s).pending = s.pending ∧ (spoilFrame k s).link = s.link ∧ (spoilFrame k s).events = s.events ∧
    (spoilFrame k s).queue = s.queue ∧ (spoilFrame k s).gate = s.gate ∧ (spoilFrame k s).tables = s.tables ∧
    (spoilFrame k s).rolls = s.rolls ∧ (spoilFrame k s).labels = s.labels ∧ (spoilFrame k s).bus = s.bus ∧
    (spoilFrame k s).settings = s.settings ∧ (spoilFrame k s).charge.fees = s.charge.fees := by
  simp only [spoilFrame]; (repeat' split) <;> simp

@[simp] theorem resetFiring_frame  :
    (resetFiring s).pending = s.pending ∧ (resetFiring s).link = s.link ∧ (resetFiring s).events = s.events ∧
    (resetFiring s).queue = s.queue ∧ (resetFiring s).tables = s.tables ∧ (resetFiring s).rolls = s.rolls ∧
    (resetFiring s).labels = s.labels ∧ (resetFiring s).settings = s.settings ∧
    (resetFiring s).charge.fees = s.charge.fees := by
  simp [resetFiring]

@[simp] theorem linesFall_frame  :
    (linesFall s).pending = s.pending ∧ (linesFall s).link = s.link ∧ (linesFall s).events = s.events ∧
    (linesFall s).queue = s.queue ∧ (linesFall s).tables = s.tables ∧ (linesFall s).rolls = s.rolls ∧
    (linesFall s).labels = s.labels ∧ (linesFall s).settings = s.settings ∧ (linesFall s).charge.fees = s.charge.fees := by
  simp [linesFall]

@[simp] theorem setStage_frame (x : Stage) :
    (setStage x s).pending = s.pending ∧ (setStage x s).link = s.link ∧ (setStage x s).events = s.events ∧
    (setStage x s).queue = s.queue ∧ (setStage x s).tables = s.tables ∧ (setStage x s).timer = s.timer ∧
    (setStage x s).rolls = s.rolls ∧ (setStage x s).labels = s.labels ∧ (setStage x s).charge = s.charge ∧
    (setStage x s).bus = s.bus ∧ (setStage x s).settings = s.settings := by
  simp [setStage]

@[simp] theorem beginSlide_frame  :
    (beginSlide s).pending = s.pending ∧ (beginSlide s).link = s.link ∧ (beginSlide s).events = s.events ∧
    (beginSlide s).queue = s.queue ∧ (beginSlide s).tables = s.tables ∧ (beginSlide s).timer = s.timer ∧
    (beginSlide s).rolls = s.rolls ∧ (beginSlide s).labels = s.labels ∧ (beginSlide s).charge = s.charge ∧
    (beginSlide s).settings = s.settings := by
  simp [beginSlide]

@[simp] theorem returnSlide_frame (c : Cleanup) :
    (returnSlide c s).pending = s.pending ∧ (returnSlide c s).link = s.link ∧ (returnSlide c s).events = s.events ∧
    (returnSlide c s).queue = s.queue ∧ (returnSlide c s).tables = s.tables ∧ (returnSlide c s).timer = s.timer ∧
    (returnSlide c s).rolls = s.rolls ∧ (returnSlide c s).labels = s.labels ∧ (returnSlide c s).charge = s.charge ∧
    (returnSlide c s).settings = s.settings := by
  simp only [returnSlide]; (repeat' split) <;> simp

@[simp] theorem endCleanup_frame (c : Cleanup) :
    (endCleanup c s).pending = s.pending ∧ (endCleanup c s).tables = s.tables ∧ (endCleanup c s).timer = s.timer ∧
    (endCleanup c s).bus = s.bus ∧ (endCleanup c s).settings = s.settings ∧
    (endCleanup c s).labels.templates = s.labels.templates ∧ (endCleanup c s).charge.fees = s.charge.fees := by
  simp only [endCleanup]; split <;> simp

@[simp] theorem cleanupStep_frame  :
    (cleanupStep s).pending = s.pending ∧ (cleanupStep s).tables = s.tables ∧ (cleanupStep s).timer = s.timer ∧
    (cleanupStep s).settings = s.settings ∧
    (cleanupStep s).labels.templates = s.labels.templates ∧ (cleanupStep s).charge.fees = s.charge.fees := by
  simp only [cleanupStep]; (repeat' split) <;> simp

@[simp] theorem runCleanup_frame  :
    (runCleanup s).pending = s.pending ∧ (runCleanup s).tables = s.tables ∧ (runCleanup s).timer = s.timer ∧
    (runCleanup s).settings = s.settings ∧
    (runCleanup s).labels.templates = s.labels.templates ∧ (runCleanup s).charge.fees = s.charge.fees := by
  simp [runCleanup]

end Sys2Proof.Machine
end

