-- ==== Sys2Proof/Laws/Wrap.lean ====
section
/-!
SUPPORT. What the end of a step leaves as it is, and what the taking of a desk frame can do.
-/

namespace Sys2Proof.Machine

variable (s : State)

/-! ## The transmitter (R193) -/

@[simp] theorem transmit_frame  :
    (transmit s).pending = s.pending ∧ (transmit s).tables = s.tables ∧ (transmit s).timer = s.timer ∧
    (transmit s).charge = s.charge ∧ (transmit s).settings = s.settings ∧
    (transmit s).labels.templates = s.labels.templates := by
  simp only [transmit]; split <;> simp

/-! ## The end of a step -/

@[simp] theorem settle_frame  :
    (settle s).pending = s.pending ∧ (settle s).tables = s.tables ∧ (settle s).timer = s.timer ∧
    (settle s).settings = s.settings ∧ (settle s).labels.templates = s.labels.templates ∧
    (settle s).charge.fees = s.charge.fees := by
  simp [settle]

@[simp] theorem bufferFrame_frame (c : Instr) :
    (bufferFrame c s).pending = s.pending ∧ (bufferFrame c s).events = s.events ∧ (bufferFrame c s).queue = s.queue ∧
    (bufferFrame c s).gate = s.gate ∧ (bufferFrame c s).tables = s.tables ∧ (bufferFrame c s).timer = s.timer ∧
    (bufferFrame c s).rolls = s.rolls ∧ (bufferFrame c s).labels = s.labels ∧ (bufferFrame c s).charge = s.charge ∧
    (bufferFrame c s).bus = s.bus ∧ (bufferFrame c s).settings = s.settings := by
  simp only [bufferFrame]; (repeat' split) <;> simp

end Sys2Proof.Machine
end

