-- ==== Sys2Proof/Laws/Taking.lean ====
section
/-!
SUPPORT. What a desk command does once its frame is taken, what the taking of waiting frames keeps (R186, R187), and how a
MANAGE command starts (R167).
-/

namespace Sys2Proof.Machine

/-- A command whose frame can be taken acts on the state without its frame. -/
theorem takeFrame_taken {c : Instr} {act : State → State} {s t : State} (h : taken c s = some t) :
    takeFrame c act s = act t := by
  simp [takeFrame, h]

/-- A command whose frame cannot be taken yet joins the receive buffer. -/
theorem takeFrame_waits {c : Instr} {act : State → State} {s : State} (h : taken c s = none) :
    takeFrame c act s = bufferFrame c s := by simp [takeFrame, h]

/-- A command is answered and changes nothing else when its action on the taken state is the reply. -/
theorem Answers.of_action {c : Instr} {act : State → State} {tag : Byte} {code : Nat} {r : Result} {d : ReplyData}
    {s t u : State} (hc : exec c s = .next (takeFrame c act s)) (ht : taken c s = some t)
    (ha : act t = manageReplied tag code r d u) : Answers c tag code r d s u := by
  unfold Answers
  rw [hc, takeFrame_taken ht, ha]

/-- The taking of waiting frames keeps what each desk frame keeps. -/
theorem takeWaiting_keeps {P : State → Prop}
    (h : ∀ (f : Frame) (t u : State), P t → execDesk (Desk.decode f) t = .next u → P u) (n : Nat) (s : State) (hs : P s) :
    P (takeWaiting n s) := by
  induction n generalizing s with
  | zero => exact hs
  | succ n ih =>
    unfold takeWaiting
    split
    · exact hs
    · split
      · refine ih _ ?_
        cases hx : execDesk (Desk.decode _) s with
        | next u => exact h _ _ _ hs hx
        | fault _ => exact hs
        | refused _ => exact hs
      · exact hs

/-- The test of taking keeps what each desk frame keeps. -/
theorem testTaking_keeps {P : State → Prop}
    (h : ∀ (f : Frame) (t u : State), P t → execDesk (Desk.decode f) t = .next u → P u) (before s : State) (hs : P s) :
    P (testTaking before s) := by
  unfold testTaking
  split
  · exact takeWaiting_keeps h _ _ hs
  · exact hs

variable {α : Type} {tag : Byte} {code : Nat} {s : State}

/-- With the engine not RESETTING and the fields in their layout, the body runs. -/
theorem checked_given {x : α} {body : α → State → State} (h : s.gate.engine ≠ .resetting) :
    checked tag code (.given x) body s = body x s := by simp [checked, h]

/-- With the engine RESETTING the command is answered BUSY. -/
theorem checked_busy {f : Fields α} {body : α → State → State} (h : s.gate.engine = .resetting) :
    checked tag code f body s = answer tag code (.refused .busy) .none s := by simp [checked, h]

/-- With the engine not RESETTING and the fields in their layout, the body of an account command runs. -/
theorem checkedNaming_given {x : α} {data : α → ReplyData} {body : α → State → State}
    (h : s.gate.engine ≠ .resetting) : checkedNaming tag code (.given x) data body s = body x s := by
  simp [checkedNaming, h]

/-- With the engine RESETTING an account command is answered BUSY with the account it names. -/
theorem checkedNaming_busy {x : α} {data : α → ReplyData} {body : α → State → State}
    (h : s.gate.engine = .resetting) :
    checkedNaming tag code (.given x) data body s = answer tag code (.refused .busy) (data x) s := by
  simp [checkedNaming, h]

end Sys2Proof.Machine
end

