-- ==== Sys2Proof/Tests/Slice0.lean ====
section
/-!
SUPPORT. The model's own tests: ill-formed commands that WellFormed refuses, frames written out from the spec's layouts,
one small step or function per theorem with its expected value from the spec's worked examples, and for each statement of
Certificates/Slice0/Obligations.lean a concrete state and operands that meet its hypotheses.
-/

open Sys2Proof Sys2Proof.Machine

-- A test waits for the definitions before it: one at a time keeps the number of waiting threads small.
set_option Elab.async false

namespace Sys2Proof.Tests

/-! ## States the tests start from -/

/-- The state a command leaves. -/
def after (c : Instr) (s : State) : State :=
  match exec c s with
  | .next t => t
  | .fault _ => s
  | .refused _ => s

/-- A unit on its slot. -/
def unit : Slot := { State.resetSlot with state := .present }

/-- Stock 3 or 6 of the worked examples (03): S +10, knee 20, slope 20, 36 frames, 40 charge units. -/
def stock (code : Nat) : StockEntry :=
  { code := code, name := [75, 82, 54, 52, 32, 32, 32, 32], speed := 10, frames := 36, knee := 20, slope := 20, price := 40 }

/-- A READY roll CR0412 of 36 frames, its counter as given. -/
def readyRoll (code counter : Nat) : Roll :=
  { State.resetRoll with
    state := .ready, counter := counter
    film := some { rollId := [67, 82, 48, 52, 49, 50], stock := code, frames := 36, leaderFrames := 0,
                   leaderMode := .auto, map := List.replicate 36 MapEntry.fresh } }

/-- Pattern 4 of the worked examples: −5, 0, +5 tenths of a stop, nominal step 2. -/
def threeSteps : Pattern := { offsets := [-5, 0, 5], nominal := 2 }

/-- One step: PUT CATALOG. -/
def catalogTemplate : Template := { steps := [.putCatalog], literals := [[], [], [], []] }

/-- The stand of the worked examples (01): magazine 12, five units, stocks 3 and 6 on READY rolls, pattern 4, template 1,
the fees 20, 50 and 2, account 30 with a ceiling of 5000. -/
def stand : State :=
  { State.reset with
    tables := { stocks := some (stock 3) :: some (stock 6) :: List.replicate 6 none,
                patterns := some State.patternZero :: none :: none :: none :: some threeSteps :: List.replicate 11 none }
    rolls := ⟨readyRoll 3 15, readyRoll 6 1⟩
    labels := { State.resetLabels with templates := none :: some catalogTemplate :: List.replicate 6 none }
    charge := { State.resetCharge with
                accounts := [⟨30, true, 5000, 0, 0, 0, 0⟩], fees := { order := 20, rush := 50, label := 2 } }
    bus := { feeder := { unit with magazine := some 12 }, meter := unit, backA := unit, backB := unit,
             printer := { unit with printer := some .ready }, period := 500 } }

/-- The stand with the engine in a state. -/
def withEngine (e : Engine) (s : State) : State := s.setGate { s.gate with engine := e }

/-- A visit to magazine 12, position 5, with no members left. -/
def visitAt (v : VisitState) : Visit :=
  { magazine := 12, position := 5, state := v, held := false, release := false, slide := true, members := [],
    lists := ⟨[], []⟩, dropped := ⟨false, false⟩, owed := ⟨false, false⟩, metering := false, rereads := [], zones := [] }

/-- The stand with a visit open. -/
def withVisit (v : Visit) (s : State) : State := s.setGate { s.gate with visit := some v }

/-- The stand with a roll put on a back. -/
def withRoll (k : Back) (r : Roll) (s : State) : State := s.setRoll k r

/-- The stand with a command outstanding on a slot, with exchange number 5. -/
def withCommand (u : UnitSlot) (cmd : UnitCmd) (i : Issuer) (s : State) : State :=
  s.setSlot u { s.slot u with
    outstanding := some { cmd := cmd, issuer := i, exchange := 5, timeout := 1200 }, exchange := 5 }

/-- The work item (1, 1) of order 41. -/
def firstItem : WorkItem := { order := 41, copy := 1, step := 1, kind := .setStart }

/-- Order 41 of the worked example (01), in a state. -/
def order41 (st : OrderState) : Order :=
  { number := 41, tag := 7#8, account := 30, magazine := 12, position := 37, stock := 3, copies := 2, patternEntry := 4,
    mode := .average, fixedDensity := none, correction := 0, template := some 1, rush := false, catalog := none,
    title := none, course := none, state := st, cancelRequested := false, endKind := none, pattern := threeSteps,
    prices := { frame := 40, orderFee := 20, rushFee := 50, labelFee := 2 }, reserved := 272, held := 272,
    settled := none, next := some (1, 1), redo := [], goodFrames := 0, timingSpoils := 0, lampSpoils := 0,
    reshoots := 0, goodLabels := 0, density := none, spans := [], more := false, waiting := .none }

/-- The stand with order 41 in the queue. -/
def withOrder (st : OrderState) (s : State) : State :=
  s.setQueue { s.queue with orders := [order41 st], nextNumber := 42 }

/-- The ORDER frame of order 41. -/
def orderFields41 : OrderFields :=
  { account := 30, magazine := 12, position := 37, stock := 3, copies := 2, pattern := 4, mode := 0, rush := false,
    template := some 1, fixedDensity := none, strayFlags := 0, correction := 0, catalog := [], title := [], course := [] }

/-- The shot of the worked example (04): 24,256 tm at position 9. -/
def shot : Shot :=
  { item := firstItem, time := 24256, clamp := .none, rollId := [67, 82, 48, 52, 49, 50], position := 9,
    shutter := .open_ }

/-- A firing of back A alone, in a phase. -/
def firingIn (p : FiringPhase) : Firing :=
  { serial := 1, shots := ⟨some shot, none⟩, preOpen := 500, deadline := 600, lampFall := 24756, phase := p,
    tolerance := 5 }

/-- The stand with that firing in flight. -/
def withFiring (p : FiringPhase) (s : State) : State := s.setTimer { s.timer with firing := some (firingIn p) }

/-- The frame record that firing leaves (04): expected 24,756, allowed 1237. -/
def frame : FrameRec :=
  { serial := 1, rollId := [67, 82, 48, 52, 49, 50], position := 9, item := firstItem, time := 24256, clamp := .none,
    expected := 24756, allowed := 1237, lampSpoiled := false }

/-- The stand after that firing, with its advance outstanding. -/
def withFrame (s : State) : State :=
  withCommand .backA (.advance .frame 1) .firing
    (withRoll .a (readyRoll 3 9) (s.setTimer { s.timer with frames := ⟨some frame, none⟩ }))

/-- A reply and a report to be sent. -/
def someReply : Reply := { cls := 3#8, tag := 7#8, command := 9, result := .ok, data := .none }

def someReport : Report := .roll ((readyRoll 3 9).rollReport .a .desk)

/-- The stand with a link of its own. -/
def withLink (f : Link → Link) (s : State) : State := s.setLink (f s.link)

/-- The state with desk-ready active. -/
def readied (s : State) : State := withLink (fun l => { l with deskReady := true }) s

/-- With an empty buffer and a free reply entry a frame is taken at once. -/
theorem takes (c : Instr) (s : State) (hb : s.link.buffer = []) (he : s.link.entryFree = true) : taken c s = some s := by
  simp [taken, hb, he]

/-! ## Ill-formed commands (the smoke test of WellFormed) -/

theorem test_wf_order_fields : ∀ f ∈
    [{ orderFields41 with account := 65536 }, { orderFields41 with magazine := 256 },
     { orderFields41 with position := 256 }, { orderFields41 with stock := 256 }, { orderFields41 with copies := 256 },
     { orderFields41 with pattern := 256 }, { orderFields41 with mode := 256 },
     { orderFields41 with template := some 256 }, { orderFields41 with fixedDensity := some 65536 },
     { orderFields41 with strayFlags := 32 }, { orderFields41 with correction := 128 },
     { orderFields41 with correction := -129 }, { orderFields41 with catalog := [256] },
     { orderFields41 with title := [256] }, { orderFields41 with course := [256] },
     { orderFields41 with catalog := List.replicate 200 65, title := List.replicate 35 65 }],
    (Instr.orderFrame 0#8 f).wellFormed = false := by decide +kernel

theorem test_wf_classes_and_codes :
    (Instr.unknownClass 1#8 0#8).wellFormed = false ∧ (Instr.unknownClass 3#8 0#8).wellFormed = false ∧
    (Instr.payloadLengthDiscard 4#8 0#8).wellFormed = false ∧
    (Instr.unknownManageCommand 0#8 31#8).wellFormed = false ∧
    (Instr.directUnknownCommand 0#8 1#8 (some 0x40#8)).wellFormed = false ∧
    (Instr.loadEntryBadSelector 0#8 true (some 4#8)).wellFormed = false := by decide

theorem test_wf_stock_fields : ∀ f ∈
    ([⟨256, [], 0, 36, 0, 0, 0⟩, ⟨1, [256], 0, 36, 0, 0, 0⟩, ⟨1, [], 128, 36, 0, 0, 0⟩, ⟨1, [], 0, 256, 0, 0, 0⟩,
      ⟨1, [], 0, 36, -129, 0, 0⟩, ⟨1, [], 0, 36, 0, 256, 0⟩, ⟨1, [], 0, 36, 0, 0, 65536⟩,
      ⟨1, List.replicate 241 65, 0, 36, 0, 0, 0⟩] : List StockFields),
    (Instr.loadEntryStockWrite 0#8 (.given f)).wellFormed = false := by decide +kernel

theorem test_wf_pattern_fields : ∀ f ∈
    ([⟨256, 1, 1, [0]⟩, ⟨1, 256, 1, [0]⟩, ⟨1, 1, 256, [0]⟩, ⟨1, 1, 1, [128]⟩, ⟨1, 1, 1, List.replicate 246 0⟩] :
      List PatternFields),
    (Instr.loadEntryPatternWrite 0#8 (.given f)).wellFormed = false := by decide +kernel

theorem test_wf_template_fields : ∀ f ∈
    ([⟨256, [], []⟩, ⟨1, [⟨256, 0⟩], []⟩, ⟨1, [⟨1, 256⟩], []⟩, ⟨1, [], [[256]]⟩, ⟨1, List.replicate 123 ⟨1, 0⟩, []⟩] :
      List TemplateFields),
    (Instr.loadEntryTemplateWrite 0#8 (.given f)).wellFormed = false := by decide +kernel

theorem test_wf_keys :
    (Instr.loadEntryStockDelete 0#8 (.given 256)).wellFormed = false ∧
    (Instr.loadEntryPatternEmpty 0#8 (.given 256)).wellFormed = false ∧
    (Instr.loadEntryTemplateEmpty 0#8 (.given 256)).wellFormed = false ∧
    (Instr.loadEntryFee 0#8 (.given ⟨256, none⟩)).wellFormed = false ∧
    (Instr.loadEntryFee 0#8 (.given ⟨1, some 65536⟩)).wellFormed = false ∧
    (Instr.readEntryStock 0#8 (.given (some 256))).wellFormed = false ∧
    (Instr.readEntryPattern 0#8 (.given (some 256))).wellFormed = false ∧
    (Instr.readEntryTemplate 0#8 (.given (some 256))).wellFormed = false ∧
    (Instr.readEntryFee 0#8 (.given (some 256))).wellFormed = false := by decide

theorem test_wf_settings_and_rolls :
    (Instr.setSettings 0#8 (.given [⟨256, 0⟩])).wellFormed = false ∧
    (Instr.setSettings 0#8 (.given [⟨1, 2147483648⟩])).wellFormed = false ∧
    (Instr.setSettings 0#8 (.given (List.replicate 50 ⟨1, 0⟩))).wellFormed = false ∧
    (Instr.loadRoll 0#8 (.given ⟨256, 1, List.replicate 6 65⟩)).wellFormed = false ∧
    (Instr.loadRoll 0#8 (.given ⟨0, 256, List.replicate 6 65⟩)).wellFormed = false ∧
    (Instr.loadRoll 0#8 (.given ⟨0, 1, List.replicate 5 65⟩)).wellFormed = false ∧
    (Instr.loadRoll 0#8 (.given ⟨0, 1, List.replicate 6 256⟩)).wellFormed = false ∧
    (Instr.closeRoll 0#8 (.given 256)).wellFormed = false ∧
    (Instr.resyncRoll 0#8 (.given 256)).wellFormed = false ∧
    (Instr.readRollMap 0#8 (.given ⟨256, none⟩)).wellFormed = false ∧
    (Instr.readRollMap 0#8 (.given ⟨0, some (256, 1)⟩)).wellFormed = false ∧
    (Instr.readRollMap 0#8 (.given ⟨0, some (1, 256)⟩)).wellFormed = false := by decide +kernel

theorem test_wf_orders_and_accounts :
    (Instr.cancelOrder 0#8 (.given 65536)).wellFormed = false ∧
    (Instr.readOrder 0#8 (.given 65536)).wellFormed = false ∧
    (Instr.openAccount 0#8 (.given ⟨65536, 0⟩)).wellFormed = false ∧
    (Instr.openAccount 0#8 (.given ⟨1, 16777216⟩)).wellFormed = false ∧
    (Instr.readAccount 0#8 (.given (some 65536))).wellFormed = false ∧
    (Instr.setCeiling 0#8 (.given ⟨65536, 0⟩)).wellFormed = false ∧
    (Instr.suspendAccount 0#8 (.given 65536)).wellFormed = false ∧
    (Instr.reopenAccount 0#8 (.given 65536)).wellFormed = false ∧
    (Instr.credit 0#8 (.given ⟨1, 16777216⟩)).wellFormed = false ∧
    (Instr.clearCharged 0#8 (.given 65536)).wellFormed = false ∧
    (Instr.deleteAccount 0#8 (.given 65536)).wellFormed = false := by decide

theorem test_wf_direct :
    (Instr.directLoad 0#8 1#8 (.given 256)).wellFormed = false ∧
    (Instr.directSpot 0#8 2#8 (.given 256)).wellFormed = false ∧
    (Instr.directAdvance 0#8 3#8 (.given ⟨256, 1⟩)).wellFormed = false ∧
    (Instr.directAdvance 0#8 3#8 (.given ⟨1, 256⟩)).wellFormed = false ∧
    (Instr.directTestShutter 0#8 3#8 (.given 16777216)).wellFormed = false ∧
    (Instr.directPrint 0#8 5#8 (.given ⟨256, 0, []⟩)).wellFormed = false ∧
    (Instr.directPrint 0#8 5#8 (.given ⟨1, 256, []⟩)).wellFormed = false ∧
    (Instr.directPrint 0#8 5#8 (.given ⟨1, 0, [[256]]⟩)).wellFormed = false ∧
    (Instr.directPrint 0#8 5#8 (.given ⟨1, 0, [List.replicate 245 65]⟩)).wellFormed = false := by decide +kernel

theorem test_wf_unit_answers :
    (Instr.presenceAnswer .feeder 256 (.feeder 1)).wellFormed = false ∧
    (Instr.presenceAnswer .feeder 0 (.feeder 251)).wellFormed = false ∧
    (Instr.statusAnswer .feeder 256 .meter).wellFormed = false ∧
    (Instr.statusAnswer .feeder 0 (.feeder 251)).wellFormed = false ∧
    (Instr.loadCompletion 256 .ok).wellFormed = false ∧ (Instr.returnCompletion 256 .ok).wellFormed = false ∧
    (Instr.scanCompletion 256 .fail).wellFormed = false ∧
    (Instr.scanCompletion 0 (.ok (List.replicate 8 .over))).wellFormed = false ∧
    (Instr.scanCompletion 0 (.ok (List.replicate 9 (.density 65534)))).wellFormed = false ∧
    (Instr.spotCompletion 256 .fail).wellFormed = false ∧
    (Instr.spotCompletion 0 (.density 65534)).wellFormed = false ∧
    (Instr.printCompletion 256 .ok).wellFormed = false ∧ (Instr.detachingAnswer .a 256).wellFormed = false ∧
    (Instr.directCompletion .meter 256 (.spot .fail)).wellFormed = false ∧
    (Instr.directCompletion .meter 0 (.spot (.density 65534))).wellFormed = false ∧
    (Instr.directCompletion .backA 0 (.readCount 0)).wellFormed = false ∧
    (Instr.directCompletion .backA 0 (.testShutter 16777216)).wellFormed = false := by decide +kernel

theorem test_wf_back_completions :
    (Instr.advanceCompletion .a 256 .ok 1 0).wellFormed = false ∧
    (Instr.advanceCompletion .a 0 .ok 0 0).wellFormed = false ∧
    (Instr.advanceCompletion .a 0 .ok 256 0).wellFormed = false ∧
    (Instr.advanceCompletion .a 0 .ok 1 16777216).wellFormed = false ∧
    (Instr.leaderCompletion .a 256 .ok 1).wellFormed = false ∧ (Instr.leaderCompletion .a 0 .ok 0).wellFormed = false ∧
    (Instr.blankingCompletion .a 256 .ok 1).wellFormed = false ∧
    (Instr.blankingCompletion .a 0 .ok 0).wellFormed = false ∧
    (Instr.passThroughCompletion .a 256 .ok 1).wellFormed = false ∧
    (Instr.passThroughCompletion .a 0 .ok 256).wellFormed = false ∧
    (Instr.readCountCompletion .a 256 1).wellFormed = false ∧
    (Instr.readCountCompletion .a 0 0).wellFormed = false := by decide

/-! ## Frames written out from the layouts of R199 to R204 -/

theorem test_no_row_has_bits : decodeTableWord 8 1 = none ∧ State.reset.withFetchWord 8 1 = State.reset := ⟨rfl, rfl⟩

theorem test_frame_stock_entry :
    Desk.decode ⟨3#8, 7#8, [15#8, 1#8, 3#8, 2#8, 75#8, 82#8, 0xF6#8, 36#8, 20#8, 20#8, 0#8, 40#8]⟩ =
      .loadEntryStockWrite 7#8 (.given ⟨3, [75, 82], -10, 36, 20, 20, 40⟩) := by decide +kernel

theorem test_frame_pattern_entry :
    Desk.decode ⟨3#8, 7#8, [15#8, 2#8, 4#8, 3#8, 2#8, 0xFB#8, 0#8, 5#8]⟩ =
      .loadEntryPatternWrite 7#8 (.given ⟨4, 3, 2, [-5, 0, 5]⟩) := by decide +kernel

theorem test_frame_template_entry :
    Desk.decode ⟨3#8, 7#8, [15#8, 3#8, 3#8, 2#8, 1#8, 0#8, 13#8, 0x31#8, 1#8, 1#8, 78#8]⟩ =
      .loadEntryTemplateWrite 7#8 (.given ⟨3, [⟨1, 0⟩, ⟨13, 0x31⟩], [[78]]⟩) := by decide +kernel

theorem test_frame_entry_deleted_and_fee_cleared :
    Desk.decode ⟨3#8, 7#8, [15#8, 1#8, 3#8]⟩ = .loadEntryStockDelete 7#8 (.given 3) ∧
    Desk.decode ⟨3#8, 7#8, [15#8, 4#8, 2#8]⟩ = .loadEntryFee 7#8 (.given ⟨2, none⟩) ∧
    Desk.decode ⟨3#8, 7#8, [16#8, 2#8]⟩ = .readEntryPattern 7#8 (.given none) := by decide +kernel

theorem test_frame_test_shutter :
    Desk.decode ⟨2#8, 9#8, [3#8, 0x32#8, 3#8, 0xD0#8, 0x90#8]⟩ = .directTestShutter 9#8 3#8 (.given 250000) := by
  decide +kernel

theorem test_bus_load_completion :
    unitAnswer (withCommand .feeder (.load 5) .visit stand) (busFrame .feeder 5 0x90 [0#8]) =
      some (.loadCompletion 5 .ok) := by decide +kernel

/-! ## One function or step each, against the worked examples -/

/-- 03, a scan with re-reads: the zone records, the zones re-read, and the three densities. -/
theorem test_scan_of_the_example :
    ([.density 210, .fail, .density 230, .density 190, .over, .fail, .density 200, .density 220, .fail] :
      List Reading).map scanZone =
      [.ok 210, .failed, .ok 230, .ok 190, .over, .failed, .ok 200, .ok 220, .failed] ∧
    rereadsOf [.ok 210, .failed, .ok 230, .ok 190, .over, .failed, .ok 200, .ok 220, .failed] = [2, 6, 9] ∧
    averageDensity [.ok 210, .reread 205, .ok 230, .ok 190, .over, .failed, .ok 200, .ok 220, .over] = some 257 ∧
    centreDensity [.ok 210, .reread 205, .ok 230, .ok 190, .over, .failed, .ok 200, .ok 220, .over] = some 296 := by
  decide +kernel

/-- 03, one slide on two backs. -/
theorem test_exposures_of_the_example :
    exposureTime State.defaultSettings (stock 3) 105 (-5) 0 = (16000, .none) ∧
    exposureTime State.defaultSettings (stock 3) 105 0 0 = (24256, .none) ∧
    exposureTime State.defaultSettings (stock 3) 105 5 0 = (36768, .none) ∧
    exposureTime State.defaultSettings { stock 6 with speed := -15, knee := 10, slope := 30 } 105 0 0 =
      (200000, .long) := by decide +kernel

/-- 03, the limits of the computation. -/
theorem test_limits_of_the_computation :
    [75, 80, 0, -1, -10, -15, -50, -100, -157].map (unclampedTime 4000) =
      [some 723968, none, some 4000, some 3732, some 2000, some 1414, some 125, some 4, some 0] := by decide +kernel

/-- 06, one template, two entries: the lines of the first entry. -/
theorem test_label_of_the_example :
    let o := { order41 .active with
      catalog := some [71, 69, 79, 45, 49, 49, 52, 47, 48, 55]
      title := some (List.replicate 39 120) }
    let e := { MapEntry.fresh with state := .exposed, item := some (41, 1, 2) }
    (runTemplate { entry := e, back := .a, rollId := [67, 82, 48, 53, 48, 50], position := 7, order := o,
                   jobDate := none, templates := [] }
      { steps := [.putCatalog, .space 1, .putStep, .skipIf .offNominal 1, .putLiteral 0, .nextLine, .putTitle, .nextLine,
                  .putRoll, .space 1, .putFrame, .skipIf .spoiled 1, .end_, .putLiteral 1, .end_],
        literals := [[78], [32, 86, 79, 73, 68], [], []] }).map (fun r => (r.lines, r.truncated)) =
      some ([[71, 69, 79, 45, 49, 49, 52, 47, 48, 55, 32, 48, 46, 48, 78], List.replicate 24 120,
             [65, 32, 67, 82, 48, 53, 48, 50, 32, 55]], true) := by decide +kernel

/-- 01, three admissions: the reservation of order 41. 07: the refusal with reservation 398 and headroom 180. -/
theorem test_reservations_of_the_examples :
    reservation (order41 .queued).prices false true 2 3 = 272 ∧ reservation (order41 .queued).prices true false 1 1 = 110 ∧
    reservation (order41 .queued).prices false true 3 3 = 398 ∧
    (⟨44, true, 1000, 300, 520, 0, 0⟩ : Account).allows 398 = false ∧
    (⟨44, true, 1000, 300, 520, 0, 0⟩ : Account).allows 146 = true := by decide

/-- 01: order 41 is admitted with 272 committed. -/
theorem test_order_admitted :
    ((after (.orderFrame 7#8 orderFields41) stand).queue.orders.map (fun o => (o.tag, o.reserved))) = [(7#8, 272)] ∧
    (after (.orderFrame 7#8 orderFields41) stand).charge.accounts.map (fun a => a.committed) = [272] := by decide +kernel

/-- 04: the frame of the firing that ends, and A's completion with m 24,900 within 1237. -/
theorem test_firing_ends :
    (after .lampFallExpiry (withFiring .lit (withVisit (visitAt .exposing) (withEngine .running stand)))).timer.frames.a.map
      (fun f => (f.expected, f.allowed)) = some (24756, 1237) := by decide +kernel

theorem test_advance_exposes :
    let s := after (.advanceCompletion .a 5 .ok 10 24900) (withFrame stand)
    (s.roll .a).counter = 10 ∧
    ((s.roll .a).entry? 9).map (fun e => (e.state, e.measured)) = some (.exposed, some 24900) := by decide +kernel

/-- 04: a measured time out of the allowance spoils the frame and charges the frame price to the house. -/
theorem test_advance_spoils :
    let s := after (.advanceCompletion .a 5 .ok 10 26000) (withFrame stand)
    ((s.roll .a).entry? 9).map (fun e => (e.state, e.cause)) = some (.spoiled, some .timing) ∧
    s.charge.house.charged = 40 := by decide +kernel

/-- 04: LAMP SENSE goes inactive in LIT. -/
theorem test_lamp_fails :
    let s := after .lampSenseInactive (withFiring .lit (withVisit (visitAt .exposing) (withEngine .running stand)))
    s.gate.engine = .faulted ∧ s.events.current.map (fun f => (f.kind, f.position)) = some (.lampFail, some 9) := by
  decide +kernel

/-- 02: the visit of order 41 is chosen and its LOAD sent. -/
theorem test_visit_opens :
    let s := after (.run 1#8 (.given ())) (withOrder .queued stand)
    s.gate.visit.map (fun v => (v.position, v.lists.a.length)) = some (37, 6) ∧
    (s.slot .feeder).outstanding.map (fun o => o.cmd) = some (.load 37) := by decide +kernel

/-- 09: with pass-through DISABLED a DIRECT ADVANCE is trapped FILM. -/
theorem test_direct_advance_trapped :
    let s := after (.directAdvance 1#8 4#8 (.given ⟨1, 2⟩)) stand
    s.events.traps.film = true ∧ s.events.lastTrap = some (.backB, .advance) := by decide +kernel

/-- R179 step 3, R189: with nothing held the NOTICE of a trap begins before the REPLY, which waits. -/
theorem test_notice_of_a_trap_first :
    let t := trap 5#8 .backA (.advance .leader 2) .film (readied stand)
    t.link.sending = some (.notice 0x008#12 0x008#12) ∧ t.link.replies.length = 1 := by decide +kernel

/-- R189: of FAULT and ENGINE-STOPPED the first begins a NOTICE, and the second places another. -/
theorem test_two_notices :
    let t := raise .engineStopped (raise .fault (readied stand))
    t.link.sending = some (.notice 0x001#12 0x001#12) ∧ t.link.notice = true ∧ t.events.risen = 0x400#12 := by
  decide +kernel

/-- R202, R173: a RETURN's JAM is its second result, and an absent roll id is a text of length 0. -/
theorem test_return_jam_and_absent_roll_id :
    (ReplyData.unitResult (.ret .jam)).bytes false = [1#8] ∧ optRollId none = [] := by decide +kernel

/-- R15, R188: two codes that enter the wanted stocks in one step raise STOCK-WANTED twice. -/
theorem test_two_wanted_stocks :
    let wants (n stock : Nat) : Order := { order41 .queued with number := n, stock := stock }
    let s := (readied stand).setQueue { stand.queue with orders := [wants 41 8, wants 42 9] }
    let t := refreshWanted (s.setSettings { s.settings with noticeMask := 0x010#12 })
    t.queue.wantedStock = [8, 9] ∧ t.link.sending = some (.notice 0x010#12 0x010#12) ∧ t.link.notice = true := by
  decide +kernel

/-- R37 step 4, R160: a cleared GATE-JAM closes its visit with its wanted sets before ENGINE-STOPPED is raised. -/
theorem test_close_before_engine_stopped :
    let s := (withEngine .faulted (withOrder .active (withVisit { visitAt .loading with members := [⟨41, .a⟩], held := true }
      (readied stand)))).setSlot .feeder unit
    let jam := visitFault s .gateJam .feeder
    let t := removeFault 7#8 ((s.setEvents { s.events with current := some jam }).setSettings
      { s.settings with noticeMask := 0x420#12 })
    t.gate.visit = none ∧ t.gate.engine = .stopped ∧ t.link.sending = some (.notice 0x020#12 0x020#12) ∧
    t.link.notice = true ∧ t.events.risen = 0x400#12 ∧ t.link.replies.length = 1 := by decide +kernel

/-- R162: the report of a class B end enters before ORDER-FAULT is raised. -/
theorem test_report_before_order_fault :
    let s := readied (withOrder .active stand)
    let t := failOrder .noSlide 41 (s.setSettings { s.settings with noticeMask := 0x004#12 })
    t.queue.orders = [] ∧ (∃ r, t.link.sending = some (.report r)) ∧ t.link.notice = true ∧
    hasFlag t.events.flags .orderFault = true := by
  refine ⟨by decide +kernel, ⟨_, rfl⟩, by decide +kernel, by decide +kernel⟩

/-- 08, R164 stage 1: with a SCAN of the visit outstanding the cleanup stays at lines, and goes on at its completion, or at
its timeout. -/
theorem test_link_reset_awaits_the_meter :
    let s := after (.linkReset 1#8 (.given ())) (withCommand .meter .scan .visit
      (withVisit { visitAt .metering with metering := true } (withEngine .running stand)))
    s.gate.cleanup = some ⟨.lines, none⟩ ∧ s.timer.lamp = false ∧ s.gate.visit.map (fun v => v.metering) = some false ∧
    (after (.scanCompletion 5 .fail) s).gate.engine = .resetting ∧
    (after (.scanCompletion 5 .fail) s).gate.cleanup = some ⟨.slide, none⟩ ∧
    (after (.unitCommandTimeout .meter) s).gate.cleanup = some ⟨.slide, none⟩ := by decide +kernel

/-- R45, R46: a back in UNLOADED whose roll record holds the code carries it. -/
theorem test_use_of_an_unloaded_roll :
    (stockUse (withRoll .a { readyRoll 3 9 with state := .unloaded } stand) 3).carries = ⟨true, false⟩ := by
  decide +kernel

/-- 08: LINK RESET with a firing in flight: the line falls and the advance is sent. -/
theorem test_link_reset_aborts :
    let s := after (.linkReset 1#8 (.given ())) (withFiring .lit (withVisit (visitAt .exposing) (withEngine .running stand)))
    s.gate.engine = .resetting ∧ s.timer.firing = none ∧
    s.timer.frames.a.map (fun f => f.lampSpoiled) = some true := by decide +kernel

/-- 07: SET CEILING below committed and charged, and CREDIT. -/
theorem test_ceiling_and_credit :
    let s := stand.setCharge { stand.charge with accounts := [⟨44, true, 1000, 300, 666, 0, 0⟩] }
    (after (.setCeiling 1#8 (.given ⟨44, 900⟩)) s).link.replies.map (fun r => r.data) = [.ceilingLow 44 966] ∧
    (after (.credit 1#8 (.given ⟨44, 100⟩)) s).link.replies.map (fun r => r.data) = [.credited 44 100 566] := by
  decide +kernel

/-- 05: a lost roll's EXPOSED position becomes FOGGED. -/
theorem test_lost_roll_fogs :
    let r := readyRoll 3 2
    let s := withRoll .a { r with film := r.film.map (fun f =>
      { f with map := { MapEntry.fresh with state := .exposed } :: f.map.tail }) } (withCommand .backA .readCount (.direct none) stand)
    let t := after (.detachingAnswer .a 5) s
    ((t.roll .a).entry? 1).map (fun e => e.state) = some .fogged ∧ (t.roll .a).state = .lost := by decide +kernel

/-- 04: the only shutter falls at the time LAMP falls, and LAMP drops with it. -/
theorem test_single_shutter_ends_firing :
    let s := after (.shutterFallExpiry .a) (withFiring .lit (withVisit (visitAt .exposing) (withEngine .running stand)))
    s.timer.lamp = false ∧ s.timer.firing = none ∧ s.timer.frames.a.map (fun f => f.expected) = some 24756 := by
  decide +kernel

/-- 03: a DIRECT command times out with the phase's SCAN waiting behind it: the phase is cut, and LAMP falls. -/
theorem test_meter_timeout_cuts_phase :
    let v := { visitAt .metering with metering := true }
    let s0 := withCommand .meter (.spot 5) (.direct none) (withVisit v (withEngine .running stand))
    let s := after (.unitCommandTimeout .meter) ((s0.setSlot .meter { s0.slot .meter with waiting := [⟨.scan, .visit⟩] }).setTimer
      { s0.timer with lamp := true })
    s.timer.lamp = false ∧ s.gate.visit.map (fun x => x.metering) = some false ∧ s.gate.engine = .faulted := by decide +kernel

/-- 05: a blanking advance times out: its roll closes, and then its back is NO-BACK. -/
theorem test_blanking_timeout :
    let r := { readyRoll 3 37 with state := .closing, closeCause := some .blanked }
    let s := after (.unitCommandTimeout .backA) (withCommand .backA (.advance .frame 2) .blanking (withRoll .a r stand))
    (s.roll .a).state = .noBack ∧ s.link.reports.length = 1 := by decide +kernel

/-- 10: CLEAR TRAPS received byte by byte is taken and answered. -/
theorem test_frame_by_bytes :
    let s := (Desk.frameBytes ⟨3#8, 7#8, [12#8]⟩).foldl (fun t x => after (.byteReceived x) t) stand
    s.link.buffer = [] ∧ s.link.replies.map (fun r => (r.tag, r.command)) = [(7#8, 12)] := by decide +kernel

/-- 08: a back CUT while the other is pending stands in the resume record made after it. -/
theorem test_cut_back_in_resume :
    let x (k : Back) (o : CutOutcome) : List CutShot :=
      [{ serial := 1, back := k, item := firstItem, rollId := [], position := 9, outcome := o }]
    let s0 := withFrame (withVisit { visitAt .exposing with owed := ⟨true, false⟩ } (withEngine .running stand))
    let s := after (.stopHold 1#8 (.given ())) (s0.setGate { s0.gate with fired := ⟨x .a .pending, x .b .cut⟩ })
    s.gate.resume.map (fun r => r.cutFiring.map (fun c => (c.back, c.outcome))) = some [(.a, .pending), (.b, .cut)] := by
  decide +kernel

/-- R154: a firing of A and B is not complete on B alone, and a later one of A is complete: the hold shows the first one's
two frames. A later one of A whose completion raises the fault leaves them as they are. -/
theorem test_cut_firing_behind_a_complete_one :
    let x (n : Nat) (k : Back) (o : CutOutcome) : CutShot :=
      { serial := n, back := k, item := firstItem, rollId := [], position := 8 + n, outcome := o }
    let pending (k : Back) (n : Nat) (s : State) : State :=
      s.setTimer { s.timer with frames := s.timer.frames.set k (some { frame with serial := n }) }
    let s0 (o : CutOutcome) : State := (withVisit { visitAt .exposing with owed := ⟨false, true⟩ }
      (pending .b 1 (withEngine .running stand))).setGate { stand.gate with
        engine := .running, visit := some (visitAt .exposing), fired := ⟨[x 2 .a o, x 1 .a .exposed], [x 1 .b .pending]⟩ }
    let cut (s : State) : Option (List (Back × Nat × CutOutcome)) :=
      s.gate.resume.map (fun r => r.cutFiring.map (fun c => (c.back, c.position, c.outcome)))
    cut (holdVisit .stop (s0 .exposed)) = some [(.a, 9, .exposed), (.b, 9, .pending)] ∧
    cut (holdVisit .stop (pending .a 2 (s0 .pending))) = some [(.a, 10, .pending), (.b, 9, .pending)] ∧
    cut (after (.advanceCompletion .a 5 .ok 99 0) (withCommand .backA (.advance .frame 1) .firing
      (withRoll .a (readyRoll 3 9) (pending .a 2 (s0 .pending))))) = some [(.a, 9, .exposed), (.b, 9, .pending)] := by
  decide +kernel

/-- 08, 09: a forwarded READ COUNT times out on the only back of a firing: the firing has ended when the fault holds the
visit, so no firing is cut. -/
theorem test_timeout_ends_firing_before_fault :
    let x : CutShot := ⟨1, .a, firstItem, [], 9, .pending⟩
    let s0 := withFiring .lit (withVisit (visitAt .exposing) (withEngine .running stand))
    let s := after (.unitCommandTimeout .backA) (withCommand .backA .readCount (.direct none)
      (s0.setGate { s0.gate with fired := ⟨[x], []⟩ }))
    s.timer.firing = none ∧ s.gate.engine = .faulted ∧ s.gate.resume.map (fun r => r.cutFiring) = some [] := by
  decide +kernel

/-- 02: under STEP a ready back is fired while an earlier firing's advance on the other back is owed, and is not while the
last firing's is. -/
theorem test_step_waits_for_last_firing :
    let v := { visitAt .exposing with lists := ⟨[], [firstItem]⟩, owed := ⟨true, false⟩ }
    let s (last : Nat) : State := testFiring ((withVisit v ((withFrame (withEngine .running stand)).setGate
      { stand.gate with engine := .running, stepMode := true })).setTimer
        { stand.timer with frames := ⟨some frame, none⟩, serial := last })
    (s 2).timer.firing.isSome = true ∧ (s 1).timer.firing.isSome = false := by decide +kernel

/-! ## Witnesses: states and operands that meet the hypotheses of the statements -/

/-- Every frame can be taken at the stand, in every engine state. -/
theorem takes_stand (c : Instr) (e : Engine) : taken c stand = some stand ∧ taken c (withEngine e stand) = some (withEngine e stand) :=
  ⟨takes c _ rfl rfl, takes c _ rfl rfl⟩

/-- A label record, and a label queue of a length. -/
def labelRec : LabelRec := headerRecord stand .a

def withLabels (n : Nat) (s : State) : State := s.setLabels { s.labels with queue := List.replicate n labelRec }

/-- The stand with a held visit, stopped. -/
def heldStand : State :=
  stand.setGate { stand.gate with
    visit := some { visitAt .exposing with held := true }, resume := some { cause := .stop, cutFiring := [] } }

/-- The stand FAULTED, with a current and a pending fault and a held visit. -/
def faultedStand : State :=
  (withEngine .faulted heldStand).setEvents { stand.events with
    current := some (visitFault heldStand .gateJam .feeder), pendingFault := some (visitFault heldStand .unitLost .meter) }

/-- The stand with a forwarded READ COUNT outstanding on back A, its reply reserved. -/
def deferredStand : State :=
  withLink (fun l => { l with reserved := 1 }) (withCommand .backA .readCount (.direct (some 9#8)) stand)

theorem witness_StepRunsTheQueue :
    (stand.setPending [.lampFallExpiry]).pending = .lampFallExpiry :: [] ∧ stand.pending = [] := ⟨rfl, rfl⟩

theorem witness_TablesChangeAtTheirOwnCommands :
    exec .pollExpiry stand = .next (after .pollExpiry stand) ∧ Instr.pollExpiry ≠ .powerOn ∧
    (∀ x, Instr.pollExpiry ≠ .deskFrameReceived x) ∧ (∀ x, Instr.pollExpiry ≠ .byteReceived x) ∧
    Instr.pollExpiry ≠ .deskReadyActive ∧ Instr.pollExpiry ≠ .upstreamFrameSent ∧
    (∀ tag f, Instr.pollExpiry ≠ .loadEntryStockWrite tag f) ∧ (∀ tag f, Instr.pollExpiry ≠ .loadEntryStockDelete tag f) ∧
    (∀ tag f, Instr.pollExpiry ≠ .loadEntryPatternWrite tag f) ∧
    (∀ tag f, Instr.pollExpiry ≠ .loadEntryPatternEmpty tag f) ∧ (∀ tag f, Instr.pollExpiry ≠ .setSettings tag f) ∧
    (∀ tag f, Instr.pollExpiry ≠ .setNoticeMask tag f) ∧ (∀ tag f, Instr.pollExpiry ≠ .loadEntryTemplateWrite tag f) ∧
    (∀ tag f, Instr.pollExpiry ≠ .loadEntryTemplateEmpty tag f) ∧ (∀ tag f, Instr.pollExpiry ≠ .loadEntryFee tag f) ∧
    (Instr.byteReceived 0#8 = .deskFrameReceived 0#8 ∨ Instr.byteReceived 0#8 = .byteReceived 0#8) :=
  ⟨rfl, nofun, nofun, nofun, nofun, nofun, nofun, nofun, nofun, nofun, nofun, nofun, nofun, nofun, nofun, .inr rfl⟩

theorem witness_CapacitiesAreKept :
    let s := (withOrder .queued stand).setPending [.pollExpiry]
    Capacities s ∧ step s = .next (after .pollExpiry (withOrder .queued stand)) :=
  ⟨by unfold Capacities; decide +kernel, rfl⟩

theorem witness_EngineAgreementIsKept :
    let s := faultedStand.setPending [.pollExpiry]
    EngineAgrees s ∧ step s = .next (after .pollExpiry faultedStand) :=
  ⟨by unfold EngineAgrees; decide +kernel, rfl⟩

theorem witness_ReplyEntriesAndSettingsAreKept :
    let c : Instr := .directCompletion .backA 5 (.readCount 15)
    let s := deferredStand.setPending [c]
    let high := (stand.setSettings { stand.settings with ceiling := 250000 }).setPending [.pollExpiry]
    ReplyEntries s ∧ step s = .next (after c deferredStand) ∧
    high.settings.inRanges = true ∧ step high = .next (after .pollExpiry (high.setPending [])) :=
  ⟨by unfold ReplyEntries; decide +kernel, rfl, by decide +kernel, rfl⟩

theorem witness_RecordsAgreementIsKept :
    let s := (withOrder .queued stand).setPending [.pollExpiry]
    Capacities s ∧ RecordsAgree s ∧ step s = .next (after .pollExpiry (withOrder .queued stand)) :=
  ⟨by unfold Capacities; decide +kernel, by unfold RecordsAgree; decide +kernel, rfl⟩

theorem witness_DecodeOfEncode :
    (Instr.openAccount 7#8 (.given ⟨65535, 16777215⟩)).wellFormed = true ∧
    Desk.encode (.openAccount 7#8 (.given ⟨65535, 16777215⟩)) =
      some ⟨3#8, 7#8, [24#8, 0xFF#8, 0xFF#8, 0xFF#8, 0xFF#8, 0xFF#8]⟩ ∧
    (Instr.run 7#8 .mismatched).wellFormed = true ∧ Desk.encode (.run 7#8 .mismatched) = some ⟨3#8, 7#8, [1#8, 0#8]⟩ := by
  decide +kernel

/-- The stand with its receiver in a state. -/
def receiving (r : Receiver) : State := withLink (fun l => { l with receiver := r }) stand

theorem witness_ReceiverTakesBytes :
    State.resetLink.receiver = .hunt ∧ (⟨3#8, 7#8, List.replicate 250 0#8⟩ : Frame).payload.length ≤ 250 ∧
    [0#8, 0#8] ≠ checkBytes [3#8, 7#8, 0#8] ∧
    stand.link.receiver = .hunt ∧ (0xA4#8 : Byte) ≠ 0xA5#8 ∧ (250#8 : Byte).toNat ≤ 250 ∧ 250 < (251#8 : Byte).toNat ∧
    (receiving .cls).link.receiver = .cls ∧ (receiving (.tag 3#8)).link.receiver = .tag 3#8 ∧
    (receiving (.length 3#8 7#8)).link.receiver = .length 3#8 7#8 ∧
    (receiving (.body 3#8 7#8 0 [])).link.receiver = .body 3#8 7#8 0 [] ∧ ([] : List Byte).length + 1 < 0 + 2 ∧
    (receiving (.body 3#8 7#8 1 [1#8, 2#8])).link.receiver = .body 3#8 7#8 ([1#8] : List Byte).length ([1#8] ++ [2#8]) ∧
    ((receiving .cls).link.receive 3#8).buffer = (receiving .cls).link.buffer := by decide +kernel

/-- The stand with order 41's report, and reports of both backs, offered to the report queue. -/
def offeringStand : State :=
  let roll (m : Nat) : Roll :=
    { readyRoll 3 9 with state := .closing, report := some (m, (readyRoll 3 9).rollReport .a .desk) }
  endOrder .done 41 ((withRoll .b (roll 8) (withRoll .a (roll 9) (withOrder .active stand))))

/-- 10.5: reports enter in the order of their composing, the order leaves the Order Queue and the rolls are CLOSED. -/
theorem test_reports_enter_as_composed :
    let t := drainReports (withLink (fun l => { l with reports := List.replicate 22 someReport }) offeringStand)
    t.link.reports.length = 24 ∧ t.queue.orders = [] ∧ (t.roll .b).state = .closed ∧ (t.roll .a).state = .closing ∧
    (t.roll .a).report.isSome = true := by decide +kernel

theorem witness_ReportsEnterAndFramesLeaveInOrder :
    let full := withLink (fun l => { l with reports := List.replicate 24 someReport }) offeringStand
    let ready (l : Link) : Link := { l with deskReady := true }
    let reporting := withLink (fun l => { ready l with reports := [someReport] }) stand
    (withLink ready stand).link.sending = none ∧ (withLink ready stand).link.deskReady = true ∧
    (withLink ready stand).link.replies = [] ∧ (withLink ready stand).link.notice = false ∧
    (withLink ready stand).link.reports = [] ∧
    (withLink (fun l => { ready l with replies := [someReply] }) stand).link.replies = [someReply] ∧
    (withLink (fun l => { ready l with notice := true }) stand).link.notice = true ∧
    reporting.link.reports = someReport :: [] ∧ (arbiter reporting).link.reports = [] ∧
    (arbiter (withLink ready stand)).link.reports = (withLink ready stand).link.reports ∧
    (withLink (fun l => { l with sending := some (.reply someReply) }) stand).link.sending.isSome = true ∧
    stand.link.deskReady = false ∧ stand.link.sending = none ∧
    hasFlag (withLink ready stand).settings.noticeMask .trap = true ∧
    hasFlag (withLink ready stand).settings.noticeMask .fault = true ∧
    hasFlag (withLink ready stand).settings.noticeMask .engineStopped = true ∧
    hasFlag (withLink ready stand).settings.noticeMask .unitChange = false ∧ 24 ≤ full.link.reports.length ∧
    offeringStand.link.reports.length < 24 ∧ (offeringStand.queue.ending.map (fun e => e.stamp)) = [0] ∧
    ((offeringStand.roll .a).report.map (fun p => p.1)) = some 9 ∧
    ((offeringStand.roll .b).report.map (fun p => p.1)) = some 8 ∧
    (let rolls := offeringStand.setQueue { offeringStand.queue with ending := [] }
     rolls.queue.ending = [] ∧ (rolls.roll .b).report = (offeringStand.roll .b).report) :=
  ⟨rfl, rfl, rfl, rfl, rfl, rfl, rfl, rfl, rfl, rfl, rfl, rfl, rfl, by decide, by decide, by decide, by decide, by decide,
    by decide +kernel, by decide +kernel, rfl, rfl, rfl, rfl⟩

theorem witness_FramesAreTakenInTurn :
    let full (l : Link) : Link := { l with replies := List.replicate 8 someReply }
    let f : Frame := ⟨3#8, 7#8, [12#8]⟩
    let waits := withLink (fun l => { l with buffer := [f] }) stand
    Desk.encode (.clearTraps 7#8 (.given ())) = some f ∧
    8 ≤ (withLink full stand).link.replies.length + (withLink full stand).link.reserved ∧
    stand.link.buffer = [] ∧ stand.link.replies.length + stand.link.reserved < 8 ∧
    (let x := (checkBytes [3#8, 7#8, 1#8, 12#8]).getD 1 0#8
     let s := receiving (.body 3#8 7#8 1 [12#8, (checkBytes [3#8, 7#8, 1#8, 12#8]).getD 0 0#8])
     s.link.buffer = [] ∧ s.link.receive x = { s.link with receiver := .hunt, buffer := [f] }) ∧
    stand.link.buffer.length < waits.link.buffer.length ∧
    stand.link.replies.length + stand.link.reserved < (withLink full stand).link.replies.length + 0 ∧
    waits.link.buffer = f :: [] ∧ waits.link.replies.length + waits.link.reserved < 8 ∧ waits.link.buffer.length ≤ 4 ∧
    exec (Desk.decode f) waits = .next (after (Desk.decode f) waits) := by
  refine ⟨by decide +kernel, by decide +kernel, rfl, by decide +kernel, by decide +kernel, by decide +kernel,
    by decide +kernel, rfl, by decide +kernel, by decide +kernel, rfl⟩

theorem witness_UnownedFrames :
    taken (.unknownClass 0x81#8 7#8) stand = some stand ∧ taken (.payloadLengthDiscard 3#8 7#8) stand = some stand ∧
    taken (.unknownManageCommand 7#8 32#8) stand = some stand :=
  ⟨takes _ _ rfl rfl, takes _ _ rfl rfl, takes _ _ rfl rfl⟩

theorem witness_ManageCommandsBusyOrMismatched (e : Engine) :
    let t := withEngine .resetting stand
    Desk.encode (.run 7#8 (.given ())) = some ⟨3#8, 7#8, [1#8]⟩ ∧ (1#8 : Byte).toNat ≤ 31 ∧ (1#8 : Byte) ≠ 9#8 ∧
    (Instr.run 7#8 (.given ())).wellFormed = true ∧ taken (.run 7#8 (.given ())) t = some t ∧
    t.gate.engine = .resetting ∧
    Desk.encode (.deleteAccount 7#8 (.given 1)) = some ⟨3#8, 7#8, [31#8, 0#8, 1#8]⟩ ∧
    (∀ c, taken c (withEngine e stand) = some (withEngine e stand)) ∧ (withEngine e stand).gate.engine = e ∧
    (Instr.run 7#8 .mismatched, 1, true) ∈ ([(.run 7#8 .mismatched, 1, true)] : List (Instr × Nat × Bool)) :=
  ⟨rfl, by decide, by decide, rfl, takes _ _ rfl rfl, rfl, rfl, fun _ => takes _ _ rfl rfl, rfl, by decide⟩

theorem witness_FlagsRaisedAndAcknowledged (e : Engine) :
    taken (.ackEvents 7#8 (.given 0xFFF#12)) (withEngine e stand) = some (withEngine e stand) ∧
    (withEngine e stand).gate.engine = e ∧ EventFlag.trap ≠ .fault ∧
    hasFlag stand.settings.noticeMask .trap = true ∧ stand.link.notice = false ∧ stand.link.sending = none ∧
    (readied stand).link.deskReady = true ∧ stand.link.replies = [] ∧
    (withLink (fun l => { l with deskReady := true, replies := [someReply] }) stand).link.replies = [someReply] ∧
    hasFlag stand.settings.noticeMask .unitChange = false :=
  ⟨takes _ _ rfl rfl, rfl, nofun, by decide, rfl, rfl, rfl, rfl, rfl, by decide⟩

theorem witness_MaskAndTraps (e : Engine) :
    taken (.setNoticeMask 7#8 (.given 0xFFF#12)) stand = some stand ∧ stand.gate.engine ≠ .resetting ∧
    taken (.clearTraps 7#8 (.given ())) (withEngine e stand) = some (withEngine e stand) ∧
    (withEngine e stand).gate.engine = e := ⟨takes _ _ rfl rfl, nofun, takes _ _ rfl rfl, rfl⟩

theorem witness_SetSettings :
    (∀ l, taken (.setSettings 7#8 (.given l)) stand = some stand) ∧
    (∀ l, taken (.setSettings 7#8 (.given l)) heldStand = some heldStand) ∧ stand.gate.engine ≠ .resetting ∧
    ¬(1 ≤ 22 ∧ 22 ≤ 21) ∧ ¬(([⟨3, 20⟩, ⟨3, 21⟩] : List SettingItem).map (fun i => i.item)).Nodup ∧
    (∃ y m d : Nat, (20991231 : Int) = (y * 10000 + m * 100 + d : Nat) ∧ 2000 ≤ y ∧ y ≤ 2099 ∧ 1 ≤ m ∧ m ≤ 12 ∧ 1 ≤ d ∧
      d ≤ daysIn y m) ∧
    (([⟨3, 200000⟩] : List SettingItem).find? (fun i => i.item == 3)).map (fun i => i.value) = some 200000 ∧
    ¬((200000 : Int) < stand.settings.ceiling) ∧ (199999 : Int) < stand.settings.ceiling ∧
    stand.gate.engine = .stopped ∧ stand.gate.visit = none ∧ heldStand.gate.visit ≠ none ∧
    clampedNumbers [⟨1, 20001⟩, ⟨13, 1⟩] ≠ [] ∧ clampedNumbers [⟨21, 4095⟩] = [] := by
  refine ⟨fun _ => takes _ _ rfl rfl, fun _ => takes _ _ rfl rfl, nofun, by decide, by decide, ⟨2099, 12, 31, by decide⟩, ?_⟩
  decide +kernel

theorem witness_ReadingSettingsStatusAndOrders (e : Engine) :
    (∀ c, taken c (withEngine e (withOrder .queued stand)) = some (withEngine e (withOrder .queued stand))) ∧
    (withEngine e (withOrder .queued stand)).gate.engine = e ∧ stand.settings.inRanges = true ∧
    (withOrder .queued stand).order? 40 = none ∧ (withOrder .queued stand).order? 41 = some (order41 .queued) :=
  ⟨fun _ => takes _ _ rfl rfl, rfl, by decide +kernel, by decide +kernel, by decide +kernel⟩

/-- The stand with 8 stocks, of codes 3, 6 and 250 to 255. -/
def fullTable : State :=
  stand.setTables { stand.tables with stocks := [3, 6, 250, 251, 252, 253, 254, 255].map (fun n => some (stock n)) }

theorem witness_Stocks :
    let good (f : StockFields) : Bool := decide (1 ≤ f.code ∧ f.code ≤ 255 ∧ -60 ≤ f.speed ∧ f.speed ≤ 60 ∧ 12 ≤ f.frames ∧
      f.frames ≤ 72 ∧ -100 ≤ f.knee ∧ f.knee ≤ 100 ∧ f.slope ≤ 50)
    let name (l : Text) : Text := (l.take 8).map (fun c => if 32 ≤ c ∧ c ≤ 126 then c else 32)
    name [75] = [75] ∧ name [31] ≠ [31] ∧ name [127] ≠ [127] ∧ name (List.replicate 9 75) ≠ List.replicate 9 75 ∧
    (∀ c, taken c stand = some stand) ∧ (∀ c, taken c fullTable = some fullTable) ∧ stand.gate.engine ≠ .resetting ∧
    good ⟨1, [75], 0, 73, 0, 0, 0⟩ = false ∧ good ⟨1, [75], -61, 72, 0, 0, 0⟩ = false ∧
    good ⟨1, [75], 0, 12, 0, 51, 0⟩ = false ∧ good ⟨1, [75], -60, 72, 100, 50, 65535⟩ = true ∧
    good ⟨255, [75], 60, 12, -100, 0, 0⟩ = true ∧ good ⟨3, [75], 0, 36, 0, 0, 0⟩ = true ∧
    stand.stockOnFilm 3 = true ∧ stand.stockOnFilm 1 = false ∧ stand.stock? 1 = none ∧ none ∈ stand.tables.stocks ∧
    fullTable.stock? 1 = none ∧ none ∉ fullTable.tables.stocks ∧ fullTable.stockOnFilm 1 = false ∧
    (fullTable.stock? 255).isSome = true ∧ fullTable.stockOnFilm 255 = false ∧ fullTable.queue.orders = [] ∧
    (stand.stock? 3).isSome = true ∧ stand.stock? 3 = some (stock 3) := by
  refine ⟨by decide, by decide, by decide, by decide, fun _ => takes _ _ rfl rfl, fun _ => takes _ _ rfl rfl, nofun, ?_⟩
  decide +kernel

theorem witness_Patterns (e : Engine) :
    let good (f : PatternFields) : Bool := decide (1 ≤ f.number ∧ f.number ≤ 15 ∧ 1 ≤ f.stepCount ∧ f.stepCount ≤ 7 ∧
      f.offsets.length = f.stepCount ∧ (∀ x ∈ f.offsets, -30 ≤ x ∧ x ≤ 30) ∧ 1 ≤ f.nominal ∧ f.nominal ≤ f.stepCount)
    good ⟨0, 1, 1, [0]⟩ = false ∧ good ⟨1, 8, 1, List.replicate 8 0⟩ = false ∧ good ⟨1, 1, 2, [0]⟩ = false ∧
    good ⟨1, 1, 1, [-31]⟩ = false ∧
    (∀ c, taken c (withEngine e stand) = some (withEngine e stand)) ∧ (withEngine e stand).gate.engine = e ∧
    stand.tables.patterns.length = 16 ∧ good ⟨16, 1, 1, [0]⟩ = false ∧
    good ⟨15, 7, 7, [30, 0, 0, 0, 0, 0, -30]⟩ = true ∧ good ⟨1, 1, 1, [0]⟩ = true ∧
    stand.pattern? 1 = none ∧ stand.pattern? 15 = none ∧ stand.pattern? 4 = some threeSteps ∧
    (stand.pattern? 0).isSome = true :=
  ⟨by decide, by decide, by decide, by decide, fun _ => takes _ _ rfl rfl, rfl, by decide +kernel, by decide +kernel,
   by decide +kernel, by decide +kernel, by decide +kernel, by decide +kernel, by decide +kernel, by decide +kernel⟩

theorem witness_Templates (e : Engine) :
    (∀ c, taken c (withEngine e (withOrder .queued stand)) = some (withEngine e (withOrder .queued stand))) ∧
    (withEngine e (withOrder .queued stand)).gate.engine = e ∧ stand.labels.templates.length = 8 ∧
    ¬(8 ≤ 7) ∧ ¬(1 ≤ 0) ∧ ¬(25 ≤ 24) ∧ ¬(5 ≤ 4) ∧ 1 ≤ 1 ∧ 24 ≤ 24 ∧ 4 ≤ 4 ∧ 7 ≤ 7 ∧ (⟨13, 16 * 6 + 4⟩ : RawStep) = ⟨13, 100⟩ ∧
    (([65, 66] : Text).take 12).map (fun c => if 32 ≤ c ∧ c ≤ 126 then c else 32) = [65, 66] ∧
    (([65, 127] : Text).take 12).map (fun c => if 32 ≤ c ∧ c ≤ 126 then c else 32) ≠ [65, 127] ∧ (∃ o ∈ (withOrder .queued stand).queue.orders, o.template = some 1) ∧
    (∀ o ∈ (withOrder .queued stand).queue.orders, o.template ≠ some 7) ∧ stand.template? 7 = none ∧
    (stand.template? 1).isSome = true ∧ (∀ o ∈ stand.queue.orders, o.template ≠ some 1) := by
  refine ⟨fun _ => takes _ _ rfl rfl, rfl, ?_⟩
  decide +kernel

/-- A program with a step of every kind at a bound of its operand, and frames that are none by each bound. -/
theorem witness_Templates_program :
    let condition (c : SkipCond) : Nat := match c with
      | .spoiled => 1 | .timeClamped => 2 | .offNominal => 3 | .titleAbsent => 4 | .courseAbsent => 5 | .redo => 6
    let spelled (st : TStep) : RawStep := match st with
      | .putCatalog => ⟨1, 0⟩ | .putTitle => ⟨2, 0⟩ | .putCourse => ⟨3, 0⟩ | .putAccount => ⟨4, 0⟩
      | .putOrder => ⟨5, 0⟩ | .putRoll => ⟨6, 0⟩ | .putFrame => ⟨7, 0⟩ | .putStep => ⟨8, 0⟩ | .putDate => ⟨9, 0⟩
      | .putLiteral n => ⟨10, n⟩ | .space n => ⟨11, n⟩ | .nextLine => ⟨12, 0⟩
      | .skipIf c n => ⟨13, 16 * condition c + n⟩ | .continueAt n => ⟨14, n⟩ | .omit_ => ⟨15, 0⟩ | .end_ => ⟨16, 0⟩
    let f : TemplateFields := ⟨7, [⟨1, 0⟩, ⟨10, 3⟩, ⟨11, 8⟩, ⟨13, 100⟩, ⟨14, 7⟩, ⟨16, 0⟩], [[65]]⟩
    f.steps = [.putCatalog, .putLiteral 3, .space 8, .skipIf .redo 4, .continueAt 7, .end_].map spelled ∧
    f.number ≤ 7 ∧ f.steps.length ≤ 24 ∧ f.literals.length ≤ 4 ∧
    programOf f = some { steps := [.putCatalog, .putLiteral 3, .space 8, .skipIf .redo 4, .continueAt 7, .end_],
                         literals := [[65], [], [], []] } ∧
    programOf { f with number := 8 } = none ∧ programOf { f with steps := [] } = none ∧
    programOf { f with steps := [⟨1, 1⟩] } = none ∧ programOf { f with steps := [⟨11, 9⟩] } = none ∧
    programOf { f with steps := [⟨13, 117⟩] } = none ∧ programOf { f with steps := [⟨17, 0⟩] } = none := by decide +kernel

theorem witness_FeesAndSelectors :
    (∀ c, taken c stand = some stand) ∧ stand.gate.engine ≠ .resetting ∧ (0 = 0 ∨ 3 < 0) ∧ (4 = 0 ∨ 3 < 4) ∧
    (∀ n : FeeName, ∃ k, k = 1 ∧ n = .order ∨ k = 2 ∧ n = .rush ∨ k = 3 ∧ n = .label) := by
  refine ⟨fun _ => takes _ _ rfl rfl, nofun, by decide, by decide, fun n => ?_⟩
  cases n
  exacts [⟨1, by decide⟩, ⟨2, by decide⟩, ⟨3, by decide⟩]

theorem witness_RunAndStepMode (e : Engine) :
    (∀ c, taken c (withEngine e stand) = some (withEngine e stand)) ∧ (withEngine e stand).gate.engine = e :=
  ⟨fun _ => takes _ _ rfl rfl, rfl⟩

/-- The stand STOPPING, with a stop kind and a visit. -/
def stoppingStand (k : StopKind) : State :=
  heldStand.setGate { heldStand.gate with engine := .stopping, stopKind := some k }

theorem witness_StopHold :
    (∀ c, taken c (withEngine .running stand) = some (withEngine .running stand)) ∧
    (withEngine .running stand).gate.visit = none ∧
    (holdVisit .stop (withVisit (visitAt .exposing) (withEngine .running stand))).atRest = true ∧
    (holdVisit .stop (withFiring .lit (withVisit (visitAt .exposing) (withEngine .running stand)))).atRest = false ∧
    (∀ c k, taken c (stoppingStand k) = some (stoppingStand k)) ∧
    (∀ k, (stoppingStand k).gate.engine = .stopping ∧ (stoppingStand k).gate.stopKind = some k) ∧
    stand.gate.engine = .stopped ∧ faultedStand.gate.engine = .faulted :=
  ⟨fun _ => takes _ _ rfl rfl, rfl, by decide +kernel, by decide +kernel, fun _ _ => takes _ _ rfl rfl,
   fun _ => ⟨rfl, rfl⟩, rfl, rfl⟩

theorem witness_StopRelease :
    (∀ c, taken c heldStand = some heldStand) ∧ heldStand.gate.engine = .stopped ∧ heldStand.gate.visit.isSome = true ∧
    (∀ c k, taken c (stoppingStand k) = some (stoppingStand k)) ∧
    (∀ k, (stoppingStand k).gate.stopKind = some k ∧ (stoppingStand k).gate.visit.isSome = true) ∧
    (withVisit (visitAt .exposing) (withEngine .running stand)).gate.visit.isSome = true ∧
    (withEngine .running stand).gate.visit = none ∧ stand.gate.visit = none ∧
    (∀ c, taken c faultedStand = some faultedStand) :=
  ⟨fun _ => takes _ _ rfl rfl, rfl, rfl, fun _ _ => takes _ _ rfl rfl, fun _ => ⟨rfl, rfl⟩, rfl, rfl, rfl,
   fun _ => takes _ _ rfl rfl⟩

/-- An open visit without a resume record, with a firing in flight that is not complete. -/
theorem witness_StopHold_record :
    let s := withFiring .lit (withVisit (visitAt .exposing) (withEngine .running stand))
    s.gate.visit.isSome = true ∧ s.gate.resume = none ∧ s.gate.engine = .running ∧ firingComplete s 1 = false ∧
    taken (.stopHold 7#8 (.given ())) s = some s ∧
    (heldStand.setGate { heldStand.gate with engine := .running }).gate.resume.isSome = true :=
  ⟨rfl, rfl, rfl, rfl, takes _ _ rfl rfl, rfl⟩

theorem witness_FaultsRaised :
    (withEngine .resetting stand).gate.engine = .resetting ∧ faultedStand.gate.engine = .faulted ∧
    heldStand.gate.engine ≠ .resetting ∧ heldStand.gate.engine ≠ .faulted ∧ heldStand.gate.visit.isSome = true ∧
    heldStand.gate.resume = some { cause := .stop, cutFiring := [] } ∧ EventFlag.trap ≠ .fault ∧
    EventFlag.trap ≠ .engineStopped := by decide +kernel

/-- A state whose current fault is a GATE-JAM of LOADING, its visit open, and states without such a fault. -/
theorem witness_ClearFault_jam :
    let jam (x : VisitState) : State := (withEngine .faulted heldStand).setEvents { stand.events with
      current := some { visitFault heldStand .gateJam .feeder with visit := some x } }
    (∀ x c, taken c (jam x) = some (jam x)) ∧
    (∀ x, (jam x).gate.engine = .faulted ∧ (jam x).gate.visit.isSome = true ∧ (jam x).events.pendingFault = none ∧
      ∃ g, (jam x).events.current = some g ∧ g.kind = .gateJam ∧ g.visit = some x) ∧
    (closeVisit ((jam .loading).setEvents { (jam .loading).events with current := none })).gate.visit = none ∧
    stand.gate.visit.isSome = false :=
  ⟨fun _ _ => takes _ _ rfl rfl, fun _ => ⟨rfl, rfl, rfl, _, rfl, rfl, rfl⟩, by decide +kernel, rfl⟩

theorem witness_ClearFault :
    (∀ c, taken c faultedStand = some faultedStand) ∧ stand.gate.engine ≠ .faulted ∧
    faultedStand.events.pendingFault = some (visitFault heldStand .unitLost .meter) ∧
    (withEngine .faulted stand).events.pendingFault = none ∧ (withEngine .faulted stand).gate.visit = none ∧
    (withFiring .lit (withEngine .faulted heldStand)).gate.visit.isSome = true ∧
    (withFiring .lit (withEngine .faulted heldStand)).events.current = none ∧
    ((withFiring .lit (withEngine .faulted heldStand)).setEvents
      { (withFiring .lit (withEngine .faulted heldStand)).events with current := none, pendingFault := none }).atRest =
        false :=
  ⟨fun _ => takes _ _ rfl rfl, nofun, rfl, rfl, rfl, rfl, rfl, by decide +kernel⟩

theorem witness_ReadResume :
    EngineAgrees heldStand ∧ taken (.readResume 7#8 (.given ())) heldStand = some heldStand ∧ heldStand.held = true ∧
    heldStand.gate.engine ≠ .resetting ∧ EngineAgrees stand ∧ stand.held = false ∧
    taken (.readResume 7#8 (.given ())) stand = some stand ∧
    EngineAgrees (stand.setGate { stand.gate with engine := .resetting, cleanup := some ⟨.film, none⟩ }) :=
  ⟨by unfold EngineAgrees; decide +kernel, takes _ _ rfl rfl, rfl, nofun, by unfold EngineAgrees; decide +kernel, rfl,
   takes _ _ rfl rfl, by unfold EngineAgrees; decide +kernel⟩

/-- A held visit in each state, with and without a phase in progress, no command of it on the feeder, and one there. -/
theorem witness_ReadResume_states (x : VisitState) (m : Bool) :
    let s := heldStand.setGate { heldStand.gate with visit := some { visitAt x with held := true, metering := m } }
    let loading := withCommand .feeder (.load 5) .visit s
    taken (.readResume 7#8 (.given ())) s = some s ∧ EngineAgrees s ∧ s.held = true ∧ s.gate.engine ≠ .resetting ∧
    s.gate.visit.any (fun v => v.state == x && v.metering == m) = true ∧ (s.slot .feeder).outstanding = none ∧
    (s.slot .feeder).waiting = [] ∧ EngineAgrees loading ∧ loading.held = true ∧
    (∃ o, (loading.slot .feeder).outstanding = some o ∧ o.issuer = .visit) := by
  refine ⟨takes _ _ rfl rfl, ?_, rfl, nofun, ?_, rfl, rfl, ?_, rfl, _, rfl, rfl⟩
  · unfold EngineAgrees; cases x <;> cases m <;> decide +kernel
  · cases x <;> cases m <;> rfl
  · unfold EngineAgrees; cases x <;> cases m <;> decide +kernel

theorem witness_LinkReset :
    let s := withLink (fun l => { l with sending := some (.reply someReply) }) faultedStand
    let ready := withLink (fun l => { l with deskReady := true }) (withOrder .active stand)
    taken (.linkReset 7#8 (.given ())) s = some s ∧ s.gate.engine ≠ .resetting ∧ s.link.sending.isSome = true ∧
    taken (.linkReset 7#8 (.given ())) ready = some ready ∧ ready.gate.engine ≠ .resetting ∧ ready.link.sending = none ∧
    ready.link.deskReady = true ∧ stand.link.deskReady = false ∧ (ready.queue.orders.map (fun o => o.number)).Nodup ∧
    (ready.queue.orders.filter (fun o => o.state != .ending && o.account == 30)) ≠ [] :=
  ⟨takes _ _ rfl rfl, nofun, rfl, takes _ _ rfl rfl, nofun, rfl, rfl, rfl, by decide, by decide⟩

/-- The stand RESETTING, its cleanup at a stage with the failure known, and a visit. -/
def cleaningStand (c : Cleanup) (v : Visit) : State :=
  stand.setGate { stand.gate with engine := .resetting, cleanup := some c, visit := some v }

theorem witness_CleanupOfLinkReset :
    let jam : FaultRec := visitFault heldStand .gateJam .feeder
    let slide := cleaningStand ⟨.slide, none⟩ (visitAt .returning)
    let loading := withCommand .feeder (.load 5) .visit slide
    slide.gate.engine = .resetting ∧ slide.gate.cleanup = some ⟨.slide, none⟩ ∧
    .firing ∈ ((withCommand .backA (.advance .frame 1) .firing (cleaningStand ⟨.film, none⟩ (visitAt .exposing))).slot
      Back.a.slot).issuers ∧
    loading.visitCommand .feeder = true ∧ slide.visitCommand .feeder = false ∧
    slide.gate.visit = some (visitAt .returning) ∧ (visitAt .returning).slide = true ∧ slide.present .feeder = true ∧
    (slide.setSlot .feeder State.resetSlot).present .feeder = false ∧
    (cleaningStand ⟨.slide, some jam⟩ (visitAt .returning)).visitCommand .feeder = false ∧
    (loading.slot .feeder).outstanding = some ⟨.load 5, .visit, 5, 1200⟩ ∧ (UnitCmd.load 5).name = .load ∧
    ((withCommand .feeder .ret .visit slide).slot .feeder).outstanding = some ⟨.ret, .visit, 5, 1200⟩ := by
  decide +kernel

theorem witness_OrderAdmitted :
    let f := orderFields41
    taken (.orderFrame 7#8 f) stand = some stand ∧
    (1 ≤ f.magazine ∧ f.magazine ≤ 250 ∧ 1 ≤ f.position ∧ f.position ≤ 120 ∧ 1 ≤ f.copies ∧ f.copies ≤ 9 ∧
      f.pattern ≤ 15 ∧ f.template.all (fun n => decide (n ≤ 7)) = true ∧ f.mode ≤ 3 ∧ f.mode ≠ 3 ∧ f.strayFlags = 0) ∧
    f.account ≠ 0 ∧
    stand.charge.account? f.account = some ⟨30, true, 5000, 0, 0, 0, 0⟩ ∧ stand.stock? f.stock = some (stock 3) ∧
    stand.pattern? f.pattern = some threeSteps ∧ (∀ n, f.template = some n → (stand.template? n).isSome = true) ∧
    stand.queue.orders.length < 32 ∧
    0 + 0 + (stand.charge.fees.order + f.copies * threeSteps.steps * (stock 3).price +
      f.copies * threeSteps.steps * stand.charge.fees.label) ≤ 5000 ∧ stand.gate.engine ≠ .resetting := by
  refine ⟨takes _ _ rfl rfl, by decide, by decide, by decide, by decide, by decide, ?_, by decide, by decide, nofun⟩
  intro n h
  cases h
  rfl

/-- The stand with 32 orders. -/
def fullQueue : State := stand.setQueue { stand.queue with orders := List.replicate 32 (order41 .queued) }

theorem witness_OrderRefused :
    let good (f : OrderFields) : Bool := decide (1 ≤ f.magazine ∧ f.magazine ≤ 250 ∧ 1 ≤ f.position ∧ f.position ≤ 120 ∧
      1 ≤ f.copies ∧ f.copies ≤ 9 ∧ f.pattern ≤ 15 ∧ (f.template.all (fun n => decide (n ≤ 7)) = true) ∧ f.mode ≤ 3 ∧
      (f.mode = 3 → f.fixedDensity.isSome = true) ∧ f.strayFlags = 0)
    good { orderFields41 with magazine := 251 } = false ∧ good { orderFields41 with copies := 10 } = false ∧
    good { orderFields41 with pattern := 16 } = false ∧ good { orderFields41 with template := some 8 } = false ∧
    good { orderFields41 with mode := 4 } = false ∧ good { orderFields41 with mode := 3 } = false ∧
    good { orderFields41 with mode := 3, fixedDensity := some 401 } = true ∧
    (∀ c, taken c stand = some stand) ∧ (∀ c, taken c fullQueue = some fullQueue) ∧
    (∀ c, taken c (withEngine .resetting stand) = some (withEngine .resetting stand)) ∧
    good { orderFields41 with position := 121 } = false ∧ good { orderFields41 with account := 0 } = true ∧
    good { orderFields41 with account := 31 } = true ∧ stand.charge.account? 31 = none ∧
    ({ stand.charge with accounts := [⟨30, false, 5000, 0, 0, 0, 0⟩] } : Charge).account? 30 =
      some ⟨30, false, 5000, 0, 0, 0, 0⟩ ∧
    stand.charge.account? 30 = some ⟨30, true, 5000, 0, 0, 0, 0⟩ ∧ stand.stock? 4 = none ∧
    stand.stock? 3 = some (stock 3) ∧ stand.pattern? 5 = none ∧ stand.pattern? 4 = some threeSteps ∧
    stand.template? 2 = none ∧ (stand.template? 1).isSome = true ∧ 32 ≤ fullQueue.queue.orders.length ∧
    stand.queue.orders.length < 32 ∧
    271 < 0 + 0 + (stand.charge.fees.order + 0 + 2 * threeSteps.steps * 40 + 2 * threeSteps.steps * stand.charge.fees.label) ∧
    0 + 0 + (stand.charge.fees.order + 0 + 2 * threeSteps.steps * 40 + 2 * threeSteps.steps * stand.charge.fees.label) ≤ 272 := by
  refine ⟨by decide, by decide, by decide, by decide, by decide, by decide, by decide, fun _ => takes _ _ rfl rfl, fun _ => takes _ _ rfl rfl, fun _ => takes _ _ rfl rfl, ?_⟩
  decide +kernel

theorem witness_CancelOrder (st : OrderState) :
    (∀ c, taken c (withOrder st stand) = some (withOrder st stand)) ∧ stand.gate.engine ≠ .resetting ∧
    (withOrder st stand).order? 40 = none ∧ (withOrder st stand).order? 41 = some (order41 st) ∧
    (order41 st).state = st ∧ (order41 .active).cancelRequested = false ∧
    ({ order41 .active with cancelRequested := true } : Order).cancelRequested = true :=
  ⟨fun _ => takes _ _ rfl rfl, nofun, rfl, rfl, rfl, rfl, rfl⟩

theorem witness_EndingAndSettlementOfAnOrder :
    let o := { order41 .active with goodFrames := 6, goodLabels := 6 }
    o.goodFrames ≤ o.copies * o.pattern.steps ∧ o.goodLabels ≤ o.goodFrames ∧ (o.template = none → o.goodLabels = 0) ∧
    (withOrder .ending stand).order? 41 = some (order41 .ending) ∧ (withOrder .active stand).order? 41 = some (order41 .active) ∧
    (order41 .active).state ≠ .ending ∧ (∃ f, EndKind.faulted .noSlide = .faulted f) ∧
    (∀ f, EndKind.done ≠ .faulted f) ∧ stand.order? 41 = none := by
  refine ⟨by decide, by decide, by decide, rfl, rfl, nofun, ⟨_, rfl⟩, nofun, rfl⟩

theorem witness_OrderNumbersAndWorkItems :
    let q := { (withOrder .queued stand).queue with nextNumber := 65535 }
    let o := { order41 .active with next := some (2, 3), redo := [(1, 2)] }
    (q.orders.length ≤ 32 ∧ 1 ≤ q.nextNumber ∧ q.nextNumber ≤ 65535 ∧ ∀ o ∈ q.orders, o.number ≠ q.nextNumber) ∧
    1 ≤ 2 ∧ 2 ≤ o.copies ∧ 1 ≤ 3 ∧ 3 ≤ o.pattern.steps ∧ o.next = some (2, 3) := by decide +kernel

/-- The stand RUNNING, with order 41 at the head of A's list of a visit at rest. -/
def exposingStand : State :=
  withOrder .active (withVisit { visitAt .exposing with members := [⟨41, .a⟩], lists := ⟨[firstItem], []⟩ }
    (withEngine .running stand))

theorem witness_EndOfAStepAndOpeningOfAVisit :
    let s := withEngine .running (withOrder .queued stand)
    (withOrder .queued stand).gate.engine ≠ .running ∧ exposingStand.gate.visit.isSome = true ∧
    (∀ o ∈ (withOrder .ending stand).queue.orders, eligible (withOrder .ending stand) o = false) ∧
    s.gate.engine = .running ∧ s.gate.visit = none ∧ s.queue.orders = [] ++ order41 .queued :: [] ∧
    eligible s (order41 .queued) = true ∧ s.present .feeder = true := by decide +kernel

theorem witness_StartOfAFiring :
    let v := { visitAt .exposing with members := [⟨41, .a⟩], lists := ⟨[firstItem], []⟩ }
    exposingStand.gate.visit = some v ∧ v.state = .exposing ∧ exposingStand.gate.engine = .running ∧
    exposingStand.timer.firing = none ∧ (v.lists.get .a).isEmpty = false ∧ (exposingStand.roll .a).state = .ready ∧
    v.owed.get .a = false ∧ 6 ≤ 64 - (withLabels 58 exposingStand).labels.queue.length ∧
    ¬(6 ≤ 64 - (withLabels 59 exposingStand).labels.queue.length) ∧ (withLabels 59 exposingStand).labels.labelWait = false ∧
    exposingStand.settings.labelPolicy ≠ .skip ∧ (withEngine .stopped exposingStand).gate.engine ≠ .running ∧
    (exposingStand.order? 41).map (fun o => o.pattern.steps) = some 3 ∧
    ((withRoll .a (readyRoll 3 35) exposingStand).roll .a).frames + 1 - 35 < 3 ∧
    firstItem.kind ≠ .redo ∧ (order41 .active).next = some (1, 1) ∧ firstItem.copy = 1 ∧ firstItem.step = 1 ∧
    (stand.roll .a).film.isSome = true ∧
    (let step := exposingStand.setGate { exposingStand.gate with stepMode := true }
     let owing (last : Nat) := step.setTimer { step.timer with frames := ⟨none, some frame⟩, serial := last }
     step.gate.stepMode = true ∧ (owing 2).timer.frames.get .b = some frame ∧ frame.serial ≠ (owing 2).timer.serial ∧
     frame.serial = (owing 1).timer.serial) := by decide +kernel

/-- The stand with the house account and 63 others. -/
def fullAccounts : State :=
  stand.setCharge { stand.charge with accounts := (List.range' 1 63).map (fun n => ⟨n, true, 0, 0, 0, 0, 0⟩) }

theorem witness_OpenAndReadAccounts (e : Engine) :
    (∀ c, taken c (withEngine e stand) = some (withEngine e stand)) ∧ (withEngine e stand).gate.engine = e ∧
    (∀ c, taken c fullAccounts = some fullAccounts) ∧ (stand.charge.account? 30).isSome = true ∧
    stand.charge.account? 65535 = none ∧ stand.charge.accounts.length < 63 ∧
    fullAccounts.charge.account? 64 = none ∧ 63 ≤ fullAccounts.charge.accounts.length :=
  ⟨fun _ => takes _ _ rfl rfl, rfl, fun _ => takes _ _ rfl rfl, by decide +kernel, by decide +kernel, by decide +kernel,
   by decide +kernel, by decide +kernel⟩

/-- The stand with account 44 of the worked example (07). -/
def account44 : State := stand.setCharge { stand.charge with accounts := [⟨44, true, 1000, 300, 666, 0, 0⟩] }

theorem witness_CeilingAndState :
    (∀ c, taken c account44 = some account44) ∧ account44.gate.engine ≠ .resetting ∧
    account44.charge.account? 43 = none ∧ account44.charge.account? 44 = some ⟨44, true, 1000, 300, 666, 0, 0⟩ ∧
    965 < 300 + 666 ∧ 300 + 666 ≤ 966 := by
  refine ⟨fun _ => takes _ _ rfl rfl, nofun, ?_⟩
  decide +kernel

theorem witness_CreditClearDelete :
    (∀ c, taken c account44 = some account44) ∧ (∀ c, taken c stand = some stand) ∧
    account44.gate.engine ≠ .resetting ∧ account44.charge.account? 43 = none ∧
    account44.charge.account? 44 = some ⟨44, true, 1000, 300, 666, 0, 0⟩ ∧
    stand.charge.account? 30 = some ⟨30, true, 5000, 0, 0, 0, 0⟩ ∧ (∀ o ∈ stand.queue.orders, o.account ≠ 30) ∧
    (∃ o ∈ (withOrder .queued stand).queue.orders, o.account = 30) := by
  refine ⟨fun _ => takes _ _ rfl rfl, fun _ => takes _ _ rfl rfl, nofun, ?_⟩
  decide +kernel

/-- The stand with back A UNLOADED. -/
def unloadedStand : State := withRoll .a { State.resetRoll with state := .unloaded } stand

theorem witness_LoadRoll :
    (∀ c, taken c unloadedStand = some unloadedStand) ∧ (∀ c, taken c stand = some stand) ∧
    stand.gate.engine ≠ .resetting ∧ backOf 0 = some .a ∧ backOf 2 = none ∧
    (1 ≤ 255 ∧ 255 ≤ 255 ∧ ([32, 126, 65, 65, 65, 65] : Text).length = 6 ∧
      ∀ x ∈ ([32, 126, 65, 65, 65, 65] : Text), 32 ≤ x ∧ x ≤ 126) ∧
    ¬(∀ x ∈ ([127, 65, 65, 65, 65, 65] : Text), 32 ≤ x ∧ x ≤ 126) ∧
    (unloadedStand.setSlot .backA State.resetSlot).present Back.a.slot = false ∧
    ¬((stand.roll .a).state = .unloaded ∨ (stand.roll .a).state = .closed) ∧ unloadedStand.stock? 255 = none ∧
    unloadedStand.present Back.a.slot = true ∧ (unloadedStand.roll .a).state = .unloaded ∧
    unloadedStand.stock? 3 = some (stock 3) ∧ (unloadedStand.roll .a).report = none ∧
    unloadedStand.settings.leaderFrames ≠ 0 ∧ unloadedStand.settings.leaderMode = .auto ∧
    ((withRoll .a { State.resetRoll with state := .closed, report := some (1, (readyRoll 3 9).rollReport .a .desk) }
      stand).roll .a).report.isSome = true := by
  refine ⟨fun _ => takes _ _ rfl rfl, fun _ => takes _ _ rfl rfl, nofun, ?_⟩
  decide +kernel

/-- The stand with back A SUSPECT. -/
def suspectStand : State := withRoll .a { readyRoll 3 5 with state := .suspect } stand

theorem witness_CloseAndResyncRoll :
    (∀ c, taken c stand = some stand) ∧ (∀ c, taken c suspectStand = some suspectStand) ∧
    stand.gate.engine ≠ .resetting ∧ backOf 2 = none ∧ backOf 1 = some .b ∧
    ((unloadedStand.roll .a).state ≠ .leader ∧ (unloadedStand.roll .a).state ≠ .ready ∧
      (unloadedStand.roll .a).state ≠ .suspect) ∧
    ((stand.roll .a).state = .ready ∧ stand.shot? .a = none ∧ stand.timer.frames.get .a = none ∧
      (stand.slot .backA).outstanding = none) ∧
    ((withFiring .lit stand).shot? .a).isSome = true ∧ (suspectStand.roll .a).state = .suspect ∧
    (suspectStand.roll .a).leaderRemaining = 0 ∧ suspectStand.present Back.a.slot = true ∧
    (suspectStand.slot Back.a.slot).outstanding = none ∧
    ((withCommand .backA .readCount (.direct none) suspectStand).slot Back.a.slot).outstanding.isSome = true ∧
    ((withRoll .a { readyRoll 3 5 with state := .suspect, leaderRemaining := 1 } stand).roll .a).leaderRemaining ≠ 0 ∧
    (suspectStand.setSlot .backA State.resetSlot).present Back.a.slot = false := by
  refine ⟨fun _ => takes _ _ rfl rfl, fun _ => takes _ _ rfl rfl, nofun, ?_⟩
  decide +kernel

theorem witness_ReadRollMap :
    (∀ c, taken c stand = some stand) ∧ (∀ c, taken c unloadedStand = some unloadedStand) ∧
    stand.gate.engine ≠ .resetting ∧ backOf 2 = none ∧ (unloadedStand.roll .a).film = none ∧
    (stand.roll .a).film.map (fun x => x.frames) = some 36 ∧ (1 ≤ 36 ∧ 36 ≤ 36 ∧ 1 ≤ 16 ∧ 16 ≤ 16) ∧
    ¬(1 ≤ 37 ∧ 37 ≤ 36 ∧ 1 ≤ 1 ∧ 1 ≤ 16) := by
  refine ⟨fun _ => takes _ _ rfl rfl, fun _ => takes _ _ rfl rfl, nofun, ?_⟩
  decide +kernel

theorem witness_LabelQueue :
    taken (.discardLabels 7#8 (.given ())) (withLabels 64 stand) = some (withLabels 64 stand) ∧
    stand.gate.engine ≠ .resetting ∧ (stand.roll .a).headerDone = false ∧
    ((withRoll .a { readyRoll 3 5 with headerDone := true } stand).roll .a).headerDone = true ∧
    (stand.setLabels { stand.labels with syncCounter := 16 }).syncDue = true ∧
    (stand.setLabels { stand.labels with syncCounter := 15 }).syncDue = false ∧
    (preceding (withLabels 62 stand) .a 5).toList.length + 1 ≤ 64 - (withLabels 62 stand).labels.queue.length ∧
    64 - (withLabels 63 stand).labels.queue.length < (preceding (withLabels 63 stand) .a 5).toList.length + 1 ∧
    ((runTemplate { entry := MapEntry.fresh, back := .a, rollId := [], position := 1, order := order41 .active,
                    jobDate := none, templates := [] } catalogTemplate).isSome = true) ∧
    Run.start.beyond = false ∧ (Run.start.lines.getLast?.getD []).length + (List.replicate 24 65).length ≤ 24 := by
  refine ⟨takes _ _ rfl rfl, nofun, ?_⟩
  decide +kernel

/-- A roll whose first entry is an EXPOSED, labelled frame of order 41. -/
def exposedRoll : Roll :=
  { readyRoll 3 2 with film := (readyRoll 3 2).film.map (fun f => { f with map :=
      { MapEntry.fresh with state := .exposed, item := some (41, 1, 1), labelled := true } :: f.map.tail }) }

theorem witness_LostRolls :
    let s := withOrder .active (withRoll .a exposedRoll stand)
    let firing := withFiring .lit stand
    let held := withFrame stand
    stand.shot? .a = none ∧ stand.timer.frames.get .a = none ∧ (s.queue.orders.map (fun o => o.number)).Nodup ∧
    s.order? 41 = some (order41 .active) ∧ (order41 .active).state ≠ .ending ∧ (order41 .active).cancelRequested = false ∧
    (∃ film, (s.roll .a).film = some film ∧ film.map.filter (fun e => e.state == .exposed &&
      e.item.any (fun i => i.1 == 41) && e.labelled) ≠ []) ∧
    (withOrder .ending s).order? 41 = some (order41 .ending) ∧
    firing.timer.firing = some (firingIn .lit) ∧ firing.shot? .a = some shot ∧ 1 ≤ (firing.roll .a).counter ∧
    (firing.roll .a).counter ≤ 36 ∧ firing.shot? .b = none ∧
    (let f := { firingIn .lit with shots := ⟨some shot, some shot⟩ }
     (firing.setTimer { firing.timer with firing := some f }).shot? .b = some shot) ∧
    held.timer.frames.get .a = some frame ∧ 1 ≤ frame.position ∧ frame.lampSpoiled = false ∧
    ({ frame with lampSpoiled := true } : FrameRec).lampSpoiled = true ∧ (held.roll .a).film.isSome = true := by
  refine ⟨rfl, rfl, by decide, rfl, nofun, rfl, ⟨_, rfl, by decide⟩, rfl, rfl, rfl, by decide, by decide, rfl, rfl, rfl,
    by decide, rfl, rfl, rfl⟩

theorem witness_DirectFramesAreForwardedOrTrapped :
    (∀ c, taken c stand = some stand) ∧ (∀ c, taken c State.reset = some State.reset) ∧ stand.gate.engine ≠ .resetting ∧
    slotOf 1#8 = some .feeder ∧ slotOf 2#8 = some .meter ∧ slotOf 3#8 = some .backA ∧ slotOf 5#8 = some .printer ∧
    UnitSlot.feeder.expects = (UnitCmd.load 120).name.unit ∧ UnitSlot.backA.expects = (UnitCmd.testShutter 250000).name.unit ∧
    printOf ⟨3, 3, [[], [126], List.replicate 24 32]⟩ ≠ none ∧ State.reset.present .feeder = false ∧
    stand.present .feeder = true ∧ trapReason stand .feeder (.load 1) = none ∧ (stand.slot .feeder).hasDirect = false ∧
    trapReason (withEngine .running stand) .feeder (.load 1) = some .busy ∧
    trapReason deferredStand .backA .readCount = none ∧ (deferredStand.slot .backA).hasDirect = true ∧
    (∀ c, taken c deferredStand = some deferredStand) := by
  refine ⟨fun _ => takes _ _ rfl rfl, fun _ => takes _ _ rfl rfl, nofun, ?_⟩
  refine ⟨rfl, rfl, rfl, rfl, rfl, rfl, by decide +kernel, rfl, rfl, rfl, rfl, rfl, rfl, rfl, fun _ => takes _ _ rfl rfl⟩

theorem witness_DirectFramesRefusedOrTrapped :
    (∀ c e, taken c (withEngine e stand) = some (withEngine e stand)) ∧
    (withEngine .resetting stand).gate.engine = .resetting ∧ stand.gate.engine ≠ .resetting ∧ slotOf 6#8 = none ∧
    slotOf 1#8 = some .feeder ∧ UnitSlot.feeder.expects ≠ CmdName.scan.unit ∧
    ¬(∃ p, (Fields.given 121 : Fields Nat) = .given p ∧ 1 ≤ p ∧ p ≤ 120) ∧
    ¬((Fields.mismatched : Fields Unit) = .given ()) ∧
    ¬(∃ x, (Fields.given 250001 : Fields Nat) = .given x ∧ 10 ≤ x ∧ x ≤ 250000) ∧
    trapReason (withEngine .running stand) .feeder (.load 1) ≠ none ∧
    trapReason stand Back.a.slot (.advance .leader 1) ≠ none := by
  refine ⟨fun _ _ => takes _ _ rfl rfl, rfl, nofun, rfl, rfl, nofun, ?_, nofun, ?_, by decide +kernel, by decide +kernel⟩
  · rintro ⟨p, h, -, h3⟩
    cases h
    omega
  · rintro ⟨p, h, -, h3⟩
    cases h
    omega

theorem witness_Polls :
    let polled (u : UnitSlot) (p : Poll) : State := stand.setSlot u { stand.slot u with poll := some p, exchange := 255 }
    let gone (st : SlotState) : State :=
      stand.setSlot .meter { State.resetSlot with state := st, poll := some .presence, exchange := 255 }
    (∀ u, (stand.slot u).poll = none ∧ (stand.slot u).outstanding = none) ∧
    ((withCommand .feeder .ret .visit stand).slot .feeder).outstanding.isSome = true ∧
    ((polled .feeder .presence).slot .feeder).poll = some .presence ∧ ((polled .feeder .presence).slot .feeder).state = .present ∧
    ((polled .feeder .presence).slot .feeder).exchange = 255 ∧ (Presence.feeder 250).fits = true ∧
    (Presence.feeder 250).kind = UnitSlot.feeder.expects ∧ Presence.back.kind ≠ UnitSlot.meter.expects ∧
    ((gone .absent).slot .meter).state = .absent ∧ ((gone .disabled).slot .meter).state = .disabled ∧
    ((polled .feeder .status).slot .feeder).poll = some .status ∧
    ((polled .feeder .status).slot .feeder).exchange = 255 ∧ (StatusReport.feeder 250).fits = true ∧
    StatusReport.meter.kind ≠ UnitSlot.feeder.expects ∧ (StatusReport.printer true).fits = true ∧
    ((polled .printer .status).slot .printer).poll = some .status ∧ ((polled .backB .status).slot Back.b.slot).poll = some .status ∧
    (stand.slot .feeder).poll ≠ some .presence ∧ ((polled .feeder .status).slot .feeder).exchange ≠ 0 := by
  refine ⟨fun u => by cases u <;> exact ⟨rfl, rfl⟩, ?_⟩
  decide +kernel

theorem witness_IssuingACommand :
    UnitSlot.meter ≠ .feeder ∧ (stand.slot .feeder).outstanding = none ∧ (stand.slot .feeder).waiting = [] ∧
    ((withCommand .feeder (.load 5) .visit stand).slot .feeder).outstanding.isSome = true := by decide +kernel

theorem witness_UnmatchedCompletionsAreIgnored :
    (∃ r, Instr.loadCompletion 4 .ok = .loadCompletion 4 r) ∧
    (∀ o, ((withCommand .feeder (.load 5) .visit stand).slot .feeder).outstanding = some o → o.exchange ≠ 4) ∧
    (∀ u, (stand.slot u).outstanding = none) :=
  ⟨⟨_, rfl⟩, fun o h => by cases h; decide, fun u => by cases u <;> rfl⟩

/-- The stand with a visit of order 41, as its LOAD is outstanding. -/
def loadingStand : State :=
  withCommand .feeder (.load 37) .visit (withOrder .active (withVisit { visitAt .loading with
    members := [⟨41, .a⟩], slide := false } (withEngine .running stand)))

theorem witness_FeederCompletionsAndPhases :
    let fixed : Order := { order41 .active with mode := .fixed, fixedDensity := some 400 }
    let fixedStand := loadingStand.setQueue { loadingStand.queue with orders := [fixed] }
    let noMeter := loadingStand.setSlot .meter State.resetSlot
    let noFeeder := (withVisit (visitAt .exposing) stand).setSlot .feeder State.resetSlot
    let done : Order := { order41 .active with next := none }
    (loadingStand.slot .feeder).outstanding = some ⟨.load 37, .visit, 5, 1200⟩ ∧ (UnitCmd.load 37).name = .load ∧
    loadingStand.gate.engine ≠ .resetting ∧
    (∃ v, loadingStand.gate.visit = some v ∧ v.members ≠ [] ∧ v.release = false ∧ v.slide = false ∧ v.held = false ∧
      (∃ m ∈ v.members, ∃ o, loadingStand.order? m.order = some o ∧ o.mode ≠ .fixed) ∧
      (∀ m ∈ v.members, m.order = fixed.number)) ∧
    (visitAt .loading).members = [] ∧ fixedStand.order? 41 = some fixed ∧ fixed.mode = .fixed ∧
    fixed.fixedDensity = some 400 ∧ loadingStand.present .meter = true ∧ noMeter.present .meter = false ∧
    ({ visitAt .loading with held := true } : Visit).held = true ∧ noFeeder.present .feeder = false ∧
    (visitAt .exposing).slide = true ∧ (visitAt .exposing).state = .exposing ∧ stand.timer.firing = none ∧
    (visitAt .exposing).owed = ⟨false, false⟩ ∧ (visitAt .exposing).lists = ⟨[], []⟩ ∧
    (loadingStand.queue.orders.map (fun o => o.number)).Nodup ∧ (order41 .active).next.isSome = true ∧
    done.next.isSome = false ∧ done.redo = [] ∧
    ((withCommand .feeder .ret .visit (withVisit (visitAt .returning) stand)).slot .feeder).outstanding =
      some ⟨.ret, .visit, 5, 1200⟩ := by
  refine ⟨rfl, rfl, nofun, ⟨_, rfl, nofun, rfl, rfl, rfl, ⟨⟨41, .a⟩, .head _, _, rfl, nofun⟩, ?_⟩, rfl, rfl, rfl, rfl, rfl,
    rfl, rfl, rfl, rfl, rfl, rfl, rfl, rfl, by decide, rfl, rfl, rfl, rfl⟩
  decide +kernel

theorem witness_MeterCompletions :
    let zones : List Zone := .failed :: .failed :: .failed :: .failed :: .failed :: List.replicate 4 (.ok 100)
    let v := { visitAt .metering with metering := true, members := [⟨41, .a⟩], zones := zones }
    let metering := withOrder .active (withVisit v stand)
    ((withCommand .meter .scan .visit metering).slot .meter).outstanding = some ⟨.scan, .visit, 5, 1200⟩ ∧
    ((withCommand .meter (.spot 9) .visit metering).slot .meter).outstanding = some ⟨.spot 9, .visit, 5, 1200⟩ ∧
    ((withCommand .meter .scan .cutPhase metering).slot .meter).outstanding = some ⟨.scan, .cutPhase, 5, 1200⟩ ∧
    (Reading.density 65533).fits = true ∧ (ScanResult.ok (List.replicate 9 .fail)).fits = true ∧
    ScanResult.fail.fits = true ∧ metering.gate.visit = some v ∧ v.zones.length = 9 ∧ v.rereads = [] ∧
    metering.order? 41 = some (order41 .active) ∧ (order41 .active).state ≠ .ending ∧ (order41 .active).mode ≠ .fixed ∧
    5 ≤ (v.zones.filter (fun z => z == .failed)).length ∧
    ((v.zones.set 0 (.ok 0)).filter (fun z => z == .failed)).length < 5 :=
  ⟨rfl, rfl, rfl, by decide, by decide, rfl, rfl, rfl, rfl, rfl, nofun, nofun, by decide, by decide⟩

theorem witness_AdvanceCompletion :
    let s := withFrame stand
    (s.slot Back.a.slot).outstanding = some ⟨.advance .frame 1, .firing, 5, 1200⟩ ∧
    s.timer.frames.get .a = some frame ∧
    (withCommand .backA (.advance .frame 1) .firing stand).timer.frames.get .a = none ∧
    (∃ film, (s.roll .a).film = some film ∧ 1 ≤ frame.position ∧ frame.position ≤ film.map.length ∧
      10 ≠ film.frames + 1) ∧
    ((withRoll .a (readyRoll 3 36) s).roll .a).counter + 1 = ((withRoll .a (readyRoll 3 36) s).roll .a).frames + 1 ∧
    10 = (s.roll .a).counter + 1 ∧ 255 ≠ (s.roll .a).counter + 1 ∧ s.gate.engine ≠ .faulted ∧
    frame.lampSpoiled = false ∧ frame.expected ≤ 24900 + frame.allowed ∧ 24900 ≤ frame.expected + frame.allowed ∧
    24900 < 16777216 := by
  refine ⟨rfl, rfl, rfl, ⟨_, rfl, by decide, by decide, by decide⟩, rfl, rfl, by decide, nofun, rfl, by decide, by decide,
    by decide⟩

theorem witness_LeaderAndBlankingCompletions :
    ((withCommand .backA (.advance .leader 2) .leader stand).slot Back.a.slot).outstanding =
      some ⟨.advance .leader 2, .leader, 5, 1200⟩ ∧
    ((withCommand .backA (.advance .frame 2) .blanking stand).slot Back.a.slot).outstanding =
      some ⟨.advance .frame 2, .blanking, 5, 1200⟩ ∧ (UnitCmd.advance .leader 2).name = .advance ∧
    (AdvanceResult.ok = .ok ∧ 255 ≠ 1 ∧ 255 ≤ 255) := ⟨rfl, rfl, rfl, by decide⟩

/-- The stand with a MANUAL leader of 3 frames on back A. -/
def leaderStand : State := withRoll .a { readyRoll 3 1 with state := .leader, leaderRemaining := 3 } stand

theorem witness_DeferredAndPrintCompletions :
    let pass (n : Nat) := withCommand .backA (.advance .leader n) (.direct (some 9#8)) leaderStand
    let resync := withCommand .backA .readCount (.resync (some 9#8)) suspectStand
    let print := withCommand .printer (.print labelRec.job) .label (withLabels 1 stand)
    ((pass 3).slot Back.a.slot).outstanding = some ⟨.advance .leader 3, .direct (some 9#8), 5, 1200⟩ ∧
    ((pass 3).roll .a).state = .leader ∧ ((pass 3).roll .a).leaderRemaining = 3 ∧
    2 < ((pass 2).roll .a).leaderRemaining ∧
    (resync.slot Back.a.slot).outstanding = some ⟨.readCount, .resync (some 9#8), 5, 1200⟩ ∧
    5 ≤ (resync.roll .a).counter ∧ (resync.roll .a).counter < 36 ∧ 36 ≤ (resync.roll .a).frames ∧
    (resync.roll .a).frames < 37 ∧ (resync.roll .a).frames < 255 ∧ AdvanceResult.filmEnd ≠ .ok ∧ 255 ≠ 1 ∧
    resync.gate.engine ≠ .resetting ∧ resync.gate.engine ≠ .faulted ∧
    (deferredStand.slot .backA).outstanding = some ⟨.readCount, .direct (some 9#8), 5, 1200⟩ ∧
    UnitCmd.readCount.name = resultName (.readCount 255) ∧ (DirectResult.readCount 255).fits = true ∧
    (print.slot .printer).outstanding = some ⟨.print labelRec.job, .label, 5, 1200⟩ ∧
    (print.setLabels { print.labels with printing := true }).labels.printing = true :=
  ⟨rfl, rfl, rfl, by decide, rfl, by decide, by decide, by decide, by decide, by decide, nofun, by decide, nofun, nofun, rfl,
    rfl, by decide, rfl, rfl⟩

/-- The back states that take a forwarded count and those that do not, and forwarded commands of other kinds. -/
theorem witness_DeferredAndPrintCompletions_direct (x : BackState) :
    let s := withCommand .backA .readCount (.direct (some 9#8)) (withRoll .a { readyRoll 3 9 with state := x } stand)
    let scanning := withCommand .meter .scan (.direct (some 9#8)) stand
    (s.slot Back.a.slot).outstanding = some ⟨.readCount, .direct (some 9#8), 5, 1200⟩ ∧ (s.roll .a).state = x ∧
    UnitCmd.readCount.name = resultName (.readCount 1) ∧ (DirectResult.readCount 1).fits = true ∧
    (scanning.slot .meter).outstanding = some ⟨.scan, .direct (some 9#8), 5, 1200⟩ ∧
    UnitCmd.scan.name = resultName (.scan .fail) ∧ (DirectResult.scan .fail).fits = true ∧
    (∀ c, DirectResult.scan .fail ≠ .readCount c) ∧ (∀ j : Back, UnitSlot.meter ≠ j.slot) ∧
    (UnitCmd.testShutter 10).name = resultName (.testShutter 12) :=
  ⟨rfl, rfl, rfl, by decide, rfl, rfl, by decide, nofun, fun j => by cases j <;> decide, rfl⟩

theorem witness_UnitsLost :
    let timing := withFrame stand
    let metering := withCommand .meter .scan (.direct (some 9#8))
      (withVisit { visitAt .metering with metering := true } (withEngine .running stand))
    let firing := withCommand .backA .readCount (.direct (some 9#8)) (withFiring .lit stand)
    (deferredStand.slot Back.a.slot).outstanding = some ⟨.readCount, .direct (some 9#8), 5, 1200⟩ ∧
    deferredStand.shot? .a = none ∧ (deferredStand.slot Back.a.slot).waiting = [] ∧
    (stand.roll .a).state = .ready ∧ (unloadedStand.roll .a).state = .unloaded ∧
    ((withCommand .backA .readCount (.resync (some 9#8)) suspectStand).slot .backA).outstanding =
      some ⟨.readCount, .resync (some 9#8), 5, 1200⟩ ∧
    (timing.slot Back.a.slot).outstanding = some ⟨.advance .frame 1, .firing, 5, 1200⟩ ∧ (timing.roll .a).state = .ready ∧
    timing.timer.frames.get .a = some frame ∧
    (metering.slot .meter).outstanding = some ⟨.scan, .direct (some 9#8), 5, 1200⟩ ∧
    metering.gate.visit = some { visitAt .metering with metering := true } ∧
    (firing.slot Back.a.slot).outstanding = some ⟨.readCount, .direct (some 9#8), 5, 1200⟩ ∧ firing.shot? .a = some shot ∧
    firing.shot? .b = none ∧ firing.timer.frames = ⟨none, none⟩ ∧ firing.gate.resume = none ∧
    faultedStand.gate.engine = .faulted ∧ (withEngine .faulted stand).events.pendingFault = none ∧
    heldStand.gate.visit.isSome = true ∧ heldStand.gate.engine ≠ .faulted ∧
    deferredStand.link.deskReady = false ∧ (readied deferredStand).link.deskReady = true ∧
    (readied deferredStand).link.sending = none := by decide +kernel

theorem witness_FiringsAndTheirLines (p : FiringPhase) :
    let short := { shot with time := 100 }
    let two (deadline : Nat) : Firing := { firingIn .lampRising with shots := ⟨some shot, some short⟩, deadline := deadline }
    (withFiring p stand).timer.firing = some (firingIn p) ∧ (firingIn p).phase = p ∧
    (firingIn p).shots.get .a = some shot ∧ shot.shutter = .open_ ∧ (withFiring p stand).shot? .a = some shot ∧
    (two 650).preOpen + short.time ≠ (two 650).lampFall ∧ (two 650).preOpen + short.time ≠ (two 650).deadline ∧
    (firingIn p).preOpen + shot.time = (firingIn p).lampFall ∧ (two 600).preOpen + short.time = (two 600).deadline ∧
    (withFiring p stand).shot? .b = none ∧ (withFiring p stand).gate.engine ≠ .faulted :=
  ⟨rfl, rfl, rfl, rfl, rfl, by decide, by decide, by cases p <;> decide, by decide, rfl, nofun⟩

/-- A deadline that finds nothing due in a LIT firing, a shutter that has fallen, and no firing in flight. -/
theorem witness_FiringsAndTheirLines_unawaited :
    (firingIn .lit).deadline ≠ (firingIn .lit).lampFall ∧
    (∀ j y, (firingIn .lit).shots.get j = some y → y.shutter = .open_ →
      (firingIn .lit).preOpen + y.time ≠ (firingIn .lit).deadline) ∧
    (∀ y, ({ firingIn .lit with shots := ⟨some { shot with shutter := .closed }, none⟩ } : Firing).shots.get .a = some y →
      y.shutter ≠ .open_) ∧ stand.timer.firing = none := by
  refine ⟨by decide, ?_, ?_, rfl⟩
  · intro j y hy _; cases j <;> cases hy; decide
  · intro y hy; cases hy; nofun

theorem witness_ExposureArithmetic :
    State.defaultSettings.floor ≤ State.defaultSettings.ceiling ∧ unclampedTime 4000 80 = none ∧
    unclampedTime 4000 (-100) = some 4 ∧ unclampedTime 4000 75 = some 723968 ∧ unclampedTime 4000 26 = some 24256 ∧
    9 < 10 ∧ 7 ≤ 7 ∧ 8 ≤ 8 ∧ 16 ≤ 16 ∧ 17 ≤ 17 ∧ (20 : Int) ≤ 20 ∧ (20 : Int) < 21 ∧
    validValues [.ok 210, .failed, .over] ≠ [] ∧ ∀ v ∈ validValues [.ok 210, .failed, .over], 210 ≤ v ∧ v ≤ 400 := by
  decide +kernel

/-- A zone table with a valid centre and one with it FAILED, and an order on a roll of the worked example (03). -/
theorem witness_ExposureArithmetic_densities :
    let zones : List Zone := [.ok 210, .reread 205, .ok 230, .ok 190, .over, .failed, .ok 200, .ok 220, .over]
    let dark := zones.set 4 .failed
    zones[4]? = some .over ∧ Zone.over.value? = some 400 ∧ zones.filterMap Zone.value? ≠ [] ∧ dark[4]? = some .failed ∧
    Zone.failed.value? = none ∧ dark.filterMap Zone.value? ≠ [] ∧
    (∃ film, (stand.roll .a).film = some film ∧ stand.stock? film.stock = some (stock 3)) ∧
    ({ order41 .active with density := some 105 } : Order).density = some 105 ∧
    (order41 .active).pattern.offsets[1 - 1]? = some (-5) ∧ (order41 .active).pattern.offsets[3 - 1]? = some 5 := by
  refine ⟨rfl, rfl, by decide, rfl, rfl, by decide, ⟨_, rfl, rfl⟩, rfl, rfl, rfl⟩

/-! ## Witnesses for the clauses on parts of a step -/

/-- The stand with a visit in a state, its release requested or not. -/
def visiting (x : VisitState) (release : Bool) : State :=
  withVisit { visitAt x with release := release } (withEngine .stopping stand)

/-- The paths of RUN and of the release, by visit state. -/
theorem witness_RunAndStepMode_paths (x : VisitState) (release : Bool) :
    let s := visiting x release
    let v : Visit := { visitAt x with release := release }
    stand.gate.visit = none ∧ s.gate.visit = some v ∧ v.state = x ∧ v.held = false ∧ v.release = release ∧
    v.metering = false ∧ s.gate.engine ≠ .resetting ∧ s.present .feeder = true ∧ s.present .meter = true ∧
    (s.setSlot .feeder State.resetSlot).present .feeder = false ∧ (s.setSlot .meter State.resetSlot).present .meter = false ∧
    (s.slot .feeder).outstanding = none ∧ (s.slot .feeder).waiting = [] ∧
    ((withCommand .feeder .ret .visit s).slot .feeder).outstanding = some ⟨.ret, .visit, 5, 1200⟩ ∧
    (withVisit { v with metering := true } s).gate.visit = some { v with metering := true } := by
  cases x <;> cases release <;> decide +kernel

/-- The release in EXPOSING, at rest and not. -/
theorem witness_StopRelease_paths :
    let s := visiting .exposing true
    (s.timer.firing = none ∧ (visitAt .exposing).owed = ⟨false, false⟩) ∧
    ((withFiring .lit s).timer.firing = some (firingIn .lit)) ∧ (withFiring .lit s).gate.visit = s.gate.visit ∧
    s.gate.visit = some { visitAt .exposing with release := true } := by decide +kernel

/-- An ACTIVE order to be cancelled with a part in the firing, with one in a frame record, and with none. -/
theorem witness_CancelOrder_parts :
    let s := withFiring .lit exposingStand
    let t := withFrame exposingStand
    (∀ c, taken c s = some s) ∧ (∀ c, taken c t = some t) ∧ (∀ c, taken c exposingStand = some exposingStand) ∧
    s.order? 41 = some (order41 .active) ∧ t.order? 41 = some (order41 .active) ∧
    s.shot? .a = some shot ∧ t.timer.frames.get .a = some frame ∧ shot.item.order = 41 ∧ frame.item.order = 41 ∧
    (∀ k, exposingStand.shot? k = none ∧ exposingStand.timer.frames.get k = none) := by
  refine ⟨fun _ => takes _ _ rfl rfl, fun _ => takes _ _ rfl rfl, fun _ => takes _ _ rfl rfl, rfl, rfl, rfl, rfl, rfl, rfl, ?_⟩
  intro k; cases k <;> exact ⟨rfl, rfl⟩

/-- A stop that ends, of either kind, and one that goes on. -/
theorem witness_EndOfAStepAndOpeningOfAVisit_stops :
    let held := withVisit { visitAt .exposing with held := true } (stoppingStand .hold)
    let flying := withFiring .lit held
    (withEngine .stopping stand).gate.engine = .stopping ∧ (withEngine .stopping stand).gate.visit = none ∧
    held.gate.engine = .stopping ∧ held.gate.stopKind = some .hold ∧ held.timer.firing = none ∧
    held.gate.visit = some { visitAt .exposing with held := true } ∧ (visitAt .exposing).owed = ⟨false, false⟩ ∧
    (∀ u, (held.slot u).outstanding = none ∧ (held.slot u).waiting = []) ∧
    flying.gate.engine = .stopping ∧ flying.gate.visit.isSome = true ∧ flying.timer.firing = some (firingIn .lit) := by
  refine ⟨rfl, rfl, rfl, rfl, rfl, rfl, rfl, ?_, rfl, rfl, rfl⟩
  intro u; cases u <;> exact ⟨rfl, rfl⟩

/-- RESYNC ROLL at the first back number that is none. -/
theorem witness_CloseAndResyncRoll_backs :
    taken (.resyncRoll 7#8 (.given 2)) stand = some stand ∧ stand.gate.engine ≠ .resetting ∧ backOf 2 = none ∧
    backOf 0 = some .a ∧ backOf 1 = some .b := ⟨takes _ _ rfl rfl, nofun, rfl, rfl, rfl⟩

/-- The label of an entry: its order gone, without a template, with one that is not loaded, and with one that is; no room
under SKIP and under HOLD; the printer ready with a record, and busy. -/
theorem witness_LabelQueue_parts :
    let s := withRoll .a exposedRoll (withOrder .active stand)
    let gone := withRoll .a exposedRoll stand
    let e : MapEntry := { MapEntry.fresh with state := .exposed, item := some (41, 1, 1), labelled := true }
    let skipping := (withLabels 63 stand).setLabels { (withLabels 63 stand).labels with noted := ⟨some .skip, none⟩ }
    (s.roll .a).entry? 1 = some e ∧ (gone.roll .a).entry? 1 = some e ∧ e.item = some (41, 1, 1) ∧
    gone.order? 41 = none ∧ s.order? 41 = some (order41 .active) ∧ (order41 .active).template = some 1 ∧
    s.labels.templates[1]? = some (some catalogTemplate) ∧ (s.labels.templates[2]?).getD none = none ∧
    (runTemplate { entry := e, back := .a, rollId := (s.roll .a).id, position := 1, order := order41 .active,
                   jobDate := s.settings.jobDate, templates := s.labels.templates }
      { steps := [.omit_], literals := [[], [], [], []] }).isNone = true ∧
    skipping.labels.noted.get .a = some .skip ∧ (withLabels 63 stand).labels.noted.get .a ≠ some .skip ∧
    64 - skipping.labels.queue.length < (preceding skipping .a 5).toList.length + 1 ∧
    (withLabels 2 stand).labels.queue = labelRec :: [labelRec] ∧ stand.bus.printer.state = .present ∧
    stand.bus.printer.printer = some .ready ∧ stand.bus.printer.outstanding = none ∧
    (withCommand .printer .ret .label (withLabels 2 stand)).bus.printer.outstanding.isSome = true := by decide +kernel

/-- A command that waits on a slot with none outstanding. -/
theorem witness_IssuingACommand_next :
    let s := stand.setSlot .backA { stand.slot .backA with waiting := [⟨.testShutter 5, .direct none⟩] }
    (s.slot .backA).outstanding = none ∧ (s.slot .backA).waiting = ⟨.testShutter 5, .direct none⟩ :: [] ∧
    (stand.slot .meter).waiting = [] := ⟨rfl, rfl, rfl⟩

/-- A metering phase to be judged whose visit agrees with the queue. -/
theorem witness_MeterCompletions_judging :
    let v := { visitAt .metering with metering := true, members := [⟨41, .a⟩], zones := List.replicate 9 (.ok 100) }
    let s := withOrder .active (withVisit v (withEngine .running stand))
    s.gate.visit = some v ∧ v.zones.length = 9 ∧ RecordsAgree s := by
  unfold RecordsAgree; decide +kernel

/-- A firing that completes with STEP on; a measurement below its bound for an order with reshoots left and at the limit. -/
theorem witness_AdvanceCompletion_step :
    let s := exposingStand.setGate { exposingStand.gate with stepMode := true }
    let limit (n : Nat) : State := (withFrame exposingStand).setSettings { stand.settings with reshootLimit := n }
    (s.gate.engine = .running ∧ s.gate.stepMode = true ∧ (∃ v, s.gate.visit = some v ∧ v.held = false)) ∧
    s.timer.firing = none ∧ s.timer.frames = ⟨none, none⟩ ∧ exposingStand.gate.stepMode = false ∧
    frame.lampSpoiled = false ∧ ¬(frame.expected ≤ 100 + frame.allowed ∧ 100 ≤ frame.expected + frame.allowed) ∧
    (∀ n, (limit n).timer.frames.get .a = some frame) ∧ (limit 0).order? frame.item.order = some (order41 .active) ∧
    (limit 1).order? frame.item.order = some (order41 .active) ∧ (order41 .active).state ≠ .ending ∧
    (order41 .active).cancelRequested = false ∧ (limit 0).settings.reshootLimit ≤ (order41 .active).reshoots ∧
    (order41 .active).reshoots < (limit 1).settings.reshootLimit := by
  refine ⟨⟨rfl, rfl, _, rfl, rfl⟩, rfl, rfl, rfl, rfl, by decide, fun _ => rfl, rfl, rfl, nofun, rfl, by decide, by decide⟩

/-- A leader count of 2 in RUNNING, and in FAULTED with no record waiting. -/
theorem witness_LeaderAndBlankingCompletions_engines :
    let s := withCommand .backA (.advance .leader 2) .leader stand
    s.gate.engine ≠ .faulted ∧ s.gate.engine ≠ .resetting ∧ (withEngine .faulted s).gate.engine = .faulted ∧
    (withEngine .faulted s).events.pendingFault = none ∧ 2 ≠ 1 := by decide +kernel

/-- A command that waits behind a DIRECT frame on a back: the advance of a frame, a leader advance, a blanking. -/
theorem witness_UnitsLost_waiting :
    let behind (i : Issuer) (s : State) : State :=
      s.setSlot .backA { s.slot .backA with
        outstanding := some ⟨.readCount, .direct (some 9#8), 5, 1200⟩, waiting := [⟨.advance .frame 1, i⟩] }
    let leading := behind .leader (withRoll .a { readyRoll 3 1 with state := .leader, leaderRemaining := 3 } stand)
    let closing := behind .blanking (withRoll .a { readyRoll 3 9 with state := .closing, closeCause := some .desk } stand)
    let timing := behind .firing (withFrame exposingStand)
    (∀ i s, ((behind i s).slot Back.a.slot).outstanding = some ⟨.readCount, .direct (some 9#8), 5, 1200⟩ ∧
      ((behind i s).slot Back.a.slot).waiting = [⟨.advance .frame 1, i⟩]) ∧
    (Issuer.direct (some 9#8)).isDirect = true ∧
    timing.shot? .a = none ∧ (timing.roll .a).state = .ready ∧ timing.timer.frames.get .a = some frame ∧
    leading.shot? .a = none ∧ (leading.roll .a).state = .leader ∧
    closing.shot? .a = none ∧ (closing.roll .a).state = .closing ∧ closing.gate.engine ≠ .resetting ∧
    stand.link.deskReady = false := by
  refine ⟨fun i s => ⟨rfl, rfl⟩, rfl, rfl, rfl, rfl, rfl, rfl, rfl, rfl, nofun, rfl⟩

/-- The cleanup before the film stage, at rest in it, and at the slide with a failure kept. -/
theorem witness_CleanupOfLinkReset_stages :
    let s (x : Stage) : State := cleaningStand { stage := x, failure := none } (visitAt .exposing)
    let failed : Cleanup := { stage := .slide, failure := some (visitFault stand .gateJam .feeder) }
    (∀ x, (s x).gate.engine = .resetting ∧ (s x).gate.cleanup = some { stage := x, failure := none }) ∧
    (∀ k : Back, ((s .film).slot k.slot).issuers = []) ∧
    (cleaningStand failed (visitAt .exposing)).gate.cleanup = some failed ∧
    (cleaningStand failed (visitAt .exposing)).visitCommand .feeder = false := by
  refine ⟨fun x => ⟨rfl, rfl⟩, ?_, rfl, rfl⟩
  intro k; cases k <;> rfl

/-- The cleanup with a meter command of the cut phase outstanding, and with another's. -/
theorem witness_CleanupOfLinkReset_lines :
    let s (i : Issuer) : State := withCommand .meter .scan i (cleaningStand ⟨.lines, none⟩ (visitAt .metering))
    (s .cutPhase).gate.engine = .resetting ∧ (s .cutPhase).gate.cleanup = some ⟨.lines, none⟩ ∧
    .cutPhase ∈ ((s .cutPhase).slot .meter).issuers ∧ .cutPhase ∉ ((s (.direct none)).slot .meter).issuers ∧
    ((s .cutPhase).slot .meter).outstanding = some ⟨.scan, .cutPhase, 5, 1200⟩ ∧
    (∀ w ∈ ((s .cutPhase).slot .meter).waiting, w.issuer ≠ .cutPhase) ∧ ScanResult.fail.fits = true ∧
    ((withCommand .meter (.spot 9) .cutPhase stand).slot .meter).outstanding = some ⟨.spot 9, .cutPhase, 5, 1200⟩ ∧
    (Reading.density 65533).fits = true := by decide +kernel

/-- Items of the ends of their ranges, the sync exponents of no interval, and an item that is not clamped. -/
theorem witness_SetSettings_ranges :
    let ranges : List (Nat × Int × Int) := [(1, 1000, 20000), (14, 0, 6), (20, 500, 20000)]
    (1, 1000, 20000) ∈ ranges ∧ (20, 500, 20000) ∈ ranges ∧ (settingClamped ⟨1, 999⟩).value = 1000 ∧
    (settingClamped ⟨20, 20001⟩).value = 20000 ∧ (settingClamped ⟨14, 2⟩).value = 3 ∧
    (settingClamped ⟨14, 7⟩).value = 6 ∧ (settingClamped ⟨14, 0⟩).value = 0 ∧
    (∀ lo hi, (15, lo, hi) ∉ ranges) ∧ (∀ i ∈ ([⟨21, 4095⟩] : List SettingItem), i.item ≠ 1) := by
  refine ⟨by decide, by decide, by decide, by decide, by decide, by decide, by decide, ?_, by decide⟩
  intro lo hi; simp

/-- LINK RESET with a firing of A in flight beside a frame record of B that is PENDING, and one charged before. -/
theorem witness_LinkReset_firing :
    let s (f : FrameRec) : State := (withFiring .lit exposingStand).setTimer
      { (withFiring .lit exposingStand).timer with frames := ⟨none, some f⟩ }
    let charged : FrameRec := { frame with lampSpoiled := true }
    (∀ f, taken (.linkReset 7#8 (.given ())) (s f) = some (s f) ∧ (s f).gate.engine ≠ .resetting ∧
      (s f).timer.firing = some (firingIn .lit) ∧ (s f).shot? .a = some shot ∧ (s f).shot? .b = none ∧
      (s f).timer.frames.get .b = some f) ∧ frame.lampSpoiled = false ∧ charged.lampSpoiled = true :=
  ⟨fun _ => ⟨takes _ _ rfl rfl, nofun, rfl, rfl, rfl, rfl⟩, rfl, rfl⟩

/-- An order past the end of its plan, and the step after the last number. -/
theorem witness_OrderNumbersAndWorkItems_end :
    ({ order41 .active with next := none } : Order).next = none ∧ 65534 < 65535 ∧ 0 < [(1, 2)].length :=
  ⟨rfl, by decide, by decide⟩

/-- A printer's PRESENCE answer. -/
theorem witness_Polls_printer :
    let s := stand.setSlot .printer { State.resetSlot with poll := some .presence, exchange := 255 }
    (s.slot .printer).poll = some .presence ∧ (s.slot .printer).exchange = 255 ∧ (Presence.printer true).fits = true ∧
    (Presence.printer false).kind = UnitSlot.printer.expects := by decide +kernel

/-- A TIMING spoil of a cancel-requested order. -/
theorem witness_AdvanceCompletion_cancelled :
    let w : Order := { order41 .active with cancelRequested := true }
    let s := (withFrame exposingStand).setQueue { exposingStand.queue with orders := [w] }
    s.timer.frames.get .a = some frame ∧ frame.lampSpoiled = false ∧
    ¬(frame.expected ≤ 100 + frame.allowed ∧ 100 ≤ frame.expected + frame.allowed) ∧
    s.order? frame.item.order = some w ∧ w.state ≠ .ending ∧ w.cancelRequested = true := by decide +kernel

/-- The leader and the blanking advance of a roll, with the engine RESETTING and not. -/
theorem witness_LeaderAndBlankingCompletions_close :
    let s := withCommand .backA (.advance .frame 2) .blanking
      (withRoll .a { readyRoll 3 37 with state := .closing, closeCause := some .blanked } stand)
    s.gate.engine ≠ .resetting ∧ (s.roll .a).closeCause = some .blanked ∧
    (withEngine .resetting s).gate.engine = .resetting ∧ (∃ film, (readyRoll 3 37).film = some film) ∧
    AdvanceResult.filmEnd = .filmEnd :=
  ⟨nofun, rfl, rfl, ⟨_, rfl⟩, rfl⟩

/-- A meter lost while due, of a phase in progress and of one to come, while not due, and in FAULTED. -/
theorem witness_UnitsLost_meter :
    let due (v : Visit) (e : Engine) : State := withOrder .active (withVisit v (withEngine e stand))
    let loading : Visit := { visitAt .loading with members := [⟨41, .a⟩] }
    let metering : Visit := { visitAt .metering with metering := true }
    (∀ v e, (due v e).gate.visit = some v ∧ (due v e).gate.engine = e ∧ (due v e).events.pendingFault = none) ∧
    metering.state = .metering ∧ loading.state = .loading ∧ (⟨41, .a⟩ : Member) ∈ loading.members ∧
    (due loading .running).order? 41 = some (order41 .active) ∧ (order41 .active).mode ≠ .fixed ∧
    (visitAt .exposing).state ≠ .metering ∧ (visitAt .exposing).state ≠ .loading :=
  ⟨fun _ _ => ⟨rfl, rfl, rfl⟩, rfl, rfl, .head _, rfl, nofun, nofun, nofun⟩

/-- The timeouts of the commands of the 740's own: a frame PENDING and one SPOILED, a leader, a blanking, a READ COUNT. -/
theorem witness_UnitsLost_timeouts :
    let timing (lamp : Bool) : State := (withFrame exposingStand).setTimer
      { (withFrame exposingStand).timer with frames := ⟨some { frame with lampSpoiled := lamp }, none⟩ }
    let leading := withCommand .backA (.advance .leader 3) .leader
      (withRoll .a { readyRoll 3 1 with state := .leader, leaderRemaining := 3 } stand)
    let blanking := withCommand .backA (.advance .frame 2) .blanking
      (withRoll .a { readyRoll 3 37 with state := .closing, closeCause := some .blanked } stand)
    let asking := withCommand .backA .readCount (.resync (some 9#8)) suspectStand
    (∀ s ∈ [timing true, timing false, leading, blanking, asking],
      (s.slot .backA).outstanding.isSome = true ∧ (s.slot .backA).waiting = [] ∧ s.shot? .a = none) ∧
    (∀ b, (timing b).timer.frames.get .a = some { frame with lampSpoiled := b }) ∧
    (leading.roll .a).state = .leader ∧ (blanking.roll .a).state = .closing ∧ blanking.gate.engine ≠ .resetting ∧
    (asking.roll .a).state = .suspect := by decide +kernel

/-- A paired firing to be armed. -/
theorem witness_StartOfAFiring_pair :
    let s := withVisit { visitAt .exposing with lists := ⟨[firstItem], [{ firstItem with order := 42 }]⟩ } stand
    ∃ v, s.gate.visit = some v ∧ v.lists.a.head?.isSome = true ∧ v.lists.b.head?.isSome = true := ⟨_, rfl, rfl, rfl⟩

/-- A frame judged below and at its bound, with the back's list in force, and spans that it joins, opens and finds full. -/
theorem witness_AdvanceCompletion_outcomes :
    let s := withFrame exposingStand
    let at_ (last : Nat) : Span := { back := .a, rollId := frame.rollId, first := 7, last := last }
    s.gate.visit.any (fun v => !v.dropped.a) = true ∧ (s.roll .a).state = .ready ∧
    (s.order? frame.item.order) = some (order41 .active) ∧ (order41 .active).redo = [] ∧
    10 = (s.roll .a).counter + 1 ∧ (at_ 8).last + 1 = frame.position ∧ (at_ 7).last + 1 ≠ frame.position ∧
    ({ order41 .active with spans := [at_ 7, at_ 8] } : Order).spans = [at_ 7] ++ at_ 8 :: [] ∧
    (∀ x ∈ (order41 .active).spans, ¬(x.back = .a ∧ x.rollId = frame.rollId ∧ x.last + 1 = frame.position)) ∧
    (∀ x ∈ List.replicate 8 (at_ 7), ¬(x.back = .a ∧ x.rollId = frame.rollId ∧ x.last + 1 = frame.position)) ∧
    (List.replicate 8 (at_ 7)).length = 8 ∧ s.gate.engine ≠ .resetting := by decide +kernel

/-- An abort of a firing of the open visit: of an order that is owed the item, and of one cancel-requested. -/
theorem witness_FiringsAndTheirLines_abort :
    let s := withFiring .lit exposingStand
    let cancelled : Order := { order41 .active with cancelRequested := true }
    s.timer.firing = some (firingIn .lit) ∧ s.shot? .a = some shot ∧ s.order? shot.item.order = some (order41 .active) ∧
    (order41 .active).state ≠ .ending ∧ (order41 .active).cancelRequested = false ∧
    s.gate.visit.any (fun v => v.state == .exposing && !v.dropped.a) = true ∧
    ((s.setQueue { s.queue with orders := [cancelled] }).order? 41).all
      (fun o => o.state == .ending || o.cancelRequested) = true := by decide +kernel

/-- A HEADER and a SYNC before a frame label, numbers at the bounds of their digits, the cases of CONTINUE AT, and a line. -/
theorem witness_LabelQueue_steps :
    let synced := (withRoll .a { readyRoll 3 5 with headerDone := true } stand).setLabels { stand.labels with syncCounter := 16 }
    let x : RunEnv := { entry := MapEntry.fresh, back := .a, rollId := [], position := 1, order := order41 .active,
                        jobDate := some ⟨2031, 5, 9⟩, templates := stand.labels.templates }
    (preceding stand .a 5).map (fun h => h.kind) = some .header ∧ (preceding synced .a 5).map (fun h => h.kind) = some .sync ∧
    0 < 10 ∧ 9 < 10 ∧ 10 ≤ 10 ∧ 99999999 < 100000000 ∧ x.jobDate = some ⟨2031, 5, 9⟩ ∧
    x.templates[1]? = some (some catalogTemplate) ∧ (x.templates[2]?).getD none = none ∧
    Run.start.continued = false ∧ ({ Run.start with continued := true } : Run).continued = true ∧
    x.text [] .putCatalog = some [] ∧ Run.start.lines = [] ++ [[]] ∧ Run.start.beyond = false ∧ Run.start.lines.length < 3 ∧
    ({ Run.start with lines := [[], [], []] } : Run).lines.length = 3 ∧
    ({ Run.start with beyond := true } : Run).beyond = true := by decide +kernel

end Sys2Proof.Tests
end

section
/-!
SUPPORT. OPEN ACCOUNT and READ ACCOUNT (R140, R141): the place of a new account in the table, the meaning of each command
check by check, and the statement O40 put together from them.
-/

namespace Sys2Proof.Machine

/-! ## The account table after an insertion -/

/-- A search that does not accept the inserted account passes over it. -/
theorem find?_insertAccount_of_neg {p : Account → Bool} {a : Account} (h : ¬p a = true) (l : List Account) :
    (insertAccount a l).find? p = l.find? p := by
  induction l with
  | nil => exact List.find?_cons_of_neg h
  | cons b rest ih =>
    unfold insertAccount
    split
    · exact List.find?_cons_of_neg h
    · rw [List.find?_cons, List.find?_cons, ih]

/-- A search that accepts the inserted account, and none before, finds it. -/
theorem find?_insertAccount_of_pos {p : Account → Bool} {a : Account} {l : List Account} (h : p a = true)
    (hl : l.find? p = none) : (insertAccount a l).find? p = some a := by
  induction l with
  | nil => exact List.find?_cons_of_pos h
  | cons b rest ih =>
    have hb : ¬p b = true := List.find?_eq_none.mp hl b (.head _)
    unfold insertAccount
    split
    · exact List.find?_cons_of_pos h
    · rw [List.find?_cons_of_neg hb] at hl ⊢
      exact ih hl

/-! ## OPEN ACCOUNT (R140) -/

variable {tag : Byte} {s t u : State}

/-- The record that OPEN ACCOUNT adds: OPEN, with every sum 0. -/
def opened (f : AccountSum) : Account :=
  { number := f.number, isOpen := true, ceiling := f.amount, committed := 0, charged := 0, goodFrames := 0,
    settledOrders := 0 }

/-- The state with the record added. -/
def withOpened (f : AccountSum) (t : State) : State :=
  t.setCharge { t.charge with accounts := insertAccount (opened f) t.charge.accounts }

section
variable {f : AccountSum}

theorem withOpened_account?_self (h : t.charge.account? f.number = none) :
    (withOpened f t).charge.account? f.number = some (opened f) :=
  find?_insertAccount_of_pos (by simp [opened]) h

theorem withOpened_account?_of_ne {n : Nat} (h : n ≠ f.number) :
    (withOpened f t).charge.account? n = t.charge.account? n :=
  find?_insertAccount_of_neg (by simpa [opened] using h.symm) _

theorem openAccount_house (h : f.number = 0) :
    openAccount tag f t = answer tag 24 (.refused .houseRefused) (.accountNumber 0) t := by
  simp [openAccount, refuseAccount, h]

theorem openAccount_exists (h0 : f.number ≠ 0) (h : (t.charge.account? f.number).isSome = true) :
    openAccount tag f t = answer tag 24 (.refused .exists_) (.accountNumber f.number) t := by
  rw [openAccount, if_neg h0, if_pos h, refuseAccount]

theorem openAccount_tableFull (h0 : f.number ≠ 0) (h : t.charge.account? f.number = none)
    (hl : Config.accountCapacity ≤ t.charge.accounts.length) :
    openAccount tag f t = answer tag 24 (.refused .tableFull) (.accountNumber f.number) t := by
  rw [openAccount, if_neg h0, if_neg (by simp [h]), if_pos hl, refuseAccount]

theorem openAccount_adds (h0 : f.number ≠ 0) (h : t.charge.account? f.number = none)
    (hl : t.charge.accounts.length < Config.accountCapacity) :
    openAccount tag f t = answer tag 24 .ok (.accountCeiling f.number f.amount) (withOpened f t) := by
  rw [openAccount, if_neg h0, if_neg (by simp [h]), if_neg (Nat.not_le.mpr hl)]
  rfl

/-- OPEN ACCOUNT is BUSY while RESETTING, with the number it names (R167). -/
theorem openAccount_answers_busy (ht : taken (.openAccount tag (.given f)) s = some t)
    (hr : t.gate.engine = .resetting) :
    Answers (.openAccount tag (.given f)) tag 24 (.refused .busy) (.accountNumber f.number) s t :=
  .of_action rfl ht (checkedNaming_busy hr)

/-- Past BUSY, OPEN ACCOUNT answers what `openAccount` does. -/
theorem openAccount_answers {r : Result} {d : ReplyData} (ht : taken (.openAccount tag (.given f)) s = some t)
    (hr : t.gate.engine ≠ .resetting) (h : openAccount tag f t = answer tag 24 r d u) :
    Answers (.openAccount tag (.given f)) tag 24 r d s u :=
  .of_action rfl ht ((checkedNaming_given hr).trans h)

end

/-! ## READ ACCOUNT (R141) -/

section
variable {key : Option Nat}

theorem readAccount_house :
    readAccount tag (some 0) t = answer tag 25 .ok (.house t.charge.house (t.ordersOf 0)) t := rfl

theorem readAccount_noAccount {n : Nat} (h0 : n ≠ 0) (h : t.charge.account? n = none) :
    readAccount tag (some n) t = answer tag 25 (.refused .noAccount) (.accountNumber n) t := by
  simp [readAccount, refuseAccount, h0, h]

theorem readAccount_found {n : Nat} {a : Account} (h0 : n ≠ 0) (h : t.charge.account? n = some a) :
    readAccount tag (some n) t = answer tag 25 .ok (.account a a.headroom (t.ordersOf n)) t := by
  simp [readAccount, h0, h]

/-- READ ACCOUNT is BUSY while RESETTING, with the number it names, if any (R167). -/
theorem readAccount_answers_busy (ht : taken (.readAccount tag (.given key)) s = some t)
    (hr : t.gate.engine = .resetting) :
    Answers (.readAccount tag (.given key)) tag 25 (.refused .busy) (key.elim .none .accountNumber) s t :=
  .of_action rfl ht (checkedNaming_busy hr)

/-- Past BUSY, READ ACCOUNT answers what `readAccount` does. -/
theorem readAccount_answers {r : Result} {d : ReplyData} (ht : taken (.readAccount tag (.given key)) s = some t)
    (hr : t.gate.engine ≠ .resetting) (h : readAccount tag key t = answer tag 25 r d t) :
    Answers (.readAccount tag (.given key)) tag 25 r d s t :=
  .of_action rfl ht ((checkedNaming_given hr).trans h)

end

/-- Settles O40: each check of the two commands is one equation of its action, past the check for BUSY. -/
theorem openAndReadAccounts : Obligations.OpenAndReadAccounts := by
  refine ⟨fun tag f s t ht => ⟨openAccount_answers_busy ht, fun hr => ⟨?house, ?exists_, ?full, ?adds⟩⟩,
    fun tag key s t ht => ⟨readAccount_answers_busy ht, fun hr => ⟨?keys, ?readHouse, fun n hk h0 => ⟨?none_, ?found⟩⟩⟩⟩
  case house => exact fun h0 => openAccount_answers ht hr (openAccount_house h0)
  case exists_ => exact fun h0 h => openAccount_answers ht hr (openAccount_exists h0 h)
  case full => exact fun h0 h hl => openAccount_answers ht hr (openAccount_tableFull h0 h hl)
  case adds =>
    exact fun h0 h hl => ⟨withOpened f t, openAccount_answers ht hr (openAccount_adds h0 h hl), rfl,
      withOpened_account?_self h, fun n hn => withOpened_account?_of_ne hn⟩
  case keys => rintro rfl; exact readAccount_answers ht hr rfl
  case readHouse => rintro rfl; exact readAccount_answers ht hr readAccount_house
  case none_ => subst hk; exact fun h => readAccount_answers ht hr (readAccount_noAccount h0 h)
  case found => subst hk; exact fun a h => readAccount_answers ht hr (readAccount_found h0 h)

end Sys2Proof.Machine
end

section
/-!
SUPPORT. SET NOTICE MASK and CLEAR TRAPS (R191, R181): what each command's action is on the state its frame is taken in, the
answer it gives past the check for BUSY, and the statement O18 put together from them.
-/

namespace Sys2Proof.Machine

variable {tag : Byte} {s t : State}

/-- The state with its notice mask replaced whole. -/
def withNoticeMask (mask : EventSet) (t : State) : State := t.setSettings { t.settings with noticeMask := mask }

/-- The state with its three trap flags down and no last trap on record. -/
def withoutTraps (t : State) : State :=
  t.setEvents { t.events with traps := { film := false, shutter := false, busy := false }, lastTrap := none }

/-! ## SET NOTICE MASK (R191) -/

section
variable {mask : EventSet}

/-- The reply carries the mask that stood and the mask given. -/
theorem setNoticeMask_eq_answer :
    setNoticeMask tag mask t = answer tag 11 .ok (.sets t.settings.noticeMask mask) (withNoticeMask mask t) := rfl

theorem setNoticeMask_answers_ok (ht : taken (.setNoticeMask tag (.given mask)) s = some t)
    (hr : t.gate.engine ≠ .resetting) :
    Answers (.setNoticeMask tag (.given mask)) tag 11 .ok (.sets t.settings.noticeMask mask) s (withNoticeMask mask t) :=
  .of_action rfl ht ((checked_given hr).trans setNoticeMask_eq_answer)

end

/-! ## CLEAR TRAPS (R181) -/

/-- The reply carries the trap flags and the last-trap record as they stood before they are cleared. -/
theorem clearTraps_eq_answer :
    clearTraps tag () t = answer tag 12 .ok (.traps t.events.traps t.events.lastTrap) (withoutTraps t) := rfl

theorem clearTraps_answers_busy (ht : taken (.clearTraps tag (.given ())) s = some t) (hr : t.gate.engine = .resetting) :
    Answers (.clearTraps tag (.given ())) tag 12 (.refused .busy) .none s t :=
  .of_action rfl ht (checked_busy hr)

theorem clearTraps_answers_ok (ht : taken (.clearTraps tag (.given ())) s = some t) (hr : t.gate.engine ≠ .resetting) :
    Answers (.clearTraps tag (.given ())) tag 12 .ok (.traps t.events.traps t.events.lastTrap) s (withoutTraps t) :=
  .of_action rfl ht ((checked_given hr).trans clearTraps_eq_answer)

/-- Settles O18: SET NOTICE MASK and CLEAR TRAPS past the check for BUSY, and CLEAR TRAPS while RESETTING. -/
theorem maskAndTraps : Obligations.MaskAndTraps :=
  ⟨fun _ _ _ _ ht hr => setNoticeMask_answers_ok ht hr,
    fun _ _ _ ht => ⟨clearTraps_answers_busy ht, clearTraps_answers_ok ht⟩⟩

end Sys2Proof.Machine
end

section
/-!
SUPPORT. Raising a flag and ACK EVENTS (R188 to R190): membership in event sets, what a raising makes of the state in each
of its three cases, what ACK EVENTS makes of the flags and of the slots' change flags, and the statement O17 put together
from them.
-/

namespace Sys2Proof.Machine

/-! ## Event sets (R201) -/

section
variable {f g : EventFlag} {set named : EventSet}

theorem EventFlag.index_lt (f : EventFlag) : f.index < 12 := by cases f <;> decide

/-- No two flags share a bit. -/
theorem EventFlag.index_injective : Function.Injective EventFlag.index := by
  intro f g
  cases f <;> cases g <;> decide

@[simp] theorem hasFlag_or_bit_self : hasFlag (set ||| f.bit) f = true := by
  simp [hasFlag, EventFlag.bit, f.index_lt]

theorem hasFlag_or_bit_of_ne (h : g ≠ f) : hasFlag (set ||| f.bit) g = hasFlag set g := by
  simp [hasFlag, EventFlag.bit, EventFlag.index_injective.ne h.symm]

theorem hasFlag_and_not : hasFlag (set &&& ~~~named) f = (hasFlag set f && !hasFlag named f) := by
  simp [hasFlag, f.index_lt]

end

/-! ## The arbiter's first two choices (R193) -/

section
variable {s : State}

theorem Link.mayBegin_iff {l : Link} : l.mayBegin = true ↔ l.sending = none ∧ l.deskReady = true := by
  simp [Link.mayBegin]

theorem arbiter_of_reply {r : Reply} {rest : List Reply} (hb : s.link.mayBegin = true) (hq : s.link.replies = r :: rest) :
    arbiter s = s.setLink { s.link with replies := rest, sending := some (.reply r) } := by
  simp [arbiter, hb, hq]

theorem arbiter_of_notice (hb : s.link.mayBegin = true) (hq : s.link.replies = []) (hn : s.link.notice = true) :
    arbiter s = sendNotice s := by
  simp [arbiter, hb, hq, hn]

end

/-! ## A raising (R188, R189) -/

section
variable {f : EventFlag} {s : State}

/-- A raising of the flag places a NOTICE in the empty slot, and the transmitter may begin. -/
def NoticeMayBegin (f : EventFlag) (s : State) : Prop :=
  hasFlag s.settings.noticeMask f = true ∧ s.link.notice = false ∧ s.link.sending = none ∧ s.link.deskReady = true

/-- The state with the flag raised and a NOTICE in the slot, before the arbiter chooses. -/
def noticePlaced (f : EventFlag) (s : State) : State :=
  (s.setEvents (s.events.raise f)).setLink { s.link with notice := true }

/-- A raising after which no frame begins: the flag joins both sets, and the slot is filled by the mask. -/
theorem raise_of_not_mayBegin (h : ¬NoticeMayBegin f s) :
    raise f s = (s.setEvents (s.events.raise f)).setLink
      { s.link with notice := s.link.notice || hasFlag s.settings.noticeMask f } := by
  obtain ⟨hmask, hslot, hraise⟩ | ⟨hfill, hraise⟩ := raise_cases s f
  · have hwait : ¬(noticePlaced f s).link.mayBegin = true := fun hb => h ⟨hmask, hslot, Link.mayBegin_iff.mp hb⟩
    rw [hmask, Bool.or_true]
    exact hraise.trans (arbiter_waits _ (Bool.eq_false_iff.mpr hwait))
  · have hkept : (s.link.notice || hasFlag s.settings.noticeMask f) = s.link.notice := by
      obtain hmask | hslot := hfill
      · rw [hmask, Bool.or_false]
      · rw [hslot, Bool.true_or]
    rw [hkept]
    exact hraise

theorem raise_of_mayBegin (h : NoticeMayBegin f s) : raise f s = arbiter (noticePlaced f s) := by
  obtain ⟨hmask, hslot, -⟩ := h
  simp [raise, fillNotice, noticePlaced, hmask, hslot]

theorem noticePlaced_mayBegin (h : NoticeMayBegin f s) : (noticePlaced f s).link.mayBegin = true := by
  obtain ⟨-, -, hready⟩ := h
  exact Link.mayBegin_iff.mpr hready

/-- With no reply held the NOTICE begins to be sent with the risen set, which is emptied; the slot is empty again. -/
theorem raise_sends_notice (h : NoticeMayBegin f s) (hq : s.link.replies = []) :
    raise f s = (s.setLink { s.link with
        notice := false, sending := some (.notice (s.events.risen ||| f.bit) (s.events.flags ||| f.bit)) }).setEvents
      { s.events.raise f with risen := 0#12 } :=
  (raise_of_mayBegin h).trans (arbiter_of_notice (noticePlaced_mayBegin h) hq rfl)

/-- With a reply held the head reply begins to be sent, and the NOTICE waits in the slot. -/
theorem raise_sends_reply {r : Reply} {rest : List Reply} (h : NoticeMayBegin f s) (hq : s.link.replies = r :: rest) :
    raise f s = (s.setEvents (s.events.raise f)).setLink
      { s.link with notice := true, replies := rest, sending := some (.reply r) } :=
  (raise_of_mayBegin h).trans (arbiter_of_reply (noticePlaced_mayBegin h) hq)

/-- A raising changes the link, the flags and the risen set alone. -/
theorem raise_eq_setLink_setEvents :
    raise f s = (s.setLink (raise f s).link).setEvents
      { s.events with flags := (raise f s).events.flags, risen := (raise f s).events.risen } := by
  by_cases h : NoticeMayBegin f s
  · cases hq : s.link.replies with
    | nil => rw [raise_sends_notice h hq]; rfl
    | cons r rest => rw [raise_sends_reply h hq]; rfl
  · rw [raise_of_not_mayBegin h]; rfl

theorem hasFlag_raise_self : hasFlag (raise f s).events.flags f = true := by simp

theorem hasFlag_raise_of_ne {g : EventFlag} (h : g ≠ f) :
    hasFlag (raise f s).events.flags g = hasFlag s.events.flags g := by
  simp [hasFlag_or_bit_of_ne h]

end

/-! ## ACK EVENTS (R190) -/

section
variable {tag : Byte} {named : EventSet} {s t : State}

theorem get_clearChanges (b : Bus) (x : UnitSlot) : (clearChanges b).get x = { b.get x with changed := false } := by
  cases x <;> rfl

/-- The stand bus after ACK EVENTS: every change flag clear when UNIT-CHANGE is named. -/
def acknowledgedBus (named : EventSet) (b : Bus) : Bus :=
  if hasFlag named .unitChange then clearChanges b else b

theorem get_acknowledgedBus (b : Bus) (x : UnitSlot) :
    (acknowledgedBus named b).get x = { b.get x with changed := (b.get x).changed && !hasFlag named .unitChange } := by
  cases h : hasFlag named .unitChange <;> simp [acknowledgedBus, h, get_clearChanges]

theorem acknowledgedBus_period (b : Bus) : (acknowledgedBus named b).period = b.period := by
  unfold acknowledgedBus
  split <;> rfl

/-- The state with the named flags clear. -/
def acknowledged (named : EventSet) (t : State) : State :=
  (t.setEvents { t.events with flags := t.events.flags &&& ~~~named }).setBus (acknowledgedBus named t.bus)

/-- The reply carries the flags before and after. -/
theorem ackEvents_eq_answer :
    ackEvents tag named t =
      answer tag 10 .ok (.sets t.events.flags (t.events.flags &&& ~~~named)) (acknowledged named t) := by
  unfold ackEvents acknowledged acknowledgedBus
  split <;> rfl

theorem ackEvents_answers_busy (ht : taken (.ackEvents tag (.given named)) s = some t) (hr : t.gate.engine = .resetting) :
    Answers (.ackEvents tag (.given named)) tag 10 (.refused .busy) .none s t :=
  .of_action rfl ht (checked_busy hr)

theorem ackEvents_answers_ok (ht : taken (.ackEvents tag (.given named)) s = some t) (hr : t.gate.engine ≠ .resetting) :
    Answers (.ackEvents tag (.given named)) tag 10 .ok (.sets t.events.flags (t.events.flags &&& ~~~named)) s
      (acknowledged named t) :=
  .of_action rfl ht ((checked_given hr).trans ackEvents_eq_answer)

end

/-- Settles O17: a raising by its three cases, and ACK EVENTS past the check for BUSY. -/
theorem flagsRaisedAndAcknowledged : Obligations.FlagsRaisedAndAcknowledged := by
  refine ⟨fun f s => ⟨hasFlag_raise_self, hasFlag_or_bit_self,
      fun g hg => ⟨hasFlag_raise_of_ne hg, hasFlag_or_bit_of_ne hg⟩, ?waits, ?notice, ?reply, raise_eq_setLink_setEvents⟩,
    fun tag named s t ht => ⟨ackEvents_answers_busy ht, ?acknowledges, fun _ _ => hasFlag_raise_self⟩⟩
  case waits =>
    intro h
    rw [raise_of_not_mayBegin h]
    exact ⟨rfl, rfl⟩
  case notice =>
    intro h hq
    have ⟨_, hslot, _⟩ := h
    rw [raise_sends_notice h hq, ← hslot]
    exact ⟨rfl, rfl⟩
  case reply =>
    intro r rest h hq
    rw [raise_sends_reply h hq]
    exact ⟨rfl, rfl⟩
  case acknowledges =>
    exact fun hr => ⟨acknowledged named t, _, ackEvents_answers_ok ht hr, fun _ => hasFlag_and_not, rfl,
      acknowledgedBus_period t.bus, get_acknowledgedBus t.bus⟩

end Sys2Proof.Machine
end

section
/-!
SUPPORT. What every shared operation of the machine keeps: the capacities, the agreement of the order and account records
within them, and the balance of reply entries (R4, R9, R13, R121, R129, R185, R187, R192). `Keeps a r s u` says it of a
state `u` come from `s`, with `a` deferred commands answered on the way and at most `r` entries taken for new replies; each
operation has one lemma that carries it on, so that a composed operation is followed by a chain of their names.
-/

namespace Sys2Proof.Machine

/-! ## The balance of reply entries (R187) -/

/-- The reservations exceed the deferred commands on the bus by `d`, and no more than `e` entries are in use. -/
def Balanced (d e : Nat) (s : State) : Prop :=
  s.link.reserved = s.bus.deferred + d ∧ s.link.replies.length + s.link.reserved ≤ e

theorem replyEntries_iff_balanced {s : State} : ReplyEntries s ↔ Balanced 0 8 s := Iff.rfl

/-- What an operation keeps of the state `s` it starts from. -/
structure Keeps (a r : Nat) (s u : State) : Prop where
  capacities : Capacities s → Capacities u
  records : Capacities s → RecordsAgree s → RecordsAgree u
  balance : ∀ d e, Balanced (d + a) e s → Balanced d (e + r) u

theorem Keeps.refl (s : State) : Keeps 0 0 s s := ⟨id, fun _ => id, fun _ _ => id⟩

/-! ## Commands on the bus that a reply waits for -/

section
variable {s : State} {k : UnitSlot}

theorem Slot.deferred_eq (x : Slot) : x.deferred =
    (x.outstanding.toList.filter (fun o => o.issuer.deferred)).length +
      (x.waiting.filter (fun c => c.issuer.deferred)).length := by
  simp [Slot.deferred, Slot.issuers, List.filter_map, Function.comp_def]

/-- Replacing a slot replaces its share of the deferred commands. -/
theorem deferred_setSlot (x : Slot) :
    (s.setSlot k x).bus.deferred + (s.slot k).deferred = s.bus.deferred + x.deferred := by
  cases k <;> simp [State.setSlot, State.slot, Bus.set, Bus.get, Bus.deferred] <;> omega

theorem deferred_setSlot_same {x : Slot} (h : x.deferred = (s.slot k).deferred) :
    (s.setSlot k x).bus.deferred = s.bus.deferred := by
  have := deferred_setSlot (s := s) (k := k) x
  omega

theorem deferred_updSlot {f : Slot → Slot} (h : ∀ x, (f x).deferred = x.deferred) :
    (updSlot k f s).bus.deferred = s.bus.deferred := deferred_setSlot_same (h _)

theorem deferred_updSlot_add {f : Slot → Slot} :
    (updSlot k f s).bus.deferred + (s.slot k).deferred = s.bus.deferred + (f (s.slot k)).deferred := deferred_setSlot _

theorem slot_deferred_le : (s.slot k).deferred ≤ s.bus.deferred := by
  cases k <;> simp [State.slot, Bus.get, Bus.deferred] <;> omega

/-- Sending or queueing a command adds its reply, if it has one, to those waited for. -/
theorem deferred_issue (c : UnitCmd) (i : Issuer) :
    (issue k c i s).bus.deferred = s.bus.deferred + if i.deferred then 1 else 0 := by
  have hset (x : Slot) (hx : x.deferred = (s.slot k).deferred + if i.deferred then 1 else 0) :
      (s.setSlot k x).bus.deferred = s.bus.deferred + if i.deferred then 1 else 0 := by
    have := deferred_setSlot (s := s) (k := k) x
    omega
  unfold issue
  dsimp only
  split
  · next h =>
    obtain ⟨ho, hw⟩ : (s.slot k).outstanding = none ∧ (s.slot k).waiting = [] := by simpa using h
    refine hset _ ?_
    cases hi : i.deferred <;> simp [Slot.deferred_eq, ho, hw, hi]
  · refine hset _ ?_
    cases hi : i.deferred <;> simp [Slot.deferred_eq, hi, Nat.add_assoc]

theorem deferred_issue_of_not {c : UnitCmd} {i : Issuer} (h : i.deferred = false) :
    (issue k c i s).bus.deferred = s.bus.deferred := by simp [deferred_issue, h]

theorem setSlot_twice (x y : Slot) : (s.setSlot k x).setSlot k y = s.setSlot k y := by cases k <;> rfl

theorem deferred_sendNext : (sendNext k s).bus.deferred = s.bus.deferred := by
  unfold sendNext sendCommand
  dsimp only
  split
  · next c rest ho hw =>
    rw [setSlot_twice]
    refine deferred_setSlot_same ?_
    cases hi : c.issuer.deferred <;> simp [Slot.deferred_eq, ho, hw, hi, Nat.add_comm]
  · rfl

end

end Sys2Proof.Machine
end

section
/-!
SUPPORT. What the operations of one block each keep: the link, the event flags, the order and account records, the label
queue and the stand bus.
-/

namespace Sys2Proof.Machine

variable {a r : Nat} {s u v : State}

/-! ## Parts that the invariants do not read -/

/-- An operation that leaves the link, the records and the lists of every block, and the deferred commands, keeps all. -/
theorem Keeps.same (h : Keeps a r s u) (hv : v.link = u.link ∧ v.queue = u.queue ∧ v.labels.queue = u.labels.queue ∧
    v.labels.templates = u.labels.templates ∧ v.charge.accounts = u.charge.accounts ∧ v.tables = u.tables)
    (hd : v.bus.deferred = u.bus.deferred) : Keeps a r s v := by
  obtain ⟨hl, hq, hb, hp, hc, ht⟩ := hv
  exact ⟨fun hs => by simpa [Capacities, hl, hq, hb, hp, hc, ht] using h.capacities hs,
    fun hs hr => by simpa [RecordsAgree, hq, hc] using h.records hs hr,
    fun d e hs => by simpa [Balanced, hl, hd] using h.balance d e hs⟩

/-- A change of the link alone that grows neither the buffer, the reports nor the replies, and keeps the reservations. -/
theorem Keeps.setLink (h : Keeps a r s u) {l : Link} (hl : l.buffer.length ≤ u.link.buffer.length ∧
    (u.link.reports.length ≤ 24 → l.reports.length ≤ 24) ∧ l.replies.length ≤ u.link.replies.length ∧
    l.reserved = u.link.reserved) : Keeps a r s (u.setLink l) := by
  obtain ⟨hb, hp, hr, hv⟩ := hl
  refine ⟨fun hs => ?_, h.records, fun d e hs => ?_⟩
  · obtain ⟨hbuf, hrep, rest⟩ := h.capacities hs
    exact ⟨hb.trans hbuf, hp hrep, rest⟩
  · obtain ⟨h1, h2⟩ := h.balance d e hs
    exact ⟨hv.trans h1, by simp [hv]; omega⟩

theorem Keeps.setEvents (h : Keeps a r s u) (x : Events) : Keeps a r s (u.setEvents x) := h.same (by simp) (by simp)
theorem Keeps.setGate (h : Keeps a r s u) (x : Gate) : Keeps a r s (u.setGate x) := h.same (by simp) (by simp)
theorem Keeps.setTimer (h : Keeps a r s u) (x : Timer) : Keeps a r s (u.setTimer x) := h.same (by simp) (by simp)
theorem Keeps.setRolls (h : Keeps a r s u) (x : PerBack Roll) : Keeps a r s (u.setRolls x) := h.same (by simp) (by simp)
theorem Keeps.updVisit (h : Keeps a r s u) (f : Visit → Visit) : Keeps a r s (updVisit f u) := h.same (by simp) (by simp)
theorem Keeps.updRoll (h : Keeps a r s u) (k : Back) (f : Roll → Roll) : Keeps a r s (updRoll k f u) := h.same (by simp) (by simp)

/-- A change of the label block that keeps the templates' number and the queue within its capacity. -/
theorem Keeps.setLabels (h : Keeps a r s u) {l : Labels} (hq : u.labels.queue.length ≤ 64 → l.queue.length ≤ 64)
    (ht : l.templates.length = u.labels.templates.length) : Keeps a r s (u.setLabels l) where
  capacities hs := by
    obtain ⟨c1, c2, c3, c4, c5, c6, c7, c8, c9⟩ := h.capacities hs
    exact ⟨c1, c2, c3, hq c4, c5, c6, c7, ht.trans c8, c9⟩
  records := h.records
  balance := h.balance

theorem Keeps.setLabelWait (h : Keeps a r s u) (w : Bool) : Keeps a r s (setLabelWait w u) := h.setLabels id (by rfl)

/-- A change of the bus that leaves the deferred commands. -/
theorem Keeps.setBus (h : Keeps a r s u) {b : Bus} (hd : b.deferred = u.bus.deferred) : Keeps a r s (u.setBus b) :=
  h.same (by simp) hd

theorem Keeps.updSlot (h : Keeps a r s u) (k : UnitSlot) {f : Slot → Slot}
    (hf : ∀ x, (f x).deferred = x.deferred) : Keeps a r s (updSlot k f u) :=
  h.same (by simp) (deferred_updSlot hf)

/-! ## The transmitter, the flags and the report queue (R188 to R193) -/

theorem Keeps.arbiter (h : Keeps a r s u) : Keeps a r s (arbiter u) := by
  obtain ⟨he, -⟩ | ⟨-, ⟨x, rest, hr, he⟩ | ⟨-, -, he⟩ | ⟨x, rest, -, -, hr, he⟩⟩ := arbiter_cases u <;> rw [he]
  · exact h
  · exact h.setLink (by simp [hr])
  · exact (h.setLink (l := { u.link with notice := false, sending := _ }) (by simp)).setEvents _
  · exact h.setLink (by simp [hr]; omega)

theorem Keeps.raise (h : Keeps a r s u) (f : EventFlag) : Keeps a r s (raise f u) := by
  obtain ⟨-, -, he⟩ | ⟨-, he⟩ := raise_cases u f <;> rw [he]
  · exact Keeps.arbiter (Keeps.setLink (h.setEvents _) (by simp))
  · exact h.setEvents _

theorem Keeps.raiseTimes (h : Keeps a r s u) (f : EventFlag) (n : Nat) : Keeps a r s (raiseTimes f n u) := by
  induction n generalizing u with
  | zero => exact h
  | succ n ih => exact ih (h.raise f)

theorem Keeps.tick (h : Keeps a r s u) : Keeps a r s (tick u) := h.setLink (by simp)

theorem Keeps.enterReport (h : Keeps a r s u) (x : Report) (hx : u.link.reports.length < 24) :
    Keeps a r s (enterReport x u) :=
  Keeps.arbiter (h.setLink (by simp; omega))

/-- A reply takes an entry. -/
theorem Keeps.addReply (h : Keeps a r s u) (x : Reply) : Keeps a (r + 1) s (addReply x u) := by
  refine Keeps.arbiter ⟨h.capacities, h.records, fun d e hs => ?_⟩
  obtain ⟨h1, h2⟩ := h.balance d e hs
  exact ⟨h1, by simp; omega⟩

theorem Keeps.answer (h : Keeps a r s u) (tag : Byte) (c : Nat) (x : Result) (d : ReplyData) :
    Keeps a (r + 1) s (answer tag c x d u) := h.addReply _

/-- A deferred reply takes the entry reserved for it. -/
theorem Keeps.answerDeferred (h : Keeps a r s u) (cls : Byte) (tag : Option Byte) (c : Nat) (x : Result) (d : ReplyData) :
    Keeps (a + if tag.isSome then 1 else 0) r s (answerDeferred cls tag c x d u) := by
  cases tag with
  | none => exact h
  | some t =>
    refine Keeps.arbiter ⟨h.capacities, h.records, fun d e hs => ?_⟩
    obtain ⟨h1, h2⟩ := h.balance (d + 1) e (by rwa [Nat.add_right_comm, Nat.add_assoc])
    exact ⟨by simp; omega, by simp; omega⟩

/-! ## The order records (R8, R9, R13) -/

/-- An order record becomes one with the same number, ENDING as before, and no more than 8 spans when it had none more. -/
structure OrderKept (o p : Order) : Prop where
  number : p.number = o.number
  ending : p.state = .ending ↔ o.state = .ending
  spans : o.spans.length ≤ 8 → p.spans.length ≤ 8

theorem OrderKept.refl (o : Order) : OrderKept o o := ⟨rfl, Iff.rfl, id⟩

theorem OrderKept.of_eq {o p : Order} (hn : p.number = o.number) (hs : p.state = o.state) (hp : p.spans = o.spans) :
    OrderKept o p := ⟨hn, by rw [hs], by rw [hp]; exact id⟩

theorem OrderKept.trans {o p q : Order} (h : OrderKept o p) (g : OrderKept p q) : OrderKept o q :=
  ⟨g.number.trans h.number, g.ending.trans h.ending, g.spans ∘ h.spans⟩

/-- A change of the order records, one by one, each into one it may become. -/
theorem Keeps.mapOrders (h : Keeps a r s u) {f : Order → Order} (hf : ∀ o, OrderKept o (f o)) :
    Keeps a r s (u.setQueue { u.queue with orders := u.queue.orders.map f }) where
  capacities hs := by simpa [Capacities] using h.capacities hs
  records hs hr := by
    have hn : (u.queue.orders.map f).map (fun o => o.number) = u.queue.orders.map (fun o => o.number) := by
      simp [(hf _).number]
    obtain ⟨h1, h2, h3, h4, h5, rest⟩ := h.records hs hr
    refine ⟨hn.symm ▸ h1, h2, hn.symm ▸ h3, ?_, ?_, rest⟩
    · simpa [(hf _).number, (hf _).ending] using h4
    · simpa using fun o ho => (hf o).spans (h5 o ho)
  balance := h.balance

theorem Keeps.updOrder (h : Keeps a r s u) (n : Nat) {f : Order → Order}
    (hf : ∀ o, OrderKept o (f o)) : Keeps a r s (updOrder n f u) :=
  h.mapOrders fun o => by split; exacts [hf o, .refl o]

theorem Keeps.updLive (h : Keeps a r s u) (n : Nat) {f : Order → Order}
    (hf : ∀ o, OrderKept o (f o)) : Keeps a r s (updLive n f u) :=
  h.updOrder n fun o => by split; exacts [hf o, .refl o]

section
variable (o : Order)

theorem orderKept_owe (i : Nat × Nat) : OrderKept o (o.owe i) := by
  unfold Order.owe; split <;> exact ⟨rfl, Iff.rfl, id⟩

theorem orderKept_fired (w : WorkItem) : OrderKept o (o.fired w) := by
  unfold Order.fired; (repeat' split) <;> exact ⟨rfl, Iff.rfl, id⟩

theorem orderKept_addSpan (k : Back) (rollId : Text) (p : Nat) : OrderKept o (addSpan k rollId p o) := by
  unfold addSpan
  dsimp only
  split
  · exact ⟨rfl, Iff.rfl, by simp⟩
  · split
    · exact ⟨rfl, Iff.rfl, fun _ => by simp; omega⟩
    · exact ⟨rfl, Iff.rfl, id⟩

theorem orderKept_dropSpans (k : Back) (rollId : Text) : OrderKept o (dropSpans k rollId o) :=
  ⟨rfl, Iff.rfl, fun h => (List.length_filter_le _ _).trans h⟩

theorem orderKept_good (k : Back) (rollId : Text) (p : Nat) : OrderKept o (o.good k rollId p) :=
  OrderKept.trans (p := { o with goodFrames := o.goodFrames + 1 }) ⟨rfl, Iff.rfl, id⟩ (orderKept_addSpan _ k rollId p)

theorem orderKept_timingSpoil (limit : Nat) (i : Nat × Nat) : OrderKept o (o.timingSpoil limit i) := by
  have h1 : OrderKept o { o with timingSpoils := o.timingSpoils + 1 } := ⟨rfl, Iff.rfl, id⟩
  unfold Order.timingSpoil
  dsimp only
  split
  · exact h1.trans ((orderKept_owe _ i).trans ⟨rfl, Iff.rfl, id⟩)
  · exact h1

theorem orderKept_lampSpoil (i : Nat × Nat) : OrderKept o (o.lampSpoil i) := by
  have h1 : OrderKept o { o with lampSpoils := satAdd 255 o.lampSpoils 1 } := ⟨rfl, Iff.rfl, id⟩
  unfold Order.lampSpoil
  dsimp only
  split
  exacts [h1, h1.trans (orderKept_owe _ i)]

theorem orderKept_cutFrame (i : Nat × Nat) : OrderKept o (o.cutFrame i) := by
  unfold Order.cutFrame; split; exacts [.refl o, orderKept_owe o i]

theorem orderKept_fogged (i : Nat × Nat) (labelled : Bool) : OrderKept o (o.fogged i labelled) := by
  have h1 (n m : Nat) : OrderKept o { o with goodFrames := n, goodLabels := m } := ⟨rfl, Iff.rfl, id⟩
  unfold Order.fogged
  dsimp only
  split
  exacts [h1 _ _, (h1 _ _).trans (orderKept_owe _ i)]

end

/-! ## The account records (R129, R137) -/

theorem Keeps.updAccount (h : Keeps a r s u) (n : Nat) {f : Account → Account}
    (hf : ∀ x, (f x).number = x.number) : Keeps a r s (updAccount n f u) where
  capacities hs := by simpa [Capacities, Machine.updAccount] using h.capacities hs
  records hs hr := by
    have hn (x : Account) : (if x.number = n then f x else x).number = x.number := by split <;> simp [hf]
    obtain ⟨h1, h2, h3, h4, h5, h6, h7, h8, h9, h10, h11⟩ := h.records hs hr
    exact ⟨h1, h2, h3, h4, h5, h6, h7, h8, h9, by simpa [Machine.updAccount, List.pairwise_map, hn] using h10,
      by simpa [Machine.updAccount, hn] using h11⟩
  balance := h.balance

theorem Keeps.chargeFrames (h : Keeps a r s u) (w : Waste) (k : Back) (n : Nat) : Keeps a r s (chargeFrames w k n u) :=
  h.same (by simp [Machine.chargeFrames]) (by simp)

theorem Keeps.chargeLabel (h : Keeps a r s u) : Keeps a r s (chargeLabel u) :=
  h.same (by simp [Machine.chargeLabel]) (by simp)

theorem Keeps.settleOrder (h : Keeps a r s u) (n : Nat) : Keeps a r s (settleOrder n u) := by
  unfold Machine.settleOrder
  split
  · exact h
  · exact (h.updAccount _ fun _ => by rfl).updOrder n fun _ => .of_eq (by rfl) (by rfl) (by rfl)

end Sys2Proof.Machine
end

section
/-!
SUPPORT. What the ending of orders, the taking of reports and the refreshing of the wanted sets keep (R8, R9, R14 to R16,
R192), and what the operations of the rolls, the labels and the visit keep.
-/

namespace Sys2Proof.Machine

variable {a r : Nat} {s u v : State}

/-! ## Entry to ENDING (R8, R9) -/

section
variable {n : Nat} {o : Order}

theorem live?_eq_some : u.live? n = some o ↔ u.order? n = some o ∧ o.state ≠ .ending := by
  simp [State.live?, Option.filter_eq_some_iff, Order.live]

theorem mem_of_order? (h : u.order? n = some o) : o ∈ u.queue.orders ∧ o.number = n := by
  unfold State.order? at h
  exact ⟨List.mem_of_find?_eq_some h, by simpa using List.find?_some h⟩

theorem settleOrder_orders (h : u.order? n = some o) : (settleOrder n u).queue = { u.queue with
    orders := u.queue.orders.map (fun x => if x.number = n then
      { x with held := 0, settled := some (settledAmount o) } else x) } := by
  simp [settleOrder, h, updOrder]

/-- An order not ENDING becomes ENDING, its report at the tail of the ending list. -/
theorem Keeps.ended (h : Keeps a r s u) {f : Order → Order} (ho : ∃ o ∈ u.queue.orders, o.number = n ∧ o.state ≠ .ending)
    (hn : ∀ o, (f o).number = o.number) (he : ∀ o, (f o).state = .ending) (hsp : ∀ o, (f o).spans = o.spans)
    (e : Ending) (hen : e.number = n) :
    Keeps a r s (u.setQueue { u.queue with
      orders := u.queue.orders.map (fun o => if o.number = n then f o else o), ending := u.queue.ending ++ [e] }) where
  capacities hs := by simpa [Capacities] using h.capacities hs
  records hs hr := by
    obtain ⟨o, hmem, hon, hlive⟩ := ho
    obtain ⟨h1, h2, h3, h4, h5, rest⟩ := h.records hs hr
    have hnew : n ∉ u.queue.ending.map (fun e => e.number) := fun hx => hlive ((h4 o hmem).mpr (hon ▸ hx))
    have hsame (x : Order) : (if x.number = n then f x else x).number = x.number := by split <;> simp [hn]
    have hnums : (u.queue.orders.map (fun o => if o.number = n then f o else o)).map (fun o => o.number) =
        u.queue.orders.map (fun o => o.number) := by simp [hsame]
    refine ⟨hnums.symm ▸ h1, ?_, ?_, ?_, ?_, rest⟩
    · rw [State.setQueue_queue, List.map_append, List.map_singleton, hen, ← List.concat_eq_append]
      exact h2.concat hnew
    · rw [State.setQueue_queue, hnums]
      intro x hx
      obtain hx | hx := List.mem_append.mp hx
      · exact h3 x hx
      · rw [List.mem_singleton.mp hx, hen, ← hon]
        exact List.mem_map_of_mem hmem
    · simp only [State.setQueue_queue, List.forall_mem_map, hsame]
      intro x hx
      have := h4 x hx
      by_cases hxn : x.number = n <;> simp [hxn, he, hen] at this ⊢
      exact this
    · simp only [State.setQueue_queue, List.forall_mem_map]
      intro x hx
      split
      · rw [hsp]; exact h5 x hx
      · exact h5 x hx
  balance := h.balance

theorem Keeps.removeItems (h : Keeps a r s u) (n : Nat) : Keeps a r s (removeItems n u) := h.same (by simp) (by simp)
theorem Keeps.removeMember (h : Keeps a r s u) (n : Nat) : Keeps a r s (removeMember n u) := h.same (by simp) (by simp)

theorem Keeps.endOrder (h : Keeps a r s u) (kind : EndKind) (n : Nat) : Keeps a r s (endOrder kind n u) := by
  unfold Machine.endOrder
  split
  · exact h
  · next o ho =>
    obtain ⟨hf, hlive⟩ := live?_eq_some.mp ho
    obtain ⟨hmem, hn⟩ := mem_of_order? hf
    have hq : (Machine.settleOrder n (Machine.removeMember n (Machine.removeItems n u))).queue = _ :=
      settleOrder_orders (u := Machine.removeMember n (Machine.removeItems n u)) hf
    refine Keeps.tick (Keeps.ended (((h.removeItems n).removeMember n).settleOrder n) (n := n)
      (f := fun x => { x with state := .ending, endKind := some kind, waiting := .none }) ?_
      (fun _ => rfl) (fun _ => rfl) (fun _ => rfl) _ (by rfl))
    rw [hq]
    exact ⟨_, List.mem_map_of_mem hmem, by simp [hn], by simp [hn, hlive]⟩

theorem Keeps.endOrders (h : Keeps a r s u) (kind : EndKind) (ns : List Nat) : Keeps a r s (endOrders kind ns u) := by
  unfold Machine.endOrders
  induction ns generalizing u with
  | nil => exact h
  | cons n ns ih => exact ih (h.endOrder kind n)

end

/-! ## The taking of reports (R9, R192) -/

theorem earliest_mem {l : List Offer} {x : Offer} (h : earliest l = some x) : x ∈ l := by
  have hfold (y : Offer) (rest : List Offer) : rest.foldl earlier y ∈ y :: rest := by
    induction rest generalizing y with
    | nil => exact .head _
    | cons z rest ih =>
      have hz : earlier y z = y ∨ earlier y z = z := by unfold earlier; split <;> simp
      have := ih (earlier y z)
      simp only [List.foldl_cons, List.mem_cons] at this ⊢
      obtain hz | hz := hz <;> rw [hz] at this ⊢ <;> tauto
  cases l with
  | nil => simp [earliest] at h
  | cons y rest => exact Option.some.inj h ▸ hfold y rest

/-- What is offered is the head of the ending list or a back's waiting report. -/
theorem mem_offers {x : Offer} : x ∈ offers u ↔
    (∃ e, u.queue.ending.head? = some e ∧ x = .order e) ∨
      ∃ k t p, (u.roll k).report = some (t, p) ∧ x = .roll k t p := by
  have hroll (k : Back) : x ∈ (rollOffer u k).toList ↔ ∃ t p, (u.roll k).report = some (t, p) ∧ x = .roll k t p := by
    simp only [rollOffer, Option.mem_toList, Option.map_eq_some_iff, Prod.exists]
    exact exists_congr fun t => exists_congr fun p => and_congr_right' eq_comm
  simp only [offers, List.mem_append, hroll]
  constructor
  · rintro ((h | h) | h)
    · left; simpa [eq_comm] using h
    · exact .inr ⟨.a, h⟩
    · exact .inr ⟨.b, h⟩
  · rintro (h | ⟨k, h⟩)
    · left; left; simpa [eq_comm] using h
    · cases k
      · exact .inl (.inr h)
      · exact .inr h

/-- The head of the ending list leaves it, and its order the Order Queue. -/
theorem Keeps.endingTaken (h : Keeps a r s u) {e : Ending} (he : u.queue.ending.head? = some e) :
    Keeps a r s (u.setQueue { u.queue with
      orders := u.queue.orders.filter (fun o => o.number != e.number), ending := u.queue.ending.tail }) where
  capacities hs := by
    obtain ⟨c1, c2, c3, rest⟩ := h.capacities hs
    exact ⟨c1, c2, (List.length_filter_le _ _).trans c3, rest⟩
  records hs hr := by
    obtain ⟨h1, h2, h3, h4, h5, rest⟩ := h.records hs hr
    obtain ⟨tl, htl⟩ : ∃ tl, u.queue.ending = e :: tl := List.head?_eq_some_iff.mp he
    simp only [htl, List.map_cons, List.nodup_cons, List.mem_cons] at h2 h3 h4
    have hsub : (u.queue.orders.filter (fun o => o.number != e.number)).Sublist u.queue.orders := List.filter_sublist
    refine ⟨h1.sublist (hsub.map _), by simpa [htl] using h2.2, ?_, ?_, fun o ho => h5 o (hsub.subset ho), rest⟩
    · simp only [State.setQueue_queue, htl, List.tail_cons, List.mem_map, List.mem_filter, bne_iff_ne]
      intro x hx
      obtain ⟨o, ho, hox⟩ := List.mem_map.mp (h3 x (.inr hx))
      refine ⟨o, ⟨ho, fun hne => h2.1 ?_⟩, hox⟩
      rw [← hne, hox]
      exact List.mem_map_of_mem hx
    · simp only [State.setQueue_queue, htl, List.tail_cons, List.mem_filter, bne_iff_ne]
      rintro o ⟨ho, hne⟩
      rw [h4 o ho]
      simp [hne]
  balance := h.balance

theorem Keeps.takeOffer (h : Keeps a r s u) {x : Offer} (hx : x ∈ offers u) (hr : u.link.reports.length < 24) :
    Keeps a r s (takeOffer x u) := by
  obtain ⟨e, he, rfl⟩ | ⟨k, t, p, -, rfl⟩ := mem_offers.mp hx
  · exact (h.endingTaken he).enterReport _ hr
  · exact (h.updRoll k reportTaken).enterReport _ hr

theorem Keeps.drainFuel (h : Keeps a r s u) (n : Nat) : Keeps a r s (drainFuel n u) := by
  induction n generalizing u with
  | zero => exact h
  | succ n ih =>
    unfold Machine.drainFuel
    split
    · next hl =>
      split
      · exact h
      · next x hx => exact ih (h.takeOffer (earliest_mem hx) hl)
    · exact h

theorem Keeps.drainReports (h : Keeps a r s u) : Keeps a r s (drainReports u) := h.drainFuel _

theorem Keeps.tellFault (h : Keeps a r s u) : Keeps a r s (tellFault u) := h.drainReports.raise _

theorem Keeps.failOrder (h : Keeps a r s u) (kind : ClassB) (n : Nat) : Keeps a r s (failOrder kind n u) := by
  unfold Machine.failOrder
  split
  exacts [(h.endOrder _ n).tellFault, h]

theorem Keeps.failOrders (h : Keeps a r s u) (kind : ClassB) (ns : List Nat) : Keeps a r s (failOrders kind ns u) := by
  unfold Machine.failOrders
  induction ns generalizing u with
  | nil => exact h
  | cons n ns ih => exact ih (h.failOrder kind n)

/-! ## The wanted sets (R14 to R16) -/

theorem nodup_eraseDups (l : List Nat) : l.eraseDups.Nodup := by
  induction hn : l.length using Nat.strong_induction_on generalizing l with
  | _ n ih =>
    cases l with
    | nil => simp
    | cons x rest =>
      rw [List.eraseDups_cons, List.nodup_cons]
      refine ⟨by simp, ih _ ?_ _ rfl⟩
      have := List.length_filter_le (fun b => !b == x) rest
      simp at hn
      omega

theorem length_eraseDups_le (l : List Nat) : l.eraseDups.length ≤ l.length :=
  ((nodup_eraseDups l).subperm fun _ => List.mem_eraseDups.mp).length_le

/-- The wanted sets are subsets of what the QUEUED orders name. -/
theorem length_wanted_le (u : State) :
    u.wantedStocks.length ≤ u.queue.orders.length ∧ u.wantedMagazines.length ≤ u.queue.orders.length := by
  constructor <;>
    refine (length_eraseDups_le _).trans ((List.length_filter_le _ _).trans ?_)
  all_goals
    rw [List.length_map]
    exact List.length_filter_le _ _

theorem Keeps.refreshWanted (h : Keeps a r s u) : Keeps a r s (refreshWanted u) := by
  have hm : Keeps a r s (u.setQueue { u.queue with
      orders := u.queue.orders.map (fun o => { o with waiting := waitingOf u o }) }) := h.mapOrders fun _ => ⟨rfl, Iff.rfl, id⟩
  refine Keeps.raiseTimes (Keeps.raiseTimes ?_ _ _) _ _
  refine ⟨hm.capacities, fun hs hr => ?_, hm.balance⟩
  obtain ⟨c1, c2, c3, -⟩ := h.capacities hs
  obtain ⟨h1, h2, h3, h4, h5, -, -, -, -, rest⟩ := hm.records hs hr
  obtain ⟨hstock, hmag⟩ := length_wanted_le u
  exact ⟨h1, h2, h3, h4, h5, nodup_eraseDups _, hstock.trans c3, nodup_eraseDups _, hmag.trans c3, rest⟩

/-! ## The rolls (R90 to R101) -/

theorem Keeps.dropList (h : Keeps a r s u) (k : Back) : Keeps a r s (dropList k u) := h.same (by simp) (by simp)
theorem Keeps.clearOwed (h : Keeps a r s u) (k : Back) : Keeps a r s (clearOwed k u) := h.same (by simp) (by simp)
theorem Keeps.composeReport (h : Keeps a r s u) (k : Back) (c : CloseCause) : Keeps a r s (composeReport k c u) :=
  (h.updRoll k _).tick.raise _
theorem Keeps.enterClosing (h : Keeps a r s u) (k : Back) (c : CloseCause) : Keeps a r s (enterClosing k c u) := h.same (by simp) (by simp)
theorem Keeps.finishClose (h : Keeps a r s u) (k : Back) : Keeps a r s (finishClose k u) := by
  unfold Machine.finishClose; split; exacts [h.updRoll k _, h.composeReport k _]
theorem Keeps.closeRollFor (h : Keeps a r s u) (k : Back) (c : CloseCause) : Keeps a r s (closeRollFor k c u) :=
  (h.enterClosing k c).finishClose k
theorem Keeps.enterSuspect (h : Keeps a r s u) (k : Back) : Keeps a r s (enterSuspect k u) := h.same (by simp) (by simp)
theorem Keeps.issue (h : Keeps a r s u) (k : UnitSlot) (c : UnitCmd) {i : Issuer} (hi : i.deferred = false) :
    Keeps a r s (issue k c i u) := h.same (by simp) (deferred_issue_of_not hi)
theorem Keeps.sendNext (h : Keeps a r s u) (k : UnitSlot) : Keeps a r s (sendNext k u) := h.same (by simp) deferred_sendNext
theorem Keeps.blankRoll (h : Keeps a r s u) (k : Back) : Keeps a r s (blankRoll k u) :=
  (((h.enterClosing k _).updRoll k _).chargeFrames _ k _).issue _ _ (by rfl)
theorem Keeps.sendLeader (h : Keeps a r s u) (k : Back) : Keeps a r s (sendLeader k u) := by
  unfold Machine.sendLeader; dsimp only; split; exacts [h.issue _ _ (by rfl), h]
theorem Keeps.writeFrame (h : Keeps a r s u) (k : Back) (p : Nat) (e : MapEntry) : Keeps a r s (writeFrame k p e u) :=
  h.same (by simp) (by simp)
theorem Keeps.recordCount (h : Keeps a r s u) (k : Back) (c : Nat) : Keeps a r s (recordCount k c u) := h.same (by simp) (by simp)

/-! ## The labels (R116 to R124) -/

theorem Keeps.queuePreceding (h : Keeps a r s u) (k : Back) (x : LabelRec) (hx : u.labels.queue.length < 64) :
    Keeps a r s (queuePreceding k x u) := by
  have h1 := Keeps.chargeLabel (h.setLabels (l := { u.labels with queue := u.labels.queue ++ [x], syncCounter := 0 })
    (fun _ => by simpa using Nat.succ_le_iff.mpr hx) (by rfl))
  unfold Machine.queuePreceding
  dsimp only
  split
  exacts [h1.updRoll k _, h1]

theorem Keeps.queueFrame (h : Keeps a r s u) (k : Back) (p : Nat) (e : MapEntry) (x : LabelRec)
    (hx : u.labels.queue.length < 64) : Keeps a r s (queueFrame k p e x u) := by
  unfold Machine.queueFrame
  dsimp only
  have h1 (l : Labels) (hl : l.queue = u.labels.queue ++ [x]) (ht : l.templates.length = u.labels.templates.length) :
      Keeps a r s (Machine.updRoll k (writeEntry p (fun y => { y with labelled := true })) (u.setLabels l)) :=
    (h.setLabels (fun _ => by simpa [hl] using Nat.succ_le_iff.mpr hx) ht).updRoll k _
  split
  · exact Keeps.updLive (h1 _ (by rfl) (by rfl)) _ fun _ => .of_eq (by rfl) (by rfl) (by rfl)
  · exact Keeps.chargeLabel (h1 _ (by rfl) (by rfl))
  · exact h1 _ (by rfl) (by rfl)

theorem queuePreceding_queue (k : Back) (x : LabelRec) :
    (queuePreceding k x u).labels.queue = u.labels.queue ++ [x] := by
  unfold queuePreceding
  dsimp only
  split <;> simp

theorem Keeps.queueLabel (h : Keeps a r s u) (k : Back) (p : Nat) (e : MapEntry) (x : LabelRec) :
    Keeps a r s (queueLabel k p e x u) := by
  unfold Machine.queueLabel
  dsimp only
  split
  · next hfree =>
    simp only [Labels.free, Config.labelCapacity] at hfree
    cases hp : preceding u k p with
    | none =>
      simp only [hp, Option.toList_none, List.length_nil] at hfree
      exact h.queueFrame k p e x (by omega)
    | some y =>
      simp only [hp, Option.toList_some, List.length_cons, List.length_nil] at hfree
      refine Keeps.queueFrame (h.queuePreceding k y (by omega)) k p e x ?_
      rw [queuePreceding_queue, List.length_append, List.length_singleton]
      omega
  · split
    exacts [h.updRoll k _, h]

theorem Keeps.composeLabel (h : Keeps a r s u) (k : Back) (p : Nat) : Keeps a r s (composeLabel k p u) := by
  unfold Machine.composeLabel
  dsimp only
  (repeat' split) <;> first | exact h | exact h.queueLabel _ _ _ _

theorem Keeps.tryPrint (h : Keeps a r s u) : Keeps a r s (tryPrint u) := by
  unfold Machine.tryPrint
  dsimp only
  split
  · exact h
  · split
    · exact Keeps.issue (h.setLabels (l := { u.labels with printing := true }) id (by rfl)) _ _ (by rfl)
    · exact h

end Sys2Proof.Machine
end

section
/-!
SUPPORT. What the operations of the Gate Sequencer and the Firing Timer keep (R22 to R40, R72 to R83, R148 to R158).
-/

namespace Sys2Proof.Machine

variable {a r : Nat} {s u v : State}

/-! ## Order records changed by number (R26, R37) -/

/-- A change of the order records that fits each of them while their numbers are distinct. -/
theorem Keeps.mapAgreed (h : Keeps a r s u) {f : Order → Order}
    (hf : RecordsAgree u → ∀ o ∈ u.queue.orders, OrderKept o (f o)) :
    Keeps a r s (u.setQueue { u.queue with orders := u.queue.orders.map f }) where
  capacities hs := by simpa [Capacities] using h.capacities hs
  records hs hr := by
    have hk := hf (h.records hs hr)
    have hmap : u.queue.orders.map f = u.queue.orders.attach.map (fun o => f o.1) := by simp
    have hn : (u.queue.orders.map f).map (fun o => o.number) = u.queue.orders.map (fun o => o.number) := by
      rw [List.map_map]
      exact List.map_congr_left fun o ho => (hk o ho).number
    obtain ⟨h1, h2, h3, h4, h5, rest⟩ := h.records hs hr
    refine ⟨hn.symm ▸ h1, h2, hn.symm ▸ h3, ?_, ?_, rest⟩
    · simp only [State.setQueue_queue, List.forall_mem_map]
      intro o ho
      rw [(hk o ho).number, (hk o ho).ending]
      exact h4 o ho
    · simp only [State.setQueue_queue, List.forall_mem_map]
      exact fun o ho => (hk o ho).spans (h5 o ho)
  balance := h.balance

/-- Two records of one number are one record. -/
theorem RecordsAgree.eq_of_number (h : RecordsAgree u) {o p : Order} (ho : o ∈ u.queue.orders) (hp : p ∈ u.queue.orders)
    (hn : o.number = p.number) : o = p := by
  obtain ⟨h1, -⟩ := h
  exact List.inj_on_of_nodup_map h1 ho hp hn

/-- Several orders go back to QUEUED in one change of the records. -/
theorem requeue_eq (ns : List Nat) : requeue ns u = u.setQueue { u.queue with
    orders := u.queue.orders.map (fun o => if o.number ∈ ns then { o with state := .queued } else o) } := by
  unfold requeue
  induction ns generalizing u with
  | nil => simp; rfl
  | cons n ns ih =>
    rw [List.foldl_cons, ih]
    simp only [updOrder, State.setQueue_queue, State.setQueue_twice, List.map_map]
    congr 2
    refine List.map_congr_left fun o _ => ?_
    by_cases hn : o.number = n
    · simp [hn]
    · simp [hn]

theorem Keeps.requeue (h : Keeps a r s u) {ns : List Nat}
    (hns : RecordsAgree u → ∀ o ∈ u.queue.orders, o.number ∈ ns → o.state ≠ .ending) :
    Keeps a r s (requeue ns u) := by
  rw [requeue_eq]
  refine h.mapAgreed fun hr o ho => ?_
  split
  · next hn => exact ⟨rfl, by simp [hns hr o ho hn], id⟩
  · exact .refl o

/-! ## Holding and class A faults (R39, R153 to R159) -/

theorem Keeps.holdVisit (h : Keeps a r s u) (c : HoldCause) : Keeps a r s (holdVisit c u) := by
  unfold Machine.holdVisit
  split
  exacts [h, (h.setGate _).setLabelWait _]

theorem Keeps.cutOutcome (h : Keeps a r s u) (n : Nat) (k : Back) (x : CutOutcome) : Keeps a r s (cutOutcome n k x u) :=
  h.setGate _

theorem Keeps.raiseFault (h : Keeps a r s u) (f : FaultRec) : Keeps a r s (raiseFault f u) := by
  unfold Machine.raiseFault
  split
  · exact h
  · exact (h.setEvents _).raise _
  · exact ((((h.setEvents _).setGate _).raise _).raise _).holdVisit _

/-! ## The close of a visit (R37) -/

/-- The orders of a visit with work are not ENDING. -/
theorem live_of_mem_membersWith (hr : RecordsAgree u) {w : Bool} {v : Visit} {o : Order} (ho : o ∈ u.queue.orders)
    (hn : o.number ∈ membersWith w v u) : o.state ≠ .ending := by
  obtain ⟨p, hp, hpn⟩ := List.mem_map.mp hn
  obtain ⟨hmem, hlive⟩ := List.mem_filter.mp hp
  rw [← hr.eq_of_number hmem ho hpn]
  simp only [Order.live, Bool.and_eq_true, bne_iff_ne] at hlive
  exact hlive.1.1

theorem Keeps.endVisit (h : Keeps a r s u) : Keeps a r s (endVisit u) := by
  unfold Machine.endVisit
  split
  · exact h
  · exact (((h.requeue fun hr o => live_of_mem_membersWith hr).endOrders _ _).setGate _).setLabelWait _

theorem Keeps.closeVisit (h : Keeps a r s u) : Keeps a r s (closeVisit u) := by
  unfold Machine.closeVisit
  split
  exacts [h, h.endVisit.drainReports.refreshWanted]

/-! ## Feeder and meter commands (R28, R29, R36) -/

theorem Keeps.sendLoad (h : Keeps a r s u) : Keeps a r s (sendLoad u) := by
  unfold Machine.sendLoad
  split
  · exact h
  · split
    exacts [h.issue _ _ (by rfl), h.raiseFault _]

theorem Keeps.sendReturn (h : Keeps a r s u) : Keeps a r s (sendReturn u) := by
  unfold Machine.sendReturn
  split
  exacts [h.issue _ _ (by rfl), h.raiseFault _]

theorem Keeps.enterReturning (h : Keeps a r s u) : Keeps a r s (enterReturning u) := by
  unfold Machine.enterReturning
  split
  · exact h
  · have h1 := Keeps.setLabelWait (h.updVisit fun x => { x with state := .returning }) false
    dsimp only
    split
    · exact h1.closeVisit
    · split
      exacts [h1, h1.sendReturn]

theorem Keeps.beginMetering (h : Keeps a r s u) : Keeps a r s (beginMetering u) :=
  Keeps.issue ((h.setTimer _).updVisit _) _ _ (by rfl)

theorem Keeps.enterMetering (h : Keeps a r s u) : Keeps a r s (enterMetering u) := by
  have h1 := h.updVisit fun v => { v with state := .metering }
  unfold Machine.enterMetering
  dsimp only
  split
  · exact h1.raiseFault _
  · split
    exacts [h1, h1.beginMetering]

theorem Keeps.cutMetering (h : Keeps a r s u) : Keeps a r s (cutMetering u) := by
  unfold Machine.cutMetering
  split
  exacts [(h.setTimer _).updVisit _, h]

theorem Keeps.testReturning (h : Keeps a r s u) : Keeps a r s (testReturning u) := by
  unfold Machine.testReturning
  split
  exacts [h.enterReturning, h]

/-! ## Firings (R30 to R32) -/

theorem Keeps.takeItem (h : Keeps a r s u) (k : Back) (w : WorkItem) : Keeps a r s (takeItem k w u) :=
  Keeps.setLabels (Keeps.updOrder (h.updVisit _) _ fun o => orderKept_fired o w) id (by rfl)

theorem Keeps.armFiring (h : Keeps a r s u) (wa wb : Option WorkItem) : Keeps a r s (armFiring wa wb u) := by
  have h1 (t : Timer) (g : Gate) := (h.setTimer t).setGate g
  unfold Machine.armFiring
  refine Keeps.setLabelWait ?_ _
  cases wa <;> cases wb
  · exact h1 _ _
  · exact (h1 _ _).takeItem _ _
  · exact (h1 _ _).takeItem _ _
  · exact ((h1 _ _).takeItem _ _).takeItem _ _

theorem Keeps.blankUnfit (h : Keeps a r s u) (k : Back) (w : Option WorkItem) : Keeps a r s (blankUnfit k w u) := by
  unfold Machine.blankUnfit
  split
  exacts [h.blankRoll k, h]

theorem Keeps.startFiring (h : Keeps a r s u) (v : Visit) : Keeps a r s (startFiring v u) := by
  have h1 (wa wb : Option WorkItem) := (h.blankUnfit .a wa).blankUnfit .b wb
  unfold Machine.startFiring
  dsimp only
  split
  exacts [((h1 _ _).setLabelWait _).testReturning, (h1 _ _).armFiring _ _]

theorem Keeps.testFiring (h : Keeps a r s u) : Keeps a r s (testFiring u) := by
  unfold Machine.testFiring
  split
  · exact h
  · split
    · exact h
    · split
      · exact h.setLabelWait _
      · split
        · exact h.startFiring _
        · split
          exacts [h, (h.setLabelWait _).raise _]

theorem Keeps.testVisit (h : Keeps a r s u) : Keeps a r s (testVisit u) := h.testFiring.testReturning

theorem Keeps.enterExposing (h : Keeps a r s u) : Keeps a r s (enterExposing u) := (h.updVisit _).testVisit

theorem Keeps.placeRedo (h : Keeps a r s u) (k : Back) (w : WorkItem) : Keeps a r s (placeRedo k w u) := h.updVisit _

/-! ## Going on, and the choice of a visit (R22 to R27, R39, R148 to R151) -/

theorem Keeps.unhold (h : Keeps a r s u) : Keeps a r s (unhold u) := h.setGate _

theorem Keeps.continueVisit (h : Keeps a r s u) : Keeps a r s (continueVisit u) := by
  unfold Machine.continueVisit
  split
  · exact h
  · split
    · split
      exacts [h, h.sendLoad]
    · split
      exacts [h, h.enterMetering]
    · exact h.testVisit
    · split
      exacts [h, h.sendReturn]

theorem Keeps.releasePath (h : Keeps a r s u) : Keeps a r s (releasePath u) := by
  unfold Machine.releasePath
  split
  · exact h
  · split
    · split
      exacts [h, h.enterReturning]
    · split
      exacts [h, h.enterReturning]
    · exact h.testReturning
    · split
      exacts [h, h.sendReturn]

theorem eligible_of_winner {w : Order} (hw : winner u = some w) : w ∈ u.queue.orders ∧ eligible u w = true := by
  unfold winner at hw
  dsimp only at hw
  have hmem : w ∈ u.queue.orders.filter (eligible u) := by
    cases hf : (u.queue.orders.filter (eligible u)).find? (fun o => o.rush) with
    | some x =>
      rw [hf] at hw
      exact Option.some.inj hw ▸ List.mem_of_find?_eq_some hf
    | none =>
      rw [hf] at hw
      exact List.mem_of_head? hw
  exact List.mem_filter.mp hmem

theorem eligible_of_mem_chosen {w o : Order} (hw : winner u = some w) (ho : o ∈ chosen u w) :
    o ∈ u.queue.orders ∧ eligible u o = true := by
  have hall : o ∈ if u.settings.merge then
      u.queue.orders.filter (fun o => eligible u o && o.magazine == w.magazine && o.position == w.position) else [w] := by
    obtain h | h := List.mem_append.mp ho <;> exact (List.mem_filter.mp h).1
  split at hall
  · obtain ⟨hmem, hx⟩ := List.mem_filter.mp hall
    simp only [Bool.and_eq_true] at hx
    exact ⟨hmem, hx.1.1⟩
  · exact List.mem_singleton.mp hall ▸ eligible_of_winner hw

theorem queued_of_eligible {o : Order} (h : eligible u o = true) : o.state = .queued := by
  simp only [eligible, Bool.and_eq_true, beq_iff_eq] at h
  exact h.1.1.1

theorem Keeps.open_ (h : Keeps a r s u) {w : Order} (hw : winner u = some w) : Keeps a r s (open_ w u) := by
  unfold Machine.open_
  refine Keeps.sendLoad (Keeps.mapAgreed (h.setGate _) fun hr o ho => ?_)
  unfold activate
  split
  · next hn =>
    obtain ⟨p, hp, hpn⟩ := List.mem_map.mp (List.contains_iff_mem.mp hn)
    obtain ⟨hmem, he⟩ := eligible_of_mem_chosen hw hp
    have hpo : p = o := RecordsAgree.eq_of_number hr hmem ho hpn
    exact ⟨rfl, by simp [← hpo, queued_of_eligible he], id⟩
  · exact .refl o

theorem Keeps.choose (h : Keeps a r s u) : Keeps a r s (choose u) := by
  unfold Machine.choose
  split
  · split
    · next w hw => exact h.open_ hw
    · exact h
  · exact h

theorem Keeps.enterStopped (h : Keeps a r s u) : Keeps a r s (enterStopped u) := (h.setGate _).raise _

theorem Keeps.stopEnds (h : Keeps a r s u) : Keeps a r s (stopEnds u) := by
  unfold Machine.stopEnds
  split
  exacts [h.enterStopped, h]

/-! ## The course of a firing (R72 to R83) -/

theorem Keeps.dropLines (h : Keeps a r s u) (x : PerBack (Option FrameRec)) : Keeps a r s (dropLines x u) := h.setTimer _

theorem Keeps.oweAdvance (h : Keeps a r s u) (k : Back) : Keeps a r s (oweAdvance k u) := Keeps.issue (h.updVisit _) _ _ (by rfl)

theorem Keeps.oweAdvances (h : Keeps a r s u) (ks : List Back) : Keeps a r s (oweAdvances ks u) := by
  unfold Machine.oweAdvances
  induction ks generalizing u with
  | nil => exact h
  | cons k ks ih => exact ih (h.oweAdvance k)

theorem Keeps.endFiring (h : Keeps a r s u) : Keeps a r s (endFiring u) := by
  unfold Machine.endFiring
  split
  exacts [h, ((h.dropLines _).oweAdvances _).testVisit]

theorem Keeps.tellLampSpoil (h : Keeps a r s u) (k : Back) (w : WorkItem) : Keeps a r s (tellLampSpoil k w u) := by
  unfold Machine.tellLampSpoil
  split
  · exact h
  · have h1 := h.updOrder w.order fun o => orderKept_lampSpoil o (w.copy, w.step)
    dsimp only
    split
    exacts [h1, h1.placeRedo _ _]

theorem Keeps.spoilShot (h : Keeps a r s u) (k : Back) (x : Option Shot) : Keeps a r s (spoilShot k x u) := by
  cases x
  exacts [h, (h.tellLampSpoil _ _).chargeFrames _ _ _]

theorem Keeps.cutOutcomeIncluded (h : Keeps a r s u) (n : Nat) (b : State) :
    Keeps a r s (abortFiring.cutOutcomeIncluded n b u) := by
  unfold abortFiring.cutOutcomeIncluded
  induction includedBacks b generalizing u with
  | nil => exact h
  | cons k ks ih => exact ih (h.cutOutcome _ _ _)

theorem Keeps.abortFiring (h : Keeps a r s u) : Keeps a r s (abortFiring u) := by
  unfold Machine.abortFiring
  split
  · exact h
  · exact (((((h.dropLines _).spoilShot _ _).spoilShot _ _).raiseFault _).cutOutcomeIncluded _ _).oweAdvances _ |>.testVisit

theorem Keeps.cutPending (h : Keeps a r s u) (n : Nat) (k : Back) (w : WorkItem) : Keeps a r s (cutPending n k w u) :=
  Keeps.cutOutcome (Keeps.chargeFrames (h.updLive _ fun o => orderKept_cutFrame o _) _ _ _) _ _ _

theorem Keeps.endEmpty (h : Keeps a r s u) : Keeps a r s (endEmpty u) := by
  unfold Machine.endEmpty
  split
  exacts [h.dropLines _, h]

theorem Keeps.leaveFiring (h : Keeps a r s u) (k : Back) : Keeps a r s (leaveFiring k u) := by
  unfold Machine.leaveFiring
  split
  exacts [((h.setTimer _).cutPending _ _ _).endEmpty, h]

theorem Keeps.stepHold (h : Keeps a r s u) (n : Nat) : Keeps a r s (stepHold n u) := by
  unfold Machine.stepHold
  split
  exacts [(h.setGate _).holdVisit _, h]

theorem Keeps.firingAfterLoss (h : Keeps a r s u) (n : Nat) : Keeps a r s (firingAfterLoss n u) := by
  unfold Machine.firingAfterLoss
  split
  · exact (h.stepHold _).testVisit
  · split
    · split
      exacts [h.endFiring, h.abortFiring]
    · exact h

theorem Keeps.stepAfterFrame (h : Keeps a r s u) (f : Option FrameRec) : Keeps a r s (stepAfterFrame f u) := by
  cases f
  exacts [h, h.stepHold _]

theorem Keeps.afterLoss (h : Keeps a r s u) (k : Back) (b : State) : Keeps a r s (afterLoss k b u) := by
  unfold Machine.afterLoss
  split
  exacts [h.firingAfterLoss _, h.stepAfterFrame _]

theorem Keeps.completeCancels (h : Keeps a r s u) : Keeps a r s (completeCancels u) := (h.endOrders _ _).drainReports

/-! ## Outcomes at an advance completion (R77 to R79) -/

theorem Keeps.applyOutcome (h : Keeps a r s u) (k : Back) (f : FrameRec) (m : Nat) : Keeps a r s (applyOutcome k f m u) := by
  unfold Machine.applyOutcome
  split
  · exact h.updLive _ fun o => orderKept_good o _ _ _
  · have h1 := h.updLive f.item.order fun o => orderKept_timingSpoil o u.settings.reshootLimit (f.item.copy, f.item.step)
    dsimp only
    split
    exacts [h1.endOrder _ _, h1]
  · exact h

theorem Keeps.redoAfter (h : Keeps a r s u) (k : Back) (f : FrameRec) (m : Nat) (b : State) :
    Keeps a r s (redoAfter k f m b u) := by
  unfold Machine.redoAfter
  dsimp only
  split
  exacts [h.placeRedo _ _, h]

theorem Keeps.chargeOutcome (h : Keeps a r s u) (k : Back) (f : FrameRec) (m : Nat) :
    Keeps a r s (chargeOutcome k f m u) := by
  unfold Machine.chargeOutcome
  split
  exacts [h.chargeFrames _ _ _, h]

end Sys2Proof.Machine
end

section
/-!
SUPPORT. What the loss of rolls and units, the timeout of a unit command, and the cleanup of LINK RESET keep (R81, R83, R101
to R103, R163 to R166, R172 to R176).
-/

namespace Sys2Proof.Machine

variable {a r : Nat} {s u v w : State}

/-! ## The loss of a roll (R101 to R103) -/

theorem Keeps.loseShot (h : Keeps a r s u) (k : Back) : Keeps a r s (loseShot k u) := by
  unfold Machine.loseShot
  split
  exacts [(h.leaveFiring k).writeFrame _ _ _, h]

theorem Keeps.dropFrame (h : Keeps a r s u) (k : Back) : Keeps a r s (dropFrame k u) := h.setTimer _

theorem Keeps.cutFrameRec (h : Keeps a r s u) (k : Back) (f : FrameRec) : Keeps a r s (cutFrameRec k f u) := by
  unfold Machine.cutFrameRec
  split
  exacts [(h.cutOutcome _ _ _).dropFrame _, (h.cutPending _ _ _).dropFrame _]

theorem Keeps.loseFrame (h : Keeps a r s u) (k : Back) : Keeps a r s (loseFrame k u) := by
  unfold Machine.loseFrame
  split
  exacts [h, (h.cutFrameRec _ _).writeFrame _ _ _]

theorem Keeps.fogItem (h : Keeps a r s u) (k : Back) (x : (Nat × Nat × Nat) × Bool) : Keeps a r s (fogItem k u x) := by
  unfold Machine.fogItem
  split
  exacts [Keeps.chargeFrames (h.updOrder _ fun o => orderKept_fogged o _ _) _ _ _, h]

theorem Keeps.fogItems (h : Keeps a r s u) (k : Back) (l : List ((Nat × Nat × Nat) × Bool)) :
    Keeps a r s (l.foldl (Machine.fogItem k) u) := by
  induction l generalizing u with
  | nil => exact h
  | cons x l ih => exact ih (h.fogItem k x)

theorem Keeps.fogRoll (h : Keeps a r s u) (k : Back) : Keeps a r s (fogRoll k u) :=
  Keeps.mapOrders ((h.updRoll k _).fogItems k _) fun o => by
    split
    exacts [orderKept_dropSpans o _ _, .refl o]

theorem Keeps.rollLost (h : Keeps a r s u) (k : Back) : Keeps a r s (rollLost k u) :=
  ((Keeps.completeCancels (Keeps.clearOwed (Keeps.dropList (Keeps.composeReport (Keeps.updRoll
    (((h.loseShot k).loseFrame k).fogRoll k) k _) k _) k) k)).afterLoss k u).testReturning

theorem Keeps.backGone (h : Keeps a r s u) (k : Back) : Keeps a r s (backGone k u) := by
  unfold Machine.backGone
  split
  exacts [h.updRoll k _, h.updRoll k _, h.rollLost k, h.rollLost k, h.rollLost k, h.rollLost k, h, h]

/-! ## Answers to deferred frames (R174 to R176, R187) -/

/-- What a list of commands leaves waiting for replies. -/
def deferredOf (l : List Issued) : Nat := (l.filter (fun c => c.issuer.deferred)).length

theorem deferredOf_cons (c : Issued) (l : List Issued) :
    deferredOf (c :: l) = (if c.issuer.deferred then 1 else 0) + deferredOf l := by
  cases h : c.issuer.deferred <;> simp [deferredOf, h, Nat.add_comm]

theorem deferredOf_commands (x : Slot) : deferredOf x.commands = x.deferred := by
  simp only [deferredOf, Slot.commands, Slot.deferred_eq]
  cases x.outstanding <;> simp [List.filter_cons]
  split <;> simp [Nat.add_comm]

/-- An operation on a state whose slots were cleared of `n` deferred commands, which answers them, keeps the balance. -/
theorem Keeps.cleared (h : Keeps a r s u) {n q : Nat} (k : Keeps n q v w)
    (hv : v.link = u.link ∧ v.queue = u.queue ∧ v.labels = u.labels ∧ v.charge = u.charge ∧ v.tables = u.tables)
    (hd : v.bus.deferred + n = u.bus.deferred) : Keeps a (r + q) s w := by
  obtain ⟨hl, hq, hb, hc, ht⟩ := hv
  refine ⟨fun hs => k.capacities (by simpa [Capacities, hl, hq, hb, hc, ht] using h.capacities hs), fun hs hr => k.records (by simpa [Capacities, hl, hq, hb, hc, ht] using h.capacities hs)
    (by simpa [RecordsAgree, hq, hc] using h.records hs hr), fun d e hs => ?_⟩
  obtain ⟨h1, h2⟩ := h.balance d e hs
  have := k.balance d (e + r) ⟨by rw [hl]; omega, by rw [hl]; omega⟩
  rwa [Nat.add_assoc] at this

theorem Keeps.answerLost (h : Keeps a r s u) (c : Issued) :
    Keeps (a + if c.issuer.deferred then 1 else 0) r s (answerLost c u) := by
  unfold Machine.answerLost
  cases hi : c.issuer
  case direct tag => exact h.answerDeferred _ tag _ _ _
  case resync tag => exact h.answerDeferred _ tag _ _ _
  case label => exact h.setLabels (l := { u.labels with printing := false }) id (by rfl)
  all_goals exact h

theorem Keeps.changeSlot (h : Keeps a r s u) (k : UnitSlot) (x : SlotState) : Keeps a r s (changeSlot k x u) :=
  Keeps.raise (h.updSlot k fun _ => by rfl) _

theorem Keeps.answersLost (h : Keeps a r s u) (l : List Issued) :
    Keeps (a + deferredOf l) r s (l.foldl (fun t c => Machine.answerLost c t) u) := by
  induction l generalizing a u with
  | nil => exact h
  | cons c l ih =>
    rw [deferredOf_cons, ← Nat.add_assoc]
    exact ih (h.answerLost c)

theorem Keeps.keepFailure (h : Keeps a r s u) (k : FaultKind) : Keeps a r s (keepFailure k u) := h.setGate _

theorem Keeps.handOnLoss (h : Keeps a r s u) (k : UnitSlot) (x : Bool) : Keeps a r s (handOnLoss k x u) := by
  unfold Machine.handOnLoss
  cases k
  case feeder =>
    have h1 := h.updSlot .feeder (f := fun x => { x with magazine := none }) fun _ => rfl
    cases x <;> simp only [Bool.false_eq_true, ↓reduceIte] <;> split
    exacts [h1.raiseFault _, h1, (h1.keepFailure _).raiseFault _, h1.keepFailure _]
  case meter =>
    dsimp only
    split
    exacts [h.cutMetering.raiseFault _, h]
  case backA => exact (h.dropList _).backGone _
  case backB => exact (h.dropList _).backGone _
  case printer => exact h.updSlot _ fun _ => by rfl

theorem Keeps.slotLost (h : Keeps a r s u) (k : UnitSlot) (x : SlotState) : Keeps a r s (slotLost k x u) := by
  refine h.cleared (n := (u.slot k).deferred) (q := 0)
    (v := Machine.updSlot k (fun y => { y with outstanding := none, waiting := [] }) u) ?_ (by simp) ?_
  · rw [← deferredOf_commands, ← Nat.zero_add (deferredOf _)]
    exact (((Keeps.refl _).changeSlot k x).answersLost _).handOnLoss _ _
  · rw [deferred_updSlot_add]
    simp [Slot.deferred_eq]

/-! ## The timeout of a unit command (R175, R176) -/

theorem Keeps.advanceLost (h : Keeps a r s u) (k : Back) : Keeps a r s (advanceLost k u) := by
  have h1 : Keeps a r s (if (u.roll k).state = .ready then Machine.enterSuspect k u else u) := by
    split
    exacts [h.enterSuspect k, h]
  unfold Machine.advanceLost
  dsimp only
  split
  exacts [h1.clearOwed k, ((h1.updRoll k _).cutFrameRec _ _).clearOwed k]

theorem Keeps.otherTimeout (h : Keeps a r s u) (k : Back) : Keeps a r s (otherTimeout k u) := by
  unfold Machine.otherTimeout
  split
  case h_1 => exact h.enterSuspect k
  case h_2 =>
    have h1 := (h.leaveFiring k).enterSuspect k
    dsimp only
    split
    exacts [h1.updRoll k _, h1]
  all_goals exact h

theorem Keeps.backTimeout (h : Keeps a r s u) (k : UnitSlot) : Keeps a r s (backTimeout k u) := by
  cases k
  exacts [h, h, h.otherTimeout .a, h.otherTimeout .b, h]

/-- What a back's part of the state goes through is kept for the back of a slot, and the rest of the slots do nothing. -/
theorem Keeps.ofBack (h : Keeps a r s u) (k : UnitSlot) {f : Back → State} (hf : ∀ j, Keeps a r s (f j)) :
    Keeps a r s (k.back.elim u f) := by
  cases k
  exacts [h, h, hf .a, hf .b, h]

theorem Keeps.takeTimeout (h : Keeps a r s u) (k : UnitSlot) (c : Issued) :
    Keeps (a + if c.issuer.deferred then 1 else 0) r s (takeTimeout k c u) := by
  unfold Machine.takeTimeout
  cases hi : c.issuer
  case visit =>
    show Keeps a r s (if k = .feeder then _ else _)
    split
    exacts [h.keepFailure _, h.cutMetering]
  case cutPhase => exact h
  case firing => exact h.ofBack k fun j => h.advanceLost j
  case leader => exact h.backTimeout k
  case blanking => exact h.ofBack k fun j => (h.finishClose j).drainReports
  case resync tag => exact h.answerDeferred _ tag _ _ _
  case label => exact h.setLabels (l := { u.labels with printing := false }) id (by rfl)
  case direct tag => exact (h.backTimeout k).answerDeferred _ tag _ _ _

theorem Keeps.withdraw (h : Keeps a r s u) (k : UnitSlot) (c : Issued) :
    Keeps (a + if c.issuer.deferred then 1 else 0) r s (withdraw k u c) := by
  have hl := h.answerLost c
  unfold Machine.withdraw
  cases hi : c.issuer <;> rw [hi] at hl
  case firing => exact h.ofBack k fun j => h.advanceLost j
  case leader => exact h.backTimeout k
  case blanking => exact h.ofBack k fun j => (h.finishClose j).drainReports
  case visit => exact h
  case cutPhase => exact h
  all_goals exact hl

theorem Keeps.withdraws (h : Keeps a r s u) (k : UnitSlot) (l : List Issued) :
    Keeps (a + deferredOf l) r s (l.foldl (Machine.withdraw k) u) := by
  induction l generalizing a u with
  | nil => exact h
  | cons c l ih =>
    rw [deferredOf_cons, ← Nat.add_assoc]
    exact ih (h.withdraw k c)

theorem Keeps.absentUnit (h : Keeps a r s u) (k : UnitSlot) : Keeps a r s (absentUnit k u) := by
  have hno (j : Back) (t : State) (ht : Keeps a r s t) : Keeps a r s (absentUnit.noBackAfter j t) := by
    unfold absentUnit.noBackAfter
    split
    exacts [ht.updRoll j _, ht]
  unfold Machine.absentUnit
  cases k
  exacts [h.updSlot _ fun _ => by rfl, h.cutMetering, hno _ _ (h.dropList _), hno _ _ (h.dropList _), h.updSlot _ fun _ => by rfl]

/-- The deferred commands of a slot are its outstanding command and those that wait. -/
theorem Slot.deferred_of_outstanding {x : Slot} {o : Outstanding} (h : x.outstanding = some o) :
    x.deferred = (if o.issuer.deferred then 1 else 0) + deferredOf x.waiting := by
  cases hi : o.issuer.deferred <;> simp [Slot.deferred_eq, h, deferredOf, hi]

theorem deferred_clearOutstanding {k : UnitSlot} {o : Outstanding} (h : (u.slot k).outstanding = some o) :
    (clearOutstanding k u).bus.deferred + (if o.issuer.deferred then 1 else 0) = u.bus.deferred := by
  have hadd := deferred_updSlot_add (s := u) (k := k) (f := fun x => { x with outstanding := none })
  have hcleared : ({ u.slot k with outstanding := none } : Slot).deferred = deferredOf (u.slot k).waiting := by
    simp [Slot.deferred_eq, deferredOf]
  rw [Slot.deferred_of_outstanding h, hcleared] at hadd
  unfold clearOutstanding
  omega

theorem Keeps.timedOut (h : Keeps a r s u) {k : UnitSlot} {o : Outstanding} (ho : (u.slot k).outstanding = some o) :
    Keeps a r s (timedOut k o u) := by
  have h1 : Keeps a r s (Machine.takeTimeout k { cmd := o.cmd, issuer := o.issuer } (Machine.clearOutstanding k u)) :=
    h.cleared (n := if o.issuer.deferred then 1 else 0) (q := 0)
      (by simpa using (Keeps.refl (Machine.clearOutstanding k u)).takeTimeout k { cmd := o.cmd, issuer := o.issuer })
      (by simp) (deferred_clearOutstanding ho)
  set t := Machine.takeTimeout k { cmd := o.cmd, issuer := o.issuer } (Machine.clearOutstanding k u) with ht
  have hslot : t.slot k = { u.slot k with outstanding := none } := by
    simp [ht, State.slot, Machine.clearOutstanding, Machine.updSlot, State.setSlot]
  refine Keeps.absentUnit (h1.cleared (n := deferredOf (u.slot k).waiting) (q := 0)
    (v := Machine.updSlot k (fun y => { y with waiting := [] }) t) ?_ (by simp) ?_) k
  · rw [← Nat.zero_add (deferredOf _)]
    exact ((Keeps.refl _).changeSlot k .absent).withdraws _ _
  · have hadd := deferred_updSlot_add (s := t) (k := k) (f := fun y => { y with waiting := [] })
    have hbefore : (t.slot k).deferred = deferredOf (u.slot k).waiting := by
      rw [hslot]
      simp [Slot.deferred_eq, deferredOf]
    have hafter : ({ t.slot k with waiting := [] } : Slot).deferred = 0 := by
      rw [hslot]
      simp [Slot.deferred_eq]
    rw [hbefore, hafter] at hadd
    omega

theorem Keeps.commandTimeout (h : Keeps a r s u) {k : UnitSlot} {o : Outstanding} (ho : (u.slot k).outstanding = some o) :
    Keeps a r s (commandTimeout k o u) := by
  have h1 := ((h.timedOut ho).raiseFault (timeoutFault u (Machine.timedOut k o u) k o)).completeCancels
  exact (h1.ofBack k fun j => h1.afterLoss j _).testReturning

/-! ## The cleanup of LINK RESET (R163 to R166) -/

theorem Keeps.spoilFrame (h : Keeps a r s u) (k : Back) : Keeps a r s (spoilFrame k u) := by
  unfold Machine.spoilFrame
  split
  · exact h
  · split
    exacts [h, (h.setTimer _).chargeFrames _ _ _]

theorem Keeps.resetFiring (h : Keeps a r s u) : Keeps a r s (resetFiring u) :=
  (((h.dropLines _).spoilFrame .a).spoilFrame .b).oweAdvances _

theorem Keeps.linesFall (h : Keeps a r s u) : Keeps a r s (linesFall u) := by
  refine h.resetFiring.cutMetering.updSlot .meter fun x => ?_
  have ho (o : Outstanding) :
      (if o.issuer = .visit then { o with issuer := .cutPhase } else o).issuer.deferred = o.issuer.deferred := by
    split
    · next hv => simp [hv, Issuer.deferred]
    · rfl
  have hw : (cutMeterSlot x).waiting.filter (fun c => c.issuer.deferred) = x.waiting.filter (fun c => c.issuer.deferred) := by
    simp only [cutMeterSlot, List.filter_filter]
    refine List.filter_congr fun c _ => ?_
    cases c.issuer <;> simp [Issuer.deferred]
  rw [Slot.deferred_eq, Slot.deferred_eq, hw]
  cases hx : x.outstanding with
  | none => simp [cutMeterSlot, hx]
  | some o => cases hi : o.issuer.deferred <;> simp [cutMeterSlot, hx, ho, hi]

theorem Keeps.setStage (h : Keeps a r s u) (x : Stage) : Keeps a r s (setStage x u) := h.setGate _

theorem Keeps.beginSlide (h : Keeps a r s u) : Keeps a r s (beginSlide u) := by
  refine Keeps.setStage (h.updSlot .feeder fun x => ?_) _
  simp only [Slot.deferred_eq, List.filter_filter]
  congr 2
  refine List.filter_congr fun c _ => ?_
  cases c.issuer <;> simp [Issuer.deferred]

theorem Keeps.returnSlide (h : Keeps a r s u) (c : Cleanup) : Keeps a r s (returnSlide c u) := by
  unfold Machine.returnSlide
  split
  · exact h
  · split
    · dsimp only
      split
      exacts [(h.updVisit _).issue _ _ (by rfl), ((h.updVisit _).keepFailure _).setStage _]
    · exact h.setStage _

theorem Keeps.endCleanup (h : Keeps a r s u) (c : Cleanup) : Keeps a r s (endCleanup c u) := by
  unfold Machine.endCleanup
  dsimp only
  split
  exacts [(h.closeVisit.setGate _).enterStopped, (((h.closeVisit.setEvents _).setGate _).raise _).raise _]

theorem Keeps.cleanupStep (h : Keeps a r s u) : Keeps a r s (cleanupStep u) := by
  unfold Machine.cleanupStep
  split
  · exact h
  · split
    · split
      exacts [h.setStage _, h]
    · split
      exacts [h.beginSlide, h]
    · exact h.returnSlide _
    · exact h.endCleanup _

theorem Keeps.runCleanup (h : Keeps a r s u) : Keeps a r s (runCleanup u) :=
  h.cleanupStep.cleanupStep.cleanupStep.cleanupStep

/-! ## The end of a step -/

theorem Keeps.transmit (h : Keeps a r s u) : Keeps a r s (transmit u) := by
  unfold Machine.transmit
  dsimp only
  split
  exacts [h.arbiter.drainReports.choose, h.arbiter]

theorem Keeps.settle (h : Keeps a r s u) : Keeps a r s (settle u) := h.runCleanup.refreshWanted.stopEnds.choose

end Sys2Proof.Machine
end

section
/-!
SUPPORT. What the desk commands keep once their frames are taken: each takes at most the one reply entry that was free
(R186, R187).
-/

namespace Sys2Proof.Machine

variable {a r : Nat} {s u v w : State}

/-! ## A desk command's part -/

/-- What a desk command keeps of the state its frame is taken in, with a reply entry free. -/
structure Serves (s t : State) : Prop where
  capacities : Capacities s → Capacities t
  records : Capacities s → RecordsAgree s → RecordsAgree t
  entries : Balanced 0 7 s → Balanced 0 8 t

theorem Keeps.serves (h : Keeps 0 1 s u) : Serves s u := ⟨h.capacities, h.records, h.balance 0 7⟩

/-- Fewer entries were taken than allowed. -/
theorem Keeps.unanswered (h : Keeps a r s u) : Keeps a (r + 1) s u where
  capacities := h.capacities
  records := h.records
  balance d e hs := by
    obtain ⟨h1, h2⟩ := h.balance d e hs
    exact ⟨h1, by omega⟩

/-- What a step keeps of every state. -/
structure Kept (s t : State) : Prop where
  capacities : Capacities s → Capacities t
  records : Capacities s → RecordsAgree s → RecordsAgree t
  entries : ReplyEntries s → ReplyEntries t

theorem Kept.refl (s : State) : Kept s s := ⟨id, fun _ => id, id⟩

theorem Kept.trans (h : Kept s u) (g : Kept u v) : Kept s v :=
  ⟨g.capacities ∘ h.capacities, fun hc hr => g.records (h.capacities hc) (h.records hc hr), g.entries ∘ h.entries⟩

theorem Keeps.kept (h : Keeps 0 0 s u) : Kept s u := ⟨h.capacities, h.records, h.balance 0 8⟩

/-- A change of the link that leaves the reply side and keeps the buffer within its capacity. -/
theorem kept_setLink {l : Link} (hb : s.link.buffer.length ≤ 4 → l.buffer.length ≤ 4)
    (hl : l.reports = s.link.reports ∧ l.replies = s.link.replies ∧ l.reserved = s.link.reserved) :
    Kept s (s.setLink l) where
  capacities hs := by
    obtain ⟨h1, h2, rest⟩ := hs
    exact ⟨hb h1, by simpa [hl] using h2, rest⟩
  records _ := id
  entries := by simp [ReplyEntries, hl]

theorem kept_bufferFrame (c : Instr) : Kept s (bufferFrame c s) := by
  unfold bufferFrame
  split
  · exact .refl s
  · split
    · next hl => exact kept_setLink (fun _ => by simpa [Config.bufferCapacity] using hl) (by simp)
    · exact .refl s

/-- A frame is taken with an entry free, and leaves the rest of the state. -/
theorem taken_eq_some {c : Instr} {t : State} (h : taken c s = some t) :
    s.link.replies.length + s.link.reserved < 8 ∧
      ∃ b, b.length ≤ s.link.buffer.length ∧ t = s.setLink { s.link with buffer := b } := by
  unfold taken at h
  split at h
  · next he =>
    refine ⟨of_decide_eq_true he, ?_⟩
    split at h
    · exact ⟨s.link.buffer, Nat.le_refl _, (Option.some.inj h).symm⟩
    · next f rest hb =>
      split at h
      · exact ⟨rest, by simp [hb], (Option.some.inj h).symm⟩
      · cases h
  · cases h

theorem kept_takeFrame {c : Instr} {act : State → State} (h : ∀ t, Serves t (act t)) : Kept s (takeFrame c act s) := by
  unfold takeFrame
  split
  · next t ht =>
    obtain ⟨hfree, b, hb, rfl⟩ := taken_eq_some ht
    have hl : Kept s (s.setLink { s.link with buffer := b }) := kept_setLink (fun h4 => hb.trans h4) (by simp)
    obtain ⟨h1, h2, h3⟩ := h (s.setLink { s.link with buffer := b })
    exact ⟨h1 ∘ hl.capacities, fun hc hr => h2 (hl.capacities hc) (hl.records hc hr), fun hs =>
      h3 ⟨hs.1, by simpa using Nat.lt_succ_iff.mp hfree⟩⟩
  · exact kept_bufferFrame c

/-! ## The checks before a command -/

section
variable {α : Type} {tag : Byte} {code : Nat}

theorem Keeps.refuse (h : Keeps a r s u) (tag : Byte) (code : Nat) (x : Reason) :
    Keeps a (r + 1) s (refuse tag code x u) := h.answer _ _ _ _

theorem keeps_checked {f : Fields α} {body : α → State → State} (h : ∀ x, Keeps 0 1 u (body x u)) :
    Keeps 0 1 u (checked tag code f body u) := by
  unfold checked
  split
  · exact (Keeps.refl u).answer _ _ _ _
  · split
    exacts [(Keeps.refl u).answer _ _ _ _, h _]

theorem keeps_checkedNaming {f : Fields α} {data : α → ReplyData} {body : α → State → State}
    (h : ∀ x, Keeps 0 1 u (body x u)) : Keeps 0 1 u (checkedNaming tag code f data body u) := by
  unfold checkedNaming
  split
  · exact keeps_checked h
  · split
    exacts [(Keeps.refl u).answer _ _ _ _, h _]

end

section
variable {tag : Byte}

/-! ## The engine (R148 to R150, R160) -/

theorem keeps_runEngine (x : Unit) : Keeps 0 1 u (runEngine tag x u) := by
  have h := Keeps.refl u
  unfold runEngine
  split
  · exact h.refuse _ _ _
  · exact h.refuse _ _ _
  · exact ((h.answer _ _ _ _).setGate _).unhold.continueVisit
  · exact h.answer _ _ _ _

theorem Keeps.restOrStop (h : Keeps a r s u) : Keeps a r s (restOrStop u) := by
  unfold Machine.restOrStop
  split
  exacts [h.enterStopped, h.setGate _]

theorem keeps_stopHold (x : Unit) : Keeps 0 1 u (stopHold tag x u) := by
  have h := Keeps.refl u
  unfold stopHold
  split
  · split
    exacts [h.enterStopped.answer _ _ _ _, (h.holdVisit _).restOrStop.answer _ _ _ _]
  · exact h.answer _ _ _ _
  · exact h.answer _ _ _ _

theorem Keeps.release (h : Keeps a r s u) : Keeps a r s (release u) := ((h.setGate _).setLabelWait _).releasePath

theorem keeps_stopRelease (x : Unit) : Keeps 0 1 u (stopRelease tag x u) := by
  have h := Keeps.refl u
  unfold stopRelease
  split
  · exact h.refuse _ _ _
  · split
    exacts [h.enterStopped.answer _ _ _ _, h.release.answer _ _ _ _]
  · split
    exacts [h.answer _ _ _ _, h.release.answer _ _ _ _]
  · split
    exacts [h.answer _ _ _ _, h.release.answer _ _ _ _]
  · exact h.refuse _ _ _

theorem keeps_removeFault : Keeps 0 1 u (removeFault tag u) := by
  have h := (Keeps.refl u).setEvents { u.events with current := none, pendingFault := none }
  have h2 : Keeps 0 0 u (if jamOfGate u.events.current then
      closeVisit (u.setEvents { u.events with current := none, pendingFault := none }) else
      u.setEvents { u.events with current := none, pendingFault := none }) := by
    split
    exacts [h.closeVisit, h]
  unfold removeFault
  dsimp only
  split
  exacts [((h2.setEvents _).raise _).answer _ _ _ _, h2.restOrStop.answer _ _ _ _]

theorem keeps_clearFault (x : Unit) : Keeps 0 1 u (clearFault tag x u) := by
  unfold clearFault
  split
  exacts [keeps_removeFault, (Keeps.refl u).refuse _ _ _]

theorem keeps_readResume (x : Unit) : Keeps 0 1 u (readResume tag x u) := by
  unfold readResume
  split
  exacts [(Keeps.refl u).answer _ _ _ _, (Keeps.refl u).refuse _ _ _]

/-! ## LINK RESET (R163) -/

theorem deferred_resetSlotCommands (x : Slot) : (resetSlotCommands x).deferred = 0 := by
  have hs (i : Issuer) : (silence i).deferred = false := by cases i <;> rfl
  simp only [Slot.deferred_eq, resetSlotCommands, Option.toList_map, List.filter_map, Function.comp_def, hs]
  simp

theorem Keeps.settles (h : Keeps a r s u) (ns : List Nat) : Keeps a r s (ns.foldl (fun t n => Machine.settleOrder n t) u) := by
  induction ns generalizing u with
  | nil => exact h
  | cons n ns ih => exact ih (h.settleOrder n)

theorem Keeps.resetOrders (h : Keeps a r s u) : Keeps a r s (resetOrders u) := by
  have h1 := h.settles ((u.queue.orders.filter Order.live).map (fun o => o.number))
  refine ⟨fun hs => ?_, fun hs hr => ?_, h1.balance⟩
  · obtain ⟨c1, c2, c3, rest⟩ := h1.capacities hs
    exact ⟨c1, c2, Nat.zero_le _, rest⟩
  · obtain ⟨-, -, -, -, -, -, -, -, -, h10, h11⟩ := h1.records hs hr
    simpa [RecordsAgree, Machine.resetOrders] using ⟨h10, h11⟩

/-- The entry actions leave every queue of the link, and every reservation, empty. -/
theorem resetEntry_keeps :
    (Capacities u → Capacities (resetEntry u)) ∧ (Capacities u → RecordsAgree u → RecordsAgree (resetEntry u)) ∧
      Balanced 0 0 (resetEntry u) := by
  have h : Keeps 0 0 u (resetLabelQueue (resetFlags (resetEngine (resetOrders u)))) :=
    Keeps.setLabels (((Keeps.refl u).resetOrders.setGate _).setEvents _) (by simp) (by rfl)
  refine ⟨fun hc => ?_, fun hc hr => by simpa [RecordsAgree, resetEntry] using h.records hc hr, ?_⟩
  · obtain ⟨-, -, rest⟩ := h.capacities hc
    exact ⟨Nat.zero_le _, Nat.zero_le _, by simpa [resetEntry] using rest⟩
  · simp [Balanced, resetEntry, resetLinkQueues, resetBusCommands, Bus.deferred, deferred_resetSlotCommands]

/-- A command that first brings the 740 to a state with no reply held and none reserved. -/
theorem Keeps.serves_from (h : Keeps 0 1 v w) (hcap : Capacities u → Capacities v)
    (hrec : Capacities u → RecordsAgree u → RecordsAgree v) (hbal : Balanced 0 0 v) : Serves u w where
  capacities := h.capacities ∘ hcap
  records hc hr := h.records (hcap hc) (hrec hc hr)
  entries _ := by
    obtain ⟨h1, h2⟩ := h.balance 0 0 hbal
    exact ⟨h1, by omega⟩

theorem serves_linkReset (x : Unit) : Serves u (settle (linkReset tag x u)) := by
  obtain ⟨hcap, hrec, hbal⟩ := resetEntry_keeps (u := u)
  exact ((Keeps.refl (resetEntry u)).answer _ _ _ _).linesFall.settle.serves_from hcap hrec hbal

/-! ## The desk link (R179, R181, R190, R191, R194) -/

theorem keeps_readStatus (f : Fields Unit) : Keeps 0 1 u (readStatus tag f u) := by
  cases f
  all_goals exact (Keeps.refl u).answer _ _ _ _

theorem keeps_ackEvents (x : EventSet) : Keeps 0 1 u (ackEvents tag x u) := by
  have h := (Keeps.refl u).setEvents { u.events with flags := u.events.flags &&& ~~~x }
  rw [ackEvents_eq_answer]
  refine Keeps.answer (Keeps.setBus h ?_) _ _ _ _
  unfold acknowledgedBus
  split <;> rfl

theorem keeps_setNoticeMask (x : EventSet) : Keeps 0 1 u (setNoticeMask tag x u) := ((Keeps.refl u).same (by simp) (by simp)).answer _ _ _ _

theorem keeps_clearTraps (x : Unit) : Keeps 0 1 u (clearTraps tag x u) := ((Keeps.refl u).setEvents _).answer _ _ _ _

/-! ## The settings and the tables (R43 to R46, R65 to R67, R108 to R110, R133, R134, R197) -/

theorem keeps_setSettings (x : List SettingItem) : Keeps 0 1 u (setSettings tag x u) := by
  have h (y : Settings) : Keeps 0 0 u (u.setSettings y) := (Keeps.refl u).same (by simp) (by simp)
  unfold setSettings
  split
  · exact (Keeps.refl u).refuse _ _ _
  · unfold writeSettings
    dsimp only
    split
    exacts [(h _).answer _ _ _ _, ((h _).answer _ _ _ _).testVisit]

/-- A change of the stock or pattern places that keeps their number. -/
theorem Keeps.setTables (h : Keeps a r s u) {c : Calc} (hs : c.stocks.length = u.tables.stocks.length)
    (hp : c.patterns.length = u.tables.patterns.length) : Keeps a r s (u.setTables c) where
  capacities hc := by simpa [Capacities, hs, hp] using h.capacities hc
  records := h.records
  balance := h.balance

@[simp] theorem length_dropStock (n : Nat) (l : List (Option StockEntry)) : (dropStock n l).length = l.length := by
  simp [dropStock]

@[simp] theorem length_putStock (e : StockEntry) (l : List (Option StockEntry)) : (putStock e l).length = l.length := by
  unfold putStock
  split
  · simp
  · split <;> simp

theorem keeps_writeStock (x : StockFields) : Keeps 0 1 u (writeStock tag x u) := by
  unfold writeStock
  split
  · exact (Keeps.refl u).refuse _ _ _
  · exact (Keeps.setTables (.refl u) (by simp) (by simp)).answer _ _ _ _

theorem keeps_deleteStock (x : Nat) : Keeps 0 1 u (deleteStock tag x u) := by
  unfold deleteStock
  split
  · exact (Keeps.refl u).refuse _ _ _
  · exact (Keeps.setTables (.refl u) (by simp) (by simp)).answer _ _ _ _

theorem keeps_readStock (x : Option Nat) : Keeps 0 1 u (readStock tag x u) := by
  unfold readStock
  (repeat' split) <;> exact (Keeps.refl u).answer _ _ _ _

theorem keeps_writePattern (x : PatternFields) : Keeps 0 1 u (writePattern tag x u) := by
  unfold writePattern
  split
  · exact (Keeps.setTables (.refl u) (by simp) (by simp)).answer _ _ _ _
  · exact (Keeps.refl u).refuse _ _ _

theorem keeps_emptyPattern (x : Nat) : Keeps 0 1 u (emptyPattern tag x u) := by
  unfold emptyPattern
  split
  · exact (Keeps.refl u).refuse _ _ _
  · split
    · exact (Keeps.refl u).refuse _ _ _
    · exact (Keeps.setTables (.refl u) (by simp) (by simp)).answer _ _ _ _

theorem keeps_readPattern (x : Option Nat) : Keeps 0 1 u (readPattern tag x u) := by
  unfold readPattern
  (repeat' split) <;> exact (Keeps.refl u).answer _ _ _ _

theorem keeps_writeTemplate (x : TemplateFields) : Keeps 0 1 u (writeTemplate tag x u) := by
  unfold writeTemplate
  split
  · exact (Keeps.refl u).refuse _ _ _
  · split
    · exact (Keeps.refl u).refuse _ _ _
    · exact (Keeps.setLabels (.refl u) (by exact id) (by simp)).answer _ _ _ _

theorem keeps_emptyTemplate (x : Nat) : Keeps 0 1 u (emptyTemplate tag x u) := by
  unfold emptyTemplate
  split
  · exact (Keeps.refl u).refuse _ _ _
  · split
    · exact (Keeps.refl u).refuse _ _ _
    · split
      · exact (Keeps.refl u).refuse _ _ _
      · exact (Keeps.setLabels (.refl u) (by exact id) (by simp)).answer _ _ _ _

theorem keeps_readTemplate (x : Option Nat) : Keeps 0 1 u (readTemplate tag x u) := by
  unfold readTemplate
  (repeat' split) <;> exact (Keeps.refl u).answer _ _ _ _

theorem keeps_writeFee (x : FeeFields) : Keeps 0 1 u (writeFee tag x u) := by
  unfold writeFee
  split
  · exact (Keeps.refl u).refuse _ _ _
  · exact Keeps.answer (Keeps.same (Keeps.refl u) (by simp) (by simp)) _ _ _ _

theorem keeps_readFee (x : Option Nat) : Keeps 0 1 u (readFee tag x u) := by
  unfold readFee
  (repeat' split) <;> exact (Keeps.refl u).answer _ _ _ _

/-! ## The rolls and the labels (R89, R96, R99, R104, R127) -/

theorem keeps_loadRoll (x : LoadRollFields) : Keeps 0 1 u (loadRoll tag x u) := by
  have h := Keeps.refl u
  unfold loadRoll
  split
  · exact h.refuse _ _ _
  · split
    · exact h.refuse _ _ _
    · split
      exacts [((h.updRoll _ _).answer _ _ _ _).sendLeader _, h.refuse _ _ _, h.refuse _ _ _]

theorem keeps_closeRoll (x : Nat) : Keeps 0 1 u (closeRoll tag x u) := by
  have h := Keeps.refl u
  unfold closeRoll
  split
  · exact h.refuse _ _ _
  · split
    exacts [h.refuse _ _ _, ((h.closeRollFor _ _).drainReports.answer _ _ _ _).testReturning]

/-- A command whose reply is deferred takes the entry reserved for it. -/
theorem Keeps.issueReserved (h : Keeps a r s u) (k : UnitSlot) (c : UnitCmd) {i : Issuer} (hi : i.deferred = true) :
    Keeps a (r + 1) s (Machine.issue k c i (reserve u)) where
  capacities hs := by simpa [Capacities, reserve] using h.capacities hs
  records hs hr := by simpa [RecordsAgree, reserve] using h.records hs hr
  balance d e hs := by
    obtain ⟨h1, h2⟩ := h.balance d e hs
    have hd := deferred_issue (s := reserve u) (k := k) c i
    rw [hi] at hd
    simp only [reserve, State.setLink_bus, ↓reduceIte] at hd
    simp only [Balanced, issue_frame, reserve, State.setLink_link, hd]
    omega

theorem keeps_resyncRoll (x : Nat) : Keeps 0 1 u (resyncRoll tag x u) := by
  unfold resyncRoll
  split
  · exact (Keeps.refl u).refuse _ _ _
  · split
    exacts [(Keeps.refl u).refuse _ _ _, (Keeps.refl u).issueReserved _ _ rfl]

theorem keeps_readRollMap (x : RollMapFields) : Keeps 0 1 u (readRollMap tag x u) := by
  unfold readRollMap
  dsimp only
  (repeat' split) <;> exact (Keeps.refl u).answer _ _ _ _

theorem keeps_discardLabels (x : Unit) : Keeps 0 1 u (discardLabels tag x u) := by
  have hkept : (keptLabels u.labels).length ≤ u.labels.queue.length := by
    unfold keptLabels
    split <;> simp
  have h := Keeps.answer ((Keeps.refl u).setLabels (l := { u.labels with queue := keptLabels u.labels }) hkept.trans (by rfl))
  unfold discardLabels
  dsimp only
  split
  exacts [h _ _ _ _, (h _ _ _ _).testVisit]

/-! ## Orders (R1 to R6, R17 to R19) -/

theorem keeps_readOrder (x : Nat) : Keeps 0 1 u (readOrder tag x u) := by
  unfold readOrder
  split
  exacts [(Keeps.refl u).refuse _ _ _, (Keeps.refl u).answer _ _ _ _]

theorem keeps_cancelOrder (x : Nat) : Keeps 0 1 u (cancelOrder tag x u) := by
  have h := Keeps.refl u
  unfold cancelOrder
  split
  · exact h.refuse _ _ _
  · split
    · exact h.refuse _ _ _
    · exact (h.endOrder _ _).drainReports.answer _ _ _ _
    · split
      · exact h.answer _ _ _ _
      · exact (Keeps.answer (Keeps.completeCancels (Keeps.removeItems (h.updOrder _ fun _ => .of_eq (by rfl) (by rfl) (by rfl)) _)) _ _ _ _).testReturning

/-! ## Accounts (R140 to R146) -/

/-- A change of the account table that keeps its order and its capacity. -/
theorem Keeps.setAccounts (h : Keeps a r s u) {l : List Account} (hl : u.charge.accounts.length ≤ 63 → l.length ≤ 63)
    (hp : u.charge.accounts.Pairwise (fun a b => a.number < b.number) → l.Pairwise (fun a b => a.number < b.number))
    (h0 : (∀ a ∈ u.charge.accounts, a.number ≠ 0) → ∀ a ∈ l, a.number ≠ 0) :
    Keeps a r s (u.setCharge { u.charge with accounts := l }) where
  capacities hs := by
    obtain ⟨c1, c2, c3, c4, c5, rest⟩ := h.capacities hs
    exact ⟨c1, c2, c3, c4, hl c5, rest⟩
  records hs hr := by
    obtain ⟨h1, h2, h3, h4, h5, h6, h7, h8, h9, h10, h11⟩ := h.records hs hr
    exact ⟨h1, h2, h3, h4, h5, h6, h7, h8, h9, hp h10, h0 h11⟩
  balance := h.balance

theorem length_insertAccount (x : Account) (l : List Account) : (insertAccount x l).length = l.length + 1 := by
  induction l with
  | nil => rfl
  | cons y l ih => unfold insertAccount; split <;> simp [ih]

theorem mem_insertAccount {x y : Account} {l : List Account} : y ∈ insertAccount x l ↔ y = x ∨ y ∈ l := by
  induction l with
  | nil => simp [insertAccount]
  | cons z l ih =>
    unfold insertAccount
    split
    · simp
    · simp only [List.mem_cons, ih]; tauto

theorem pairwise_insertAccount {x : Account} {l : List Account} (h : l.Pairwise (fun a b => a.number < b.number))
    (hx : ∀ y ∈ l, y.number ≠ x.number) : (insertAccount x l).Pairwise (fun a b => a.number < b.number) := by
  induction l with
  | nil => simp [insertAccount]
  | cons z l ih =>
    obtain ⟨hz, hl⟩ := List.pairwise_cons.mp h
    have hzx := hx z (.head _)
    unfold insertAccount
    split
    · next hlt =>
      refine List.pairwise_cons.mpr ⟨fun y hy => ?_, h⟩
      obtain rfl | hy := List.mem_cons.mp hy
      exacts [hlt, hlt.trans (hz y hy)]
    · refine List.pairwise_cons.mpr ⟨fun y hy => ?_, ih hl fun y hy => hx y (.tail _ hy)⟩
      obtain rfl | hy := mem_insertAccount.mp hy
      exacts [by omega, hz y hy]

theorem keeps_openAccount (x : AccountSum) : Keeps 0 1 u (openAccount tag x u) := by
  have h := Keeps.refl u
  by_cases h0 : x.number = 0
  · rw [openAccount_house h0]; exact h.answer _ _ _ _
  cases he : u.charge.account? x.number with
  | some y => rw [openAccount_exists h0 (by simp [he])]; exact h.answer _ _ _ _
  | none =>
    obtain hl | hl := Nat.lt_or_ge u.charge.accounts.length Config.accountCapacity
    · rw [openAccount_adds h0 he hl]
      have hnew : ∀ y ∈ u.charge.accounts, y.number ≠ x.number := by simpa [Charge.account?] using he
      refine Keeps.answer (h.setAccounts (fun _ => ?_) (fun hp => pairwise_insertAccount hp hnew) fun hn y hy => ?_) _ _ _ _
      · rw [length_insertAccount]; exact hl
      · obtain rfl | hy := mem_insertAccount.mp hy
        exacts [h0, hn y hy]
    · rw [openAccount_tableFull h0 he hl]; exact h.answer _ _ _ _

theorem keeps_readAccount (x : Option Nat) : Keeps 0 1 u (readAccount tag x u) := by
  unfold readAccount
  (repeat' split) <;> exact (Keeps.refl u).answer _ _ _ _

theorem keeps_onAccount {code n : Nat} {act : Account → State → State} (h : ∀ x, Keeps 0 1 u (act x u)) :
    Keeps 0 1 u (onAccount tag code n act u) := by
  unfold onAccount
  split
  · exact (Keeps.refl u).answer _ _ _ _
  · split
    exacts [(Keeps.refl u).answer _ _ _ _, h _]

theorem keeps_putCeiling (x : AccountSum) (y : Account) : Keeps 0 1 u (putCeiling tag x y u) := by
  unfold putCeiling
  split
  exacts [(Keeps.refl u).answer _ _ _ _, ((Keeps.refl u).updAccount _ fun _ => by rfl).answer _ _ _ _]

theorem keeps_putOpen {code n : Nat} (b : Bool) (y : Account) : Keeps 0 1 u (putOpen tag code n b y u) :=
  ((Keeps.refl u).updAccount _ fun _ => by rfl).answer _ _ _ _

theorem keeps_credit (x : AccountSum) : Keeps 0 1 u (credit tag x u) := by
  unfold credit
  split
  · exact Keeps.answer (Keeps.same (Keeps.refl u) (by simp) (by simp)) _ _ _ _
  · split
    exacts [(Keeps.refl u).answer _ _ _ _, ((Keeps.refl u).updAccount _ fun _ => by rfl).answer _ _ _ _]

theorem keeps_clearCharged (x : Nat) : Keeps 0 1 u (clearCharged tag x u) := by
  unfold clearCharged
  split
  · exact Keeps.answer (Keeps.same (Keeps.refl u) (by simp) (by simp)) _ _ _ _
  · split
    exacts [(Keeps.refl u).answer _ _ _ _, ((Keeps.refl u).updAccount _ fun _ => by rfl).answer _ _ _ _]

theorem keeps_dropAccount {n : Nat} (y : Account) : Keeps 0 1 u (dropAccount tag n y u) := by
  unfold dropAccount
  split
  · exact (Keeps.refl u).answer _ _ _ _
  · exact Keeps.answer ((Keeps.refl u).setAccounts (List.length_filter_le _ _).trans (fun hp => hp.filter _)
      fun hn x hx => hn x (List.mem_filter.mp hx).1) _ _ _ _

/-! ## DIRECT frames (R177 to R182) -/

theorem Keeps.answerDirect (h : Keeps a r s u) (c : Nat) (x : Result) (d : ReplyData) :
    Keeps a (r + 1) s (answerDirect tag c x d u) := h.addReply _

theorem keeps_trap {k : UnitSlot} {c : UnitCmd} (x : Reason) : Keeps 0 1 u (trap tag k c x u) :=
  (((Keeps.refl u).setEvents _).raise _).answerDirect _ _ _

theorem beginSequence_reserve (k : UnitSlot) (c : UnitCmd) :
    beginSequence k c (reserve u) = reserve (beginSequence k c u) := by
  unfold beginSequence
  split <;> rfl

theorem Keeps.beginSequence (h : Keeps a r s u) (k : UnitSlot) (c : UnitCmd) : Keeps a r s (beginSequence k c u) := by
  unfold Machine.beginSequence
  split
  exacts [h.updRoll _ _, h]

theorem keeps_forward (k : UnitSlot) (c : UnitCmd) : Keeps 0 1 u (forward tag k c u) := by
  unfold forward
  rw [beginSequence_reserve]
  exact ((Keeps.refl u).beginSequence k c).issueReserved _ _ rfl

theorem keeps_judgeDirect (unit : Byte) (code : Nat) (c : Option UnitCmd) : Keeps 0 1 u (judgeDirect tag unit code c u) := by
  have h := Keeps.refl u
  unfold judgeDirect
  split
  · exact h.answerDirect _ _ _
  · split
    · split
      · unfold judgeSlot
        split
        · exact h.answerDirect _ _ _
        · split
          · exact keeps_trap _
          · split
            exacts [keeps_trap _, keeps_forward _ _]
      · exact h.answerDirect _ _ _
    · exact h.answerDirect _ _ _

end

/-! ## ORDER frames (R1 to R6, R135, R136) -/

theorem number_range_freeNumber (taken : List Nat) {n : Nat} (fuel : Nat) (h : 1 ≤ n ∧ n ≤ 65535) :
    1 ≤ freeNumber taken fuel n ∧ freeNumber taken fuel n ≤ 65535 := by
  induction fuel generalizing n with
  | zero => exact h
  | succ fuel ih =>
    unfold freeNumber
    split
    · exact ih (by unfold nextNumber; split <;> omega)
    · exact h

end Sys2Proof.Machine
end

section
/-!
SUPPORT. The number an order takes (R3), what every desk command, the taking of waiting frames, every event and so every
step keep, and the statements O4 and O7 and the first part of O6 from it.
-/

namespace Sys2Proof.Machine

variable {a r : Nat} {s t u v w : State}

/-! ## The number an order takes (R3) -/

/-- The number reached from `n` after `i` passes, going from 65535 to 1. -/
def numberAfter (n i : Nat) : Nat := (n - 1 + i) % 65535 + 1

theorem numberAfter_zero {n : Nat} (h : 1 ≤ n) (h' : n ≤ 65535) : numberAfter n 0 = n := by
  unfold numberAfter; omega

theorem nextNumber_eq {n : Nat} (h : 1 ≤ n) (h' : n ≤ 65535) : nextNumber n = numberAfter n 1 := by
  unfold nextNumber numberAfter; split <;> omega

theorem numberAfter_add (n i j : Nat) : numberAfter (numberAfter n i) j = numberAfter n (i + j) := by
  unfold numberAfter; omega

theorem numberAfter_range (n i : Nat) : 1 ≤ numberAfter n i ∧ numberAfter n i ≤ 65535 := by
  unfold numberAfter; omega

theorem numberAfter_inj {n i j : Nat} (hi : i ≤ 32) (hj : j ≤ 32) (h : numberAfter n i = numberAfter n j) : i = j := by
  unfold numberAfter at h; omega

/-- The search stops at the first free number, or past as many numbers as it may try. -/
theorem freeNumber_spec (taken : List Nat) (fuel : Nat) {n : Nat} (h : 1 ≤ n) (h' : n ≤ 65535) :
    ∃ i ≤ fuel, freeNumber taken fuel n = numberAfter n i ∧ (∀ j < i, numberAfter n j ∈ taken) ∧
      (i < fuel → numberAfter n i ∉ taken) := by
  induction fuel generalizing n with
  | zero => exact ⟨0, Nat.le_refl _, (numberAfter_zero h h').symm, by simp, by simp⟩
  | succ fuel ih =>
    unfold freeNumber
    split
    · next hn =>
      rw [nextNumber_eq h h']
      obtain ⟨i, hi, he, hbefore, hfree⟩ := ih (numberAfter_range n 1).1 (numberAfter_range n 1).2
      simp only [numberAfter_add] at he hbefore hfree
      refine ⟨1 + i, by omega, he, fun j hj => ?_, fun hlt => hfree (by omega)⟩
      cases j with
      | zero => rw [numberAfter_zero h h']; simpa using hn
      | succ j => rw [Nat.add_comm]; exact hbefore j (by omega)
    · next hn =>
      refine ⟨0, Nat.zero_le _, (numberAfter_zero h h').symm, by simp, fun _ => ?_⟩
      rw [numberAfter_zero h h']
      simpa using hn

/-- With at most 32 records the search finds a number none of them has. -/
theorem queue_freeNumber_spec {q : Queue} (hq : q.orders.length ≤ 32) (h : 1 ≤ q.nextNumber) (h' : q.nextNumber ≤ 65535) :
    ∃ i ≤ 32, q.freeNumber = numberAfter q.nextNumber i ∧
      (∀ j < i, numberAfter q.nextNumber j ∈ q.orders.map (fun o => o.number)) ∧
      q.freeNumber ∉ q.orders.map (fun o => o.number) := by
  obtain ⟨i, hi, he, hbefore, hfree⟩ := freeNumber_spec (q.orders.map (fun o => o.number)) q.orders.length h h'
  refine ⟨i, hi.trans hq, he, hbefore, ?_⟩
  rw [Queue.freeNumber, he]
  obtain hlt | rfl := Nat.lt_or_eq_of_le hi
  · exact hfree hlt
  intro hmem
  have hsub : (List.range (q.orders.length + 1)).map (numberAfter q.nextNumber) ⊆ q.orders.map (fun o => o.number) := by
    intro x hx
    obtain ⟨j, hj, rfl⟩ := List.mem_map.mp hx
    obtain hj | rfl := Nat.lt_succ_iff_lt_or_eq.mp (List.mem_range.mp hj)
    exacts [hbefore j hj, hmem]
  have hnodup : ((List.range (q.orders.length + 1)).map (numberAfter q.nextNumber)).Nodup :=
    List.nodup_range.map_on fun x hx y hy hxy => numberAfter_inj
      ((Nat.lt_succ_iff.mp (List.mem_range.mp hx)).trans hq) ((Nat.lt_succ_iff.mp (List.mem_range.mp hy)).trans hq) hxy
  have := (hnodup.subperm hsub).length_le
  simp at this

/-! ## ORDER frames (R1 to R6, R135, R136) -/

theorem Keeps.admitted (h : Keeps a r s u) {o : Order} (hlen : u.queue.orders.length < 32) (hn : o.number = u.queue.freeNumber)
    (ho : o.state = .queued) (hsp : o.spans = []) : Keeps a r s (u.setQueue { u.queue with
      orders := u.queue.orders ++ [o], nextNumber := nextNumber u.queue.freeNumber }) where
  capacities hs := by
    obtain ⟨c1, c2, c3, c4, c5, c6, c7, c8, c9, c10⟩ := h.capacities hs
    obtain ⟨i, -, he, -⟩ := queue_freeNumber_spec c3 c9 c10
    obtain ⟨h1, h2⟩ := numberAfter_range u.queue.nextNumber i
    have hnext : 1 ≤ nextNumber u.queue.freeNumber ∧ nextNumber u.queue.freeNumber ≤ 65535 := by
      rw [he, nextNumber_eq h1 h2]; exact numberAfter_range _ _
    exact ⟨c1, c2, by simpa using Nat.succ_le_iff.mpr hlen, c4, c5, c6, c7, c8, hnext.1, hnext.2⟩
  records hs hr := by
    obtain ⟨-, -, c3, -, -, -, -, -, c9, c10⟩ := h.capacities hs
    obtain ⟨-, -, -, -, hfresh⟩ := queue_freeNumber_spec c3 c9 c10
    obtain ⟨h1, h2, h3, h4, h5, rest⟩ := h.records hs hr
    rw [← hn] at hfresh
    refine ⟨?_, h2, fun e he => ?_, fun p hp => ?_, fun p hp => ?_, rest⟩
    · rw [State.setQueue_queue, List.map_append, List.map_singleton, ← List.concat_eq_append]
      exact h1.concat hfresh
    · rw [State.setQueue_queue, List.map_append]
      exact List.mem_append_left _ (h3 e he)
    · obtain hp | hp := List.mem_append.mp hp
      · exact h4 p hp
      · rw [List.mem_singleton.mp hp, ho]
        refine iff_of_false (by simp) fun hx => hfresh ?_
        obtain ⟨e, he, hen⟩ := List.mem_map.mp hx
        exact hen ▸ h3 e he
    · obtain hp | hp := List.mem_append.mp hp
      · exact h5 p hp
      · rw [List.mem_singleton.mp hp, hsp]; exact Nat.zero_le _
  balance := h.balance

theorem keeps_takeOrder {tag : Byte} (f : OrderFields) : Keeps 0 1 u (takeOrder tag f u) := by
  have h := Keeps.refl u
  unfold takeOrder
  split
  · exact h.addReply _
  · split
    · exact h.addReply _
    · next hlen =>
      split
      · exact h.addReply _
      · split
        · exact h.addReply _
        · exact (Keeps.addReply (Keeps.updAccount (h.admitted (Nat.lt_of_not_le hlen) rfl rfl rfl) _ fun _ => by rfl) _).settle

/-! ## Every desk command (R186) -/

theorem kept_settled {c : Instr} {act : State → State} (h : ∀ t, Keeps 0 1 t (act t)) : Kept s (deskAct c act s) :=
  kept_takeFrame fun t => (h t).settle.serves

theorem kept_replyOnly {c : Instr} {act : State → State} (h : ∀ t, Keeps 0 1 t (act t)) : Kept s (replyOnly c act s) :=
  kept_takeFrame fun t => (h t).serves

theorem kept_linkReset {tag : Byte} {f : Fields Unit} :
    Kept s (deskAct (.linkReset tag f) (checked tag 8 f (linkReset tag)) s) := by
  refine kept_takeFrame fun t => ?_
  unfold checked
  split
  · exact ((Keeps.refl t).answer _ _ _ _).settle.serves
  · split
    exacts [((Keeps.refl t).answer _ _ _ _).settle.serves, serves_linkReset _]

theorem execDesk_kept {c : Instr} (h : execDesk c s = .next t) : Kept s t := by
  cases c <;> cases h
  case orderFrame => exact kept_takeFrame fun t => (keeps_takeOrder _).serves
  case unknownClass => exact kept_replyOnly fun t => (Keeps.refl t).addReply _
  case payloadLengthDiscard => exact kept_takeFrame fun t => (Keeps.refl t).unanswered.serves
  case unknownManageCommand => exact kept_replyOnly fun t => (Keeps.refl t).refuse _ _ _
  case run => exact kept_settled fun t => keeps_checked keeps_runEngine
  case stopHold => exact kept_settled fun t => keeps_checked keeps_stopHold
  case stopRelease => exact kept_settled fun t => keeps_checked keeps_stopRelease
  case stepOn => exact kept_replyOnly fun t => keeps_checked fun _ => ((Keeps.refl t).setGate _).answer _ _ _ _
  case stepOff => exact kept_replyOnly fun t => keeps_checked fun _ => ((Keeps.refl t).setGate _).answer _ _ _ _
  case clearFault => exact kept_settled fun t => keeps_checked keeps_clearFault
  case readResume => exact kept_replyOnly fun t => keeps_checked keeps_readResume
  case linkReset => exact kept_linkReset
  case readStatus => exact kept_replyOnly fun t => keeps_readStatus _
  case ackEvents => exact kept_replyOnly fun t => keeps_checked keeps_ackEvents
  case setNoticeMask => exact kept_replyOnly fun t => keeps_checked keeps_setNoticeMask
  case clearTraps => exact kept_replyOnly fun t => keeps_checked keeps_clearTraps
  case setSettings => exact kept_settled fun t => keeps_checked keeps_setSettings
  case readSettings => exact kept_replyOnly fun t => keeps_checked fun _ => (Keeps.refl t).answer _ _ _ _
  case loadEntryStockWrite => exact kept_replyOnly fun t => keeps_checked keeps_writeStock
  case loadEntryStockDelete => exact kept_replyOnly fun t => keeps_checked keeps_deleteStock
  case loadEntryPatternWrite => exact kept_replyOnly fun t => keeps_checked keeps_writePattern
  case loadEntryPatternEmpty => exact kept_replyOnly fun t => keeps_checked keeps_emptyPattern
  case loadEntryTemplateWrite => exact kept_replyOnly fun t => keeps_checked keeps_writeTemplate
  case loadEntryTemplateEmpty => exact kept_replyOnly fun t => keeps_checked keeps_emptyTemplate
  case loadEntryFee => exact kept_replyOnly fun t => keeps_checked keeps_writeFee
  case loadEntryBadSelector => exact kept_replyOnly fun t => keeps_checked fun _ => (Keeps.refl t).unanswered
  case readEntryStock => exact kept_replyOnly fun t => keeps_checked keeps_readStock
  case readEntryPattern => exact kept_replyOnly fun t => keeps_checked keeps_readPattern
  case readEntryTemplate => exact kept_replyOnly fun t => keeps_checked keeps_readTemplate
  case readEntryFee => exact kept_replyOnly fun t => keeps_checked keeps_readFee
  case loadRoll => exact kept_settled fun t => keeps_checked keeps_loadRoll
  case closeRoll => exact kept_settled fun t => keeps_checked keeps_closeRoll
  case resyncRoll => exact kept_replyOnly fun t => keeps_checked keeps_resyncRoll
  case readRollMap => exact kept_replyOnly fun t => keeps_checked keeps_readRollMap
  case cancelOrder => exact kept_settled fun t => keeps_checked keeps_cancelOrder
  case readOrder => exact kept_replyOnly fun t => keeps_checked keeps_readOrder
  case discardLabels => exact kept_settled fun t => keeps_checked keeps_discardLabels
  case openAccount => exact kept_replyOnly fun t => keeps_checkedNaming keeps_openAccount
  case readAccount => exact kept_replyOnly fun t => keeps_checkedNaming keeps_readAccount
  case setCeiling => exact kept_replyOnly fun t => keeps_checkedNaming fun x => keeps_onAccount (keeps_putCeiling x)
  case suspendAccount => exact kept_replyOnly fun t => keeps_checkedNaming fun _ => keeps_onAccount (keeps_putOpen _)
  case reopenAccount => exact kept_replyOnly fun t => keeps_checkedNaming fun _ => keeps_onAccount (keeps_putOpen _)
  case credit => exact kept_replyOnly fun t => keeps_checkedNaming keeps_credit
  case clearCharged => exact kept_replyOnly fun t => keeps_checkedNaming keeps_clearCharged
  case deleteAccount => exact kept_replyOnly fun t => keeps_checkedNaming fun _ => keeps_onAccount keeps_dropAccount
  case directLoad => exact kept_takeFrame fun t => (keeps_judgeDirect _ _ _).serves
  case directReturn => exact kept_takeFrame fun t => (keeps_judgeDirect _ _ _).serves
  case directScan => exact kept_takeFrame fun t => (keeps_judgeDirect _ _ _).serves
  case directSpot => exact kept_takeFrame fun t => (keeps_judgeDirect _ _ _).serves
  case directAdvance => exact kept_takeFrame fun t => (keeps_judgeDirect _ _ _).serves
  case directReadCount => exact kept_takeFrame fun t => (keeps_judgeDirect _ _ _).serves
  case directTestShutter => exact kept_takeFrame fun t => (keeps_judgeDirect _ _ _).serves
  case directPrint => exact kept_takeFrame fun t => (keeps_judgeDirect _ _ _).serves
  case directUnknownCommand => exact kept_takeFrame fun t => (keeps_judgeDirect _ _ _).serves
  all_goals exact .refl _

theorem kept_testTaking (h : Kept s u) : Kept s (testTaking v u) :=
  testTaking_keeps (P := Kept s) (fun _ _ _ hk he => hk.trans (execDesk_kept he)) v u h

end Sys2Proof.Machine
end

section
/-!
SUPPORT. What every event of the stand bus, the firing and the link keeps, and the statements O4 and O7 from it, with the
part of O6 on reply entries.
-/

namespace Sys2Proof.Machine

variable {a r : Nat} {s t u v w : State}

/-! ## Polls (R169 to R172) -/

theorem Keeps.silentSlot (h : Keeps a r s u) (k : UnitSlot) : Keeps a r s (silentSlot k u) := by
  have h1 := h.updSlot k (f := fun x => { x with poll := none }) fun _ => rfl
  unfold Machine.silentSlot
  dsimp only
  split
  exacts [h1, h1.changeSlot _ _, h1.slotLost _ _]

theorem Keeps.sendPoll (h : Keeps a r s u) (k : UnitSlot) : Keeps a r s (sendPoll k u) := by
  unfold Machine.sendPoll
  dsimp only
  split
  · exact h
  · exact h.same (by simp) (deferred_setSlot_same (by rfl))

theorem Keeps.pollSlot (h : Keeps a r s u) (k : UnitSlot) : Keeps a r s (pollSlot k u) := by
  unfold Machine.pollSlot
  split
  exacts [(h.silentSlot k).sendPoll k, h.sendPoll k]

theorem Keeps.pollSlots (h : Keeps a r s u) (l : List UnitSlot) :
    Keeps a r s (l.foldl (fun t k => Machine.pollSlot k t) u) := by
  induction l generalizing u with
  | nil => exact h
  | cons k l ih => exact ih (h.pollSlot k)

theorem Keeps.handOnPresent (h : Keeps a r s u) (k : UnitSlot) (p : Presence) : Keeps a r s (handOnPresent k p u) := by
  unfold Machine.handOnPresent
  split
  · split
    exacts [h.updSlot _ fun _ => by rfl, h]
  · exact h
  · exact h.updRoll _ _
  · exact h.updRoll _ _
  · split
    exacts [(h.updSlot _ fun _ => by rfl).tryPrint, h]

theorem Keeps.takePresence (h : Keeps a r s u) (k : UnitSlot) (p : Presence) : Keeps a r s (takePresence k p u) := by
  have h1 := h.updSlot k (f := fun x => { x with poll := none }) fun _ => rfl
  unfold Machine.takePresence
  dsimp only
  split
  · exact (h1.changeSlot _ _).handOnPresent _ _
  · split
    exacts [h1.changeSlot _ _, h1]

theorem Keeps.statusEvents (h : Keeps a r s u) (k : UnitSlot) (x : StatusReport) : Keeps a r s (statusEvents k x u) := by
  unfold Machine.statusEvents
  split
  · exact h.updSlot _ fun _ => by rfl
  · exact h
  · split
    exacts [h.slotLost _ _, h]
  · split
    · have h1 := h.updSlot k (f := fun x => { x with printer := some .ready }) fun _ => rfl
      dsimp only
      split
      exacts [h1.tryPrint, h1]
    · exact h

theorem Keeps.takeStatus (h : Keeps a r s u) (k : UnitSlot) (x : StatusReport) : Keeps a r s (takeStatus k x u) := by
  have h1 := h.updSlot k (f := fun x => { x with poll := none }) fun _ => rfl
  unfold Machine.takeStatus
  dsimp only
  split
  exacts [h1.statusEvents _ _, h1.slotLost _ _]

/-! ## Completions (R174) -/

/-- Everything a completion's handling answers is the deferred reply of the command it completes. -/
theorem kept_completion {k : UnitSlot} {x : Nat} {accepts : Outstanding → Bool} {handle : Outstanding → State → State}
    (hh : ∀ o t, accepts o = true → Keeps (if o.issuer.deferred then 1 else 0) 0 t (handle o t))
    (he : completion k x accepts handle s = .next t) : Kept s t := by
  unfold completion at he
  split at he
  · next o ho =>
    obtain ⟨ho, hacc⟩ := Option.filter_eq_some_iff.mp ho
    obtain ⟨ho, -⟩ := Option.filter_eq_some_iff.mp ho
    cases he
    exact (((Keeps.refl s).cleared (q := 0) (hh o _ hacc) (by simp [clearOutstanding]) (deferred_clearOutstanding ho)).sendNext k).settle.kept
  · cases he
    exact .refl s

/-- The handling of a command that no reply waits for. -/
theorem kept_completion_of_silent {k : UnitSlot} {x : Nat} {accepts : Outstanding → Bool}
    {handle : Outstanding → State → State} (hi : ∀ o, accepts o = true → o.issuer.deferred = false)
    (hh : ∀ o t, Keeps 0 0 t (handle o t)) (he : completion k x accepts handle s = .next t) : Kept s t :=
  kept_completion (fun o t ha => by rw [hi o ha]; exact hh o t) he

theorem deferred_of_isFor {name : CmdName} {i : Issuer} (hi : i.deferred = false) {o : Outstanding}
    (h : isFor name i o = true) : o.issuer.deferred = false := by
  simp only [isFor, Bool.and_eq_true, beq_iff_eq] at h
  rw [h.2, hi]

theorem deferred_of_isFor_and {name : CmdName} {i : Issuer} (hi : i.deferred = false) {b : Bool} {o : Outstanding}
    (h : (isFor name i o && b) = true) : o.issuer.deferred = false :=
  deferred_of_isFor hi (Bool.and_eq_true _ _ ▸ h).1

theorem deferred_of_meterIssuer {name : CmdName} {b : Bool} {o : Outstanding} (h : (meterIssuer name o && b) = true) :
    o.issuer.deferred = false := by
  simp only [meterIssuer, Bool.and_eq_true, Bool.or_eq_true, beq_iff_eq] at h
  obtain ⟨⟨-, h | h⟩, -⟩ := h <;> rw [h] <;> rfl

/-! ### The feeder and the meter (R29, R36, R49 to R52) -/

/-- Densities are written into the records of a list of orders. -/
theorem Keeps.writes (h : Keeps a r s u) {α : Type} (n : α → Nat) (d : Order → Nat) (l : List α) :
    Keeps a r s (l.foldl (fun t x => Machine.updOrder (n x) (fun o => { o with density := some (d o) }) t) u) := by
  induction l generalizing u with
  | nil => exact h
  | cons x l ih => exact ih (h.updOrder _ fun _ => .of_eq (by rfl) (by rfl) (by rfl))

theorem Keeps.writeFixedDensities (h : Keeps a r s u) : Keeps a r s (writeFixedDensities u) := by
  unfold Machine.writeFixedDensities
  split
  exacts [h, h.writes _ _ _]

theorem Keeps.afterLoad (h : Keeps a r s u) : Keeps a r s (afterLoad u) := by
  have h1 := h.updVisit fun v => { v with slide := true }
  unfold Machine.afterLoad
  dsimp only
  split
  · exact h1
  · split
    · exact h1
    · split
      · exact h1.enterReturning
      · split
        exacts [h1.writeFixedDensities.enterExposing, h1.enterMetering]

theorem Keeps.gateJam (h : Keeps a r s u) : Keeps a r s (gateJam u) := by
  unfold Machine.gateJam
  split
  exacts [h.keepFailure _, h.raiseFault _]

theorem Keeps.emptyLoad (h : Keeps a r s u) : Keeps a r s (emptyLoad u) := by
  unfold Machine.emptyLoad
  split
  exacts [h, (h.failOrders _ _).enterReturning]

theorem Keeps.loadDone (h : Keeps a r s u) (x : LoadResult) : Keeps a r s (loadDone x u) := by
  cases x
  exacts [h.afterLoad, h.emptyLoad, h.gateJam]

theorem Keeps.returnDone (h : Keeps a r s u) (x : ReturnResult) : Keeps a r s (returnDone x u) := by
  cases x
  · have h1 := h.updVisit fun v => { v with slide := false }
    unfold Machine.returnDone
    dsimp only
    split
    exacts [h1, h1.closeVisit]
  · exact h.gateJam

theorem Keeps.judgeMetering (h : Keeps a r s u) : Keeps a r s (judgeMetering u) := by
  unfold Machine.judgeMetering
  dsimp only
  have h1 := (h.setTimer { u.timer with lamp := false }).updVisit fun v => { v with metering := false, rereads := [] }
  generalize Machine.updVisit _ _ = t at h1
  have h2 := (h1.failOrders .meterFail (meterFailed t)).writes id
    (fun o => effectiveDensity o (zoneTable (Machine.failOrders .meterFail (meterFailed t) t)))
    (memberNumbers (Machine.failOrders .meterFail (meterFailed t) t))
  split
  · exact h2
  · split
    exacts [Keeps.enterReturning h2, Keeps.enterExposing h2]

theorem Keeps.nextReread (h : Keeps a r s u) : Keeps a r s (nextReread u) := by
  unfold Machine.nextReread
  split
  exacts [h.issue _ _ (by rfl), h.judgeMetering]

theorem Keeps.scanDone (h : Keeps a r s u) (x : ScanResult) : Keeps a r s (scanDone x u) := (h.updVisit _).nextReread

theorem Keeps.spotDone (h : Keeps a r s u) (z : Nat) (x : Reading) : Keeps a r s (spotDone z x u) :=
  (h.updVisit _).nextReread

/-! ### Advances (R77 to R79, R90 to R97, R183) -/

theorem Keeps.judgeCount (h : Keeps a r s u) (k : Back) (f : FrameRec) (x : AdvanceResult) (c : Nat) :
    Keeps a r s (judgeCount k f x c u) := by
  unfold Machine.judgeCount
  dsimp only
  split
  · exact h.enterClosing _ _
  · split
    · exact h.enterClosing _ _
    · split
      exacts [(h.enterSuspect _).raiseFault _, h]

theorem Keeps.resolveFrame (h : Keeps a r s u) (k : Back) (f : FrameRec) (x : AdvanceResult) (c m : Nat) :
    Keeps a r s (resolveFrame k f x c m u) := by
  have h1 := (((((((h.dropFrame k).writeFrame k f.position (completedEntry f m)).recordCount k c).judgeCount
    k f x c).applyOutcome k f m).clearOwed k).redoAfter k f m u).chargeOutcome k f m
  unfold Machine.resolveFrame
  dsimp only
  split
  exacts [h1, h1.composeLabel _ _]

theorem Keeps.finishIfClosing (h : Keeps a r s u) (k : Back) : Keeps a r s (finishIfClosing k u) := by
  unfold Machine.finishIfClosing
  split
  exacts [(h.finishClose k).drainReports, h]

theorem Keeps.tellLimit (h : Keeps a r s u) (f : FrameRec) (b : State) : Keeps a r s (tellLimit f b u) := by
  unfold Machine.tellLimit
  split
  exacts [h.tellFault, h]

theorem Keeps.advanceDone (h : Keeps a r s u) (k : Back) (x : AdvanceResult) (c m : Nat) :
    Keeps a r s (advanceDone k x c m u) := by
  unfold Machine.advanceDone
  split
  · exact h.clearOwed k
  · exact ((((((h.resolveFrame _ _ _ _ _).tellLimit _ _).completeCancels.finishIfClosing _).cutOutcome
      _ _ _).stepHold _).testVisit).tryPrint

theorem Keeps.leaderMismatch (h : Keeps a r s u) (k : Back) : Keeps a r s (leaderMismatch k u) :=
  (h.enterSuspect k).raiseFault _

theorem Keeps.leaderDone (h : Keeps a r s u) (k : Back) (x : AdvanceResult) (c : Nat) : Keeps a r s (leaderDone k x c u) := by
  have h1 := (h.updRoll k fun x => { x with leaderRemaining := 0 }).recordCount k c
  unfold Machine.leaderDone
  dsimp only
  split
  · exact h1.closeRollFor _ _
  · split
    exacts [h1.updRoll _ _, h1.leaderMismatch _]

theorem Keeps.passThroughDone (h : Keeps a r s u) (k : Back) (n : Nat) (x : AdvanceResult) (c : Nat) :
    Keeps a r s (passThroughDone k n x c u) := by
  have h1 (m : Nat) := (h.updRoll k fun x => { x with leaderRemaining := m }).recordCount k c
  unfold Machine.passThroughDone
  dsimp only
  split
  · exact (h1 _).closeRollFor _ _
  · split
    · exact (h1 _).leaderMismatch _
    · split
      exacts [((h1 _).updRoll _ _).raise _, h1 _]

theorem Keeps.answerPass (h : Keeps a r s u) (tag : Option Byte) (k : Back) (x : AdvanceResult) (c : Nat) :
    Keeps (a + if tag.isSome then 1 else 0) r s (answerPass tag k x c u) := h.drainReports.answerDeferred _ tag _ _ _

theorem Keeps.adoptCount (h : Keeps a r s u) (k : Back) (c : Nat) : Keeps a r s (adoptCount k c u) := by
  have h1 (n : Nat) (f : Roll → Roll) := (h.chargeFrames .blank k n).updRoll k f
  unfold Machine.adoptCount
  dsimp only
  split
  exacts [(h1 _ _).closeRollFor _ _, ((h1 _ _).updRoll _ _).clearOwed _]

theorem Keeps.resyncDone (h : Keeps a r s u) (k : Back) (tag : Option Byte) (c : Nat) :
    Keeps (a + if tag.isSome then 1 else 0) r s (resyncDone k tag c u) := by
  have h1 := h.recordCount k c
  unfold Machine.resyncDone
  dsimp only
  by_cases hc : c ≤ (u.roll k).counter
  · rw [if_pos hc]; exact h1.answerDeferred _ tag _ _ _
  · rw [if_neg hc]; exact (h1.adoptCount _ _).drainReports.answerDeferred _ tag _ _ _

theorem Keeps.directDone (h : Keeps a r s u) (k : UnitSlot) (o : Outstanding) (x : DirectResult) :
    Keeps (a + if o.issuer.directTag.isSome then 1 else 0) r s (directDone k o x u) := by
  refine Keeps.answerDeferred ?_ _ _ _ _ _
  unfold directEffect
  split
  · split
    exacts [h.recordCount _ _, h]
  · exact h

theorem Keeps.printDone (h : Keeps a r s u) (x : PrintResult) : Keeps a r s (printDone x u) := by
  have hq : (if u.labels.printing then u.labels.queue.tail else u.labels.queue).length ≤ u.labels.queue.length := by
    split <;> simp
  unfold Machine.printDone
  cases x
  · have h1 := h.setLabels (l := { u.labels with
      queue := if u.labels.printing then u.labels.queue.tail else u.labels.queue, printing := false }) hq.trans (by rfl)
    dsimp only
    by_cases hp : u.labels.printing = true
    · rw [if_pos hp]; exact h1.testVisit
    · rw [if_neg hp]; exact h1
  · exact Keeps.raise (Keeps.updSlot (h.setLabels (l := { u.labels with printing := false }) id (by rfl)) _ fun _ => by rfl) _

theorem deferred_isDirect {o : Outstanding} (h : o.issuer.isDirect = true) :
    (if o.issuer.deferred then 1 else 0) = 0 + if o.issuer.directTag.isSome then 1 else 0 := by
  cases hi : o.issuer <;> simp [hi, Issuer.isDirect] at h
  simp only [Issuer.deferred, Issuer.directTag, Nat.zero_add]
  rfl

theorem deferred_isResync {o : Outstanding} (h : o.issuer.isResync = true) :
    (if o.issuer.deferred then 1 else 0) = 0 + if o.issuer.resyncTag.isSome then 1 else 0 := by
  cases hi : o.issuer <;> simp [hi, Issuer.isResync] at h
  simp only [Issuer.deferred, Issuer.resyncTag, Nat.zero_add]
  rfl

/-! ## Firings (R70 to R75) -/

theorem Keeps.expireAt (h : Keeps a r s u) (c : Nat) (f : Firing) : Keeps a r s (expireAt c f u) := by
  have h1 : Keeps a r s (closeShutters c f u) := h.setTimer _
  unfold Machine.expireAt
  dsimp only
  split
  · unfold lampFalls
    split
    exacts [h1.endFiring, h1.abortFiring]
  · split
    exacts [h1.abortFiring, h1]

/-! ## Power-on, and the bytes of the link (R184, R193) -/

theorem capacities_reset : Capacities State.reset := by unfold Capacities; decide

theorem recordsAgree_reset : RecordsAgree State.reset := by unfold RecordsAgree; decide

theorem replyEntries_reset : ReplyEntries State.reset := by unfold ReplyEntries; decide

theorem buffer_judgeFrame (c x : Byte) (n : Nat) (got : List Byte) (l : Link) (h : l.buffer.length ≤ 4) :
    (judgeFrame c x n got l).buffer.length ≤ 4 := by
  unfold judgeFrame
  dsimp only
  split
  · next hc =>
    rw [List.length_append, List.length_singleton]
    exact hc.2
  · exact h

/-- A byte received changes the receiver and the buffer alone, which stays within its capacity. -/
theorem receive_eq (l : Link) (x : Byte) : ∃ v b, l.receive x = { l with receiver := v, buffer := b } ∧
    (l.buffer.length ≤ 4 → b.length ≤ 4) := by
  unfold Link.receive
  split
  · split
    exacts [⟨_, _, rfl, id⟩, ⟨l.receiver, l.buffer, rfl, id⟩]
  · exact ⟨_, _, rfl, id⟩
  · exact ⟨_, _, rfl, id⟩
  · split
    exacts [⟨_, _, rfl, id⟩, ⟨_, _, rfl, id⟩]
  · next c t n got _ =>
    split
    · exact ⟨_, _, rfl, id⟩
    · refine ⟨.hunt, (judgeFrame c t n (got ++ [x]) { l with receiver := .hunt }).buffer, ?_,
        buffer_judgeFrame c t n (got ++ [x]) { l with receiver := .hunt }⟩
      unfold judgeFrame
      dsimp only
      split <;> rfl

theorem kept_receive (x : Byte) : Kept s (s.setLink (s.link.receive x)) := by
  obtain ⟨v, b, he, hb⟩ := receive_eq s.link x
  rw [he]
  exact kept_setLink hb (by simp)

/-! ## Every event -/

/-- What a command's outcome keeps of the state it starts from. -/
def KeptBy (s : State) (o : Out) : Prop := ∀ t, o = .next t → Kept s t

theorem keptBy_next (h : Kept s t) : KeptBy s (.next t) := fun _ he => Host.Outcome.next.inj he ▸ h

theorem keptBy_settle (h : Keeps 0 0 s u) : KeptBy s (.next (settle u)) := keptBy_next h.settle.kept

theorem keptBy_same : KeptBy s (.next s) := keptBy_next (.refl s)

theorem execPowerOn_kept : KeptBy s (execPowerOn s) :=
  keptBy_next ⟨fun _ => capacities_reset, fun _ _ => recordsAgree_reset, fun _ => replyEntries_reset⟩

theorem execByteReceived_kept (x : Byte) : KeptBy s (execByteReceived x s) :=
  keptBy_next (kept_testTaking (kept_receive x))

theorem execDeskReadyActive_kept : KeptBy s (execDeskReadyActive s) :=
  keptBy_next (kept_testTaking
    (Keeps.transmit ((Keeps.refl s).setLink (l := { s.link with deskReady := true }) (by simp))).kept)

theorem execUpstreamFrameSent_kept : KeptBy s (execUpstreamFrameSent s) := by
  unfold execUpstreamFrameSent
  split
  · exact keptBy_same
  · exact keptBy_next (kept_testTaking
      (Keeps.transmit ((Keeps.refl s).setLink (l := { s.link with sending := none }) (by simp))).kept)

theorem execPollExpiry_kept : KeptBy s (execPollExpiry s) :=
  keptBy_settle (Keeps.setBus ((Keeps.refl s).pollSlots _) rfl)

theorem execPresenceAnswer_kept (k : UnitSlot) (x : Nat) (p : Presence) : KeptBy s (execPresenceAnswer k x p s) := by
  unfold execPresenceAnswer
  split
  exacts [keptBy_settle ((Keeps.refl s).takePresence k p), keptBy_same]

theorem execStatusAnswer_kept (k : UnitSlot) (x : Nat) (p : StatusReport) : KeptBy s (execStatusAnswer k x p s) := by
  unfold execStatusAnswer
  split
  exacts [keptBy_settle ((Keeps.refl s).takeStatus k p), keptBy_same]

theorem execScanCompletion_kept (x : Nat) (p : ScanResult) : KeptBy s (execScanCompletion x p s) := fun _ h => by
  refine kept_completion_of_silent (fun _ => deferred_of_meterIssuer) (fun _ t => ?_) h
  split
  exacts [(Keeps.refl t).scanDone _, .refl t]

theorem execSpotCompletion_kept (x : Nat) (p : Reading) : KeptBy s (execSpotCompletion x p s) := fun _ h => by
  refine kept_completion_of_silent (fun _ => deferred_of_meterIssuer) (fun _ t => ?_) h
  split
  exacts [(Keeps.refl t).spotDone _ _, .refl t]

theorem execAdvanceCompletion_kept (k : Back) (x : Nat) (p : AdvanceResult) (c m : Nat) :
    KeptBy s (execAdvanceCompletion k x p c m s) := fun _ h => by
  refine kept_completion_of_silent (fun _ ho => ?_) (fun _ t => (Keeps.refl t).advanceDone _ _ _ _) h
  exact deferred_of_isFor_and rfl (Bool.and_eq_true _ _ ▸ ho).1

theorem execPassThroughCompletion_kept (k : Back) (x : Nat) (p : AdvanceResult) (c : Nat) :
    KeptBy s (execPassThroughCompletion k x p c s) := fun _ h => by
  refine kept_completion (fun o t ho => ?_) h
  simp only [Bool.and_eq_true] at ho
  rw [deferred_isDirect ho.1.2]
  refine Keeps.testReturning (Keeps.answerPass ?_ _ _ _ _)
  split
  exacts [(Keeps.refl t).passThroughDone _ _ _ _, .refl t]

theorem execReadCountCompletion_kept (k : Back) (x c : Nat) : KeptBy s (execReadCountCompletion k x c s) := fun _ h => by
  refine kept_completion (fun o t ho => ?_) h
  rw [deferred_isResync (Bool.and_eq_true _ _ ▸ ho).1]
  exact ((Keeps.refl t).resyncDone _ _ _).testReturning

theorem execDirectCompletion_kept (k : UnitSlot) (x : Nat) (p : DirectResult) : KeptBy s (execDirectCompletion k x p s) :=
  fun _ h => by
    refine kept_completion (fun o t ho => ?_) h
    simp only [Bool.and_eq_true] at ho
    rw [deferred_isDirect ho.1.1]
    exact ((Keeps.refl t).directDone _ _ _).tryPrint

theorem execDetachingAnswer_kept (k : Back) (x : Nat) : KeptBy s (execDetachingAnswer k x s) := by
  unfold execDetachingAnswer
  split
  exacts [keptBy_same, keptBy_settle ((Keeps.refl s).slotLost _ _)]

theorem execUnitCommandTimeout_kept (k : UnitSlot) : KeptBy s (execUnitCommandTimeout k s) := by
  unfold execUnitCommandTimeout
  split
  · exact keptBy_same
  · next ho => exact keptBy_settle ((Keeps.refl s).commandTimeout ho)

theorem execLampRiseExpiry_kept : KeptBy s (execLampRiseExpiry s) := by
  unfold execLampRiseExpiry
  split
  exacts [keptBy_same, keptBy_settle ((Keeps.refl s).setTimer _)]

theorem execShutterFallExpiry_kept (k : Back) : KeptBy s (execShutterFallExpiry k s) := by
  unfold execShutterFallExpiry
  split
  · exact keptBy_same
  · split
    exacts [keptBy_same, keptBy_settle ((Keeps.refl s).expireAt _ _)]

theorem execLampFallExpiry_kept : KeptBy s (execLampFallExpiry s) := by
  unfold execLampFallExpiry
  split
  exacts [keptBy_same, keptBy_settle ((Keeps.refl s).expireAt _ _)]

theorem execSenseDeadlineExpiry_kept : KeptBy s (execSenseDeadlineExpiry s) := by
  unfold execSenseDeadlineExpiry
  split
  exacts [keptBy_same, keptBy_settle ((Keeps.refl s).expireAt _ _)]

theorem execLampSenseActive_kept : KeptBy s (execLampSenseActive s) := by
  unfold execLampSenseActive
  dsimp only
  split
  exacts [keptBy_next ((Keeps.refl s).setTimer _).kept, keptBy_settle (((Keeps.refl s).setTimer _).setTimer _)]

theorem execLampSenseInactive_kept : KeptBy s (execLampSenseInactive s) := by
  unfold execLampSenseInactive
  dsimp only
  split
  exacts [keptBy_next ((Keeps.refl s).setTimer _).kept, keptBy_settle ((Keeps.refl s).setTimer _).abortFiring]

/-! ## Every step -/

theorem exec_kept (c : Instr) : KeptBy s (exec c s) := by
  have desk (t : State) := execDesk_kept (s := s) (t := t) (c := c)
  cases c
  case powerOn => exact execPowerOn_kept
  case deskFrameReceived => exact execByteReceived_kept _
  case byteReceived => exact execByteReceived_kept _
  case byteGapExpiry => exact keptBy_next (kept_setLink (by exact id) (by simp))
  case deskReadyInactive => exact keptBy_next (kept_setLink (by exact id) (by simp))
  case deskReadyActive => exact execDeskReadyActive_kept
  case upstreamFrameSent => exact execUpstreamFrameSent_kept
  case pollExpiry => exact execPollExpiry_kept
  case presenceAnswer => exact execPresenceAnswer_kept _ _ _
  case statusAnswer => exact execStatusAnswer_kept _ _ _
  case loadCompletion =>
    exact fun _ => kept_completion_of_silent (fun _ => deferred_of_isFor rfl) (fun _ t => (Keeps.refl t).loadDone _)
  case returnCompletion =>
    exact fun _ => kept_completion_of_silent (fun _ => deferred_of_isFor rfl) (fun _ t => (Keeps.refl t).returnDone _)
  case scanCompletion => exact execScanCompletion_kept _ _
  case spotCompletion => exact execSpotCompletion_kept _ _
  case advanceCompletion => exact execAdvanceCompletion_kept _ _ _ _ _
  case leaderCompletion =>
    exact fun _ => kept_completion_of_silent (fun _ => deferred_of_isFor_and rfl)
      (fun _ t => ((Keeps.refl t).leaderDone _ _ _).drainReports.testReturning)
  case blankingCompletion =>
    exact fun _ => kept_completion_of_silent (fun _ => deferred_of_isFor_and rfl)
      (fun _ t => (((Keeps.refl t).recordCount _ _).finishClose _).drainReports)
  case passThroughCompletion => exact execPassThroughCompletion_kept _ _ _ _
  case readCountCompletion => exact execReadCountCompletion_kept _ _ _
  case directCompletion => exact execDirectCompletion_kept _ _ _
  case printCompletion =>
    exact fun _ => kept_completion_of_silent (fun _ => deferred_of_isFor rfl)
      (fun _ t => ((Keeps.refl t).printDone _).tryPrint)
  case detachingAnswer => exact execDetachingAnswer_kept _ _
  case unitCommandTimeout => exact execUnitCommandTimeout_kept _
  case lampRiseExpiry => exact execLampRiseExpiry_kept
  case shutterFallExpiry => exact execShutterFallExpiry_kept _
  case lampFallExpiry => exact execLampFallExpiry_kept
  case senseDeadlineExpiry => exact execSenseDeadlineExpiry_kept
  case lampSenseActive => exact execLampSenseActive_kept
  case lampSenseInactive => exact execLampSenseInactive_kept
  all_goals exact desk

theorem step_kept (h : step s = .next t) : Kept s t := by
  unfold step at h
  split at h
  · cases h; exact .refl s
  · next c rest _ => exact Kept.trans (u := s.setPending rest) ⟨id, fun _ => id, id⟩ (exec_kept c t h)

/-- Settles O4: every operation keeps the capacities. -/
theorem capacitiesAreKept : Obligations.CapacitiesAreKept := fun _ _ hs h => (step_kept h).capacities hs

/-- Settles O7: every operation keeps the records in agreement, within the capacities. -/
theorem recordsAgreementIsKept : Obligations.RecordsAgreementIsKept := fun _ _ hc hr h => (step_kept h).records hc hr

end Sys2Proof.Machine
end

section
/-!
SUPPORT. What every command leaves of the queue of waiting commands, the tables, the settings, the label templates and the
fees (R42, R64, R107, R132, R196), the settings kept in their ranges (R196, R197), and the statements O2, O3 and O6 from it.
-/

namespace Sys2Proof.Machine

variable {s t u v : State}

/-! ## The parts that few commands change -/

/-- The parts that change at their own commands alone. -/
inductive OwnPart where
  | tables
  | settings
  | templates
  | fees

/-- The queue of waiting commands stands as it was, and so do the tables, the settings, the label templates and the fees,
but for the part named. -/
structure Stays (e : Option OwnPart) (s t : State) : Prop where
  pending : t.pending = s.pending
  tables : e ≠ some .tables → t.tables = s.tables
  settings : e ≠ some .settings → t.settings = s.settings
  templates : e ≠ some .templates → t.labels.templates = s.labels.templates
  fees : e ≠ some .fees → t.charge.fees = s.charge.fees

variable {e : Option OwnPart}

/-- An operation that leaves all five. -/
theorem Stays.of_frame (h : t.pending = s.pending ∧ t.tables = s.tables ∧ t.settings = s.settings ∧
    t.labels.templates = s.labels.templates ∧ t.charge.fees = s.charge.fees) : Stays e s t := by
  obtain ⟨hp, ht, hx, hl, hf⟩ := h
  exact ⟨hp, fun _ => ht, fun _ => hx, fun _ => hl, fun _ => hf⟩

theorem Stays.trans (h : Stays e s u) (g : Stays e u t) : Stays e s t :=
  ⟨g.pending.trans h.pending, fun n => (g.tables n).trans (h.tables n), fun n => (g.settings n).trans (h.settings n),
    fun n => (g.templates n).trans (h.templates n), fun n => (g.fees n).trans (h.fees n)⟩

theorem Stays.settle (h : Stays e s u) : Stays e s (settle u) := h.trans (.of_frame (by simp))

theorem Stays.answer (h : Stays e s u) (tag : Byte) (c : Nat) (x : Result) (d : ReplyData) :
    Stays e s (answer tag c x d u) := h.trans (.of_frame (by simp))

/-! ## The frames of desk commands -/

theorem stays_takeFrame {c : Instr} {act : State → State} (h : ∀ t, Stays e t (act t)) :
    Stays e s (takeFrame c act s) := by
  unfold takeFrame
  split
  · next t ht =>
    obtain ⟨-, b, -, rfl⟩ := taken_eq_some ht
    exact Stays.trans (.of_frame (by simp)) (h _)
  · exact .of_frame (by simp)

theorem stays_deskAct {c : Instr} {act : State → State} (h : ∀ t, Stays e t (act t)) : Stays e s (deskAct c act s) :=
  stays_takeFrame fun t => (h t).settle

section
variable {α : Type} {tag : Byte} {code : Nat}

theorem stays_answer {x : Result} {d : ReplyData} : Stays e u (answer tag code x d u) := .of_frame (by simp)

theorem stays_refuse {x : Reason} : Stays e u (refuse tag code x u) := stays_answer

theorem stays_checked {f : Fields α} {body : α → State → State} (h : ∀ x, Stays e u (body x u)) :
    Stays e u (checked tag code f body u) := by
  unfold checked
  split
  · exact stays_answer
  · split
    exacts [stays_answer, h _]

theorem stays_checkedNaming {f : Fields α} {data : α → ReplyData} {body : α → State → State}
    (h : ∀ x, Stays e u (body x u)) : Stays e u (checkedNaming tag code f data body u) := by
  unfold checkedNaming
  split
  · exact stays_checked h
  · split
    exacts [stays_answer, h _]

/-! ## The desk commands -/

theorem stays_runEngine (x : Unit) : Stays e u (runEngine tag x u) := by
  unfold runEngine
  split <;> exact .of_frame (by simp [refuse])

@[simp] theorem restOrStop_frame : (restOrStop u).pending = u.pending ∧ (restOrStop u).tables = u.tables ∧
    (restOrStop u).settings = u.settings ∧ (restOrStop u).labels = u.labels ∧ (restOrStop u).charge = u.charge := by
  unfold restOrStop
  split <;> simp

theorem stays_stopHold (x : Unit) : Stays e u (stopHold tag x u) := by
  unfold stopHold
  (repeat' split) <;> exact .of_frame (by simp)

@[simp] theorem release_frame : (release u).pending = u.pending ∧ (release u).tables = u.tables ∧
    (release u).settings = u.settings ∧ (release u).labels.templates = u.labels.templates ∧
    (release u).charge.fees = u.charge.fees := by
  simp [release]

theorem stays_stopRelease (x : Unit) : Stays e u (stopRelease tag x u) := by
  unfold stopRelease
  (repeat' split) <;> first | exact stays_refuse | exact .of_frame (by simp)

theorem stays_removeFault : Stays e u (removeFault tag u) := by
  unfold removeFault
  dsimp only
  (repeat' split) <;> exact .of_frame (by simp)

theorem stays_clearFault (x : Unit) : Stays e u (clearFault tag x u) := by
  unfold clearFault
  split
  exacts [stays_removeFault, stays_refuse]

theorem stays_readResume (x : Unit) : Stays e u (readResume tag x u) := by
  unfold readResume
  split <;> exact stays_answer

theorem stays_linkReset (x : Unit) : Stays e u (linkReset tag x u) := .of_frame (by simp [linkReset])

theorem stays_readStatus (f : Fields Unit) : Stays e u (readStatus tag f u) := by
  cases f <;> exact stays_answer

theorem stays_ackEvents (x : EventSet) : Stays e u (ackEvents tag x u) := by
  rw [ackEvents_eq_answer]
  exact Stays.answer (s := u) (u := acknowledged x u) (.of_frame ⟨rfl, rfl, rfl, rfl, rfl⟩) _ _ _ _

/-- A command on the settings. -/
theorem stays_putSettings (x : Settings) : Stays (some .settings) u (u.setSettings x) :=
  ⟨rfl, fun _ => rfl, nofun, fun _ => rfl, fun _ => rfl⟩

theorem stays_setNoticeMask (x : EventSet) : Stays (some .settings) u (setNoticeMask tag x u) :=
  (stays_putSettings _).answer _ _ _ _

theorem Stays.testVisit (h : Stays e s u) : Stays e s (testVisit u) := h.trans (.of_frame (by simp))

theorem stays_setSettings (x : List SettingItem) : Stays (some .settings) u (setSettings tag x u) := by
  unfold setSettings
  split
  · exact stays_refuse
  · unfold writeSettings
    dsimp only
    split
    exacts [(stays_putSettings _).answer _ _ _ _, ((stays_putSettings _).answer _ _ _ _).testVisit]

/-- A command on the Stock or Bracket Pattern Table. -/
theorem stays_setTables (x : Calc) : Stays (some .tables) u (u.setTables x) :=
  ⟨rfl, nofun, fun _ => rfl, fun _ => rfl, fun _ => rfl⟩

theorem stays_writeStock (x : StockFields) : Stays (some .tables) u (writeStock tag x u) := by
  unfold writeStock
  split
  exacts [stays_refuse, (stays_setTables _).answer _ _ _ _]

theorem stays_deleteStock (x : Nat) : Stays (some .tables) u (deleteStock tag x u) := by
  unfold deleteStock
  split
  exacts [stays_refuse, (stays_setTables _).answer _ _ _ _]

theorem stays_writePattern (x : PatternFields) : Stays (some .tables) u (writePattern tag x u) := by
  unfold writePattern
  split
  exacts [(stays_setTables _).answer _ _ _ _, stays_refuse]

theorem stays_emptyPattern (x : Nat) : Stays (some .tables) u (emptyPattern tag x u) := by
  unfold emptyPattern
  split
  · exact stays_refuse
  · split
    exacts [stays_refuse, (stays_setTables _).answer _ _ _ _]

/-- A command on the label templates. -/
theorem stays_setTemplates (x : Labels) : Stays (some .templates) u (u.setLabels x) :=
  ⟨rfl, fun _ => rfl, fun _ => rfl, nofun, fun _ => rfl⟩

theorem stays_writeTemplate (x : TemplateFields) : Stays (some .templates) u (writeTemplate tag x u) := by
  unfold writeTemplate
  split
  · exact stays_refuse
  · split
    exacts [stays_refuse, (stays_setTemplates _).answer _ _ _ _]

theorem stays_emptyTemplate (x : Nat) : Stays (some .templates) u (emptyTemplate tag x u) := by
  unfold emptyTemplate
  split
  · exact stays_refuse
  · split
    · exact stays_refuse
    · split
      exacts [stays_refuse, (stays_setTemplates _).answer _ _ _ _]

/-- A command on the fees. -/
theorem stays_setFees (x : Charge) : Stays (some .fees) u (u.setCharge x) :=
  ⟨rfl, fun _ => rfl, fun _ => rfl, fun _ => rfl, nofun⟩

theorem stays_writeFee (x : FeeFields) : Stays (some .fees) u (writeFee tag x u) := by
  unfold writeFee
  split
  exacts [stays_refuse, (stays_setFees _).answer _ _ _ _]

theorem stays_readStock (x : Option Nat) : Stays e u (readStock tag x u) := by
  unfold readStock
  (repeat' split) <;> exact stays_answer

theorem stays_readPattern (x : Option Nat) : Stays e u (readPattern tag x u) := by
  unfold readPattern
  (repeat' split) <;> exact stays_answer

theorem stays_readTemplate (x : Option Nat) : Stays e u (readTemplate tag x u) := by
  unfold readTemplate
  (repeat' split) <;> exact stays_answer

theorem stays_readFee (x : Option Nat) : Stays e u (readFee tag x u) := by
  unfold readFee
  (repeat' split) <;> exact stays_answer

theorem stays_loadRoll (x : LoadRollFields) : Stays e u (loadRoll tag x u) := by
  unfold loadRoll
  (repeat' split) <;> first | exact stays_refuse | exact .of_frame (by simp)

theorem stays_closeRoll (x : Nat) : Stays e u (closeRoll tag x u) := by
  unfold closeRoll
  (repeat' split) <;> first | exact stays_refuse | exact .of_frame (by simp)

@[simp] theorem reserve_frame : (reserve u).pending = u.pending ∧ (reserve u).events = u.events ∧
    (reserve u).queue = u.queue ∧ (reserve u).gate = u.gate ∧ (reserve u).tables = u.tables ∧
    (reserve u).timer = u.timer ∧ (reserve u).rolls = u.rolls ∧ (reserve u).labels = u.labels ∧
    (reserve u).charge = u.charge ∧ (reserve u).bus = u.bus ∧ (reserve u).settings = u.settings := by
  simp [reserve]

theorem stays_resyncRoll (x : Nat) : Stays e u (resyncRoll tag x u) := by
  unfold resyncRoll
  (repeat' split) <;> first | exact stays_refuse | exact .of_frame (by simp)

theorem stays_readRollMap (x : RollMapFields) : Stays e u (readRollMap tag x u) := by
  unfold readRollMap
  dsimp only
  (repeat' split) <;> exact stays_answer

theorem stays_cancelOrder (x : Nat) : Stays e u (cancelOrder tag x u) := by
  unfold cancelOrder markCancelled
  dsimp only
  (repeat' split) <;> first | exact stays_refuse | exact .of_frame (by simp)

theorem stays_readOrder (x : Nat) : Stays e u (readOrder tag x u) := by
  unfold readOrder
  split <;> exact stays_answer

theorem stays_discardLabels (x : Unit) : Stays e u (discardLabels tag x u) := by
  unfold discardLabels
  dsimp only
  split <;> exact .of_frame (by simp)

theorem stays_openAccount (x : AccountSum) : Stays e u (openAccount tag x u) := by
  unfold openAccount refuseAccount
  (repeat' split) <;> exact .of_frame (by simp)

theorem stays_readAccount (x : Option Nat) : Stays e u (readAccount tag x u) := by
  unfold readAccount
  (repeat' split) <;> exact stays_answer

theorem stays_onAccount {n : Nat} {act : Account → State → State} (h : ∀ x, Stays e u (act x u)) :
    Stays e u (onAccount tag code n act u) := by
  unfold onAccount
  split
  · exact stays_answer
  · split
    exacts [stays_answer, h _]

theorem stays_putCeiling (x : AccountSum) (y : Account) : Stays e u (putCeiling tag x y u) := by
  unfold putCeiling
  split <;> exact .of_frame (by simp)

theorem stays_putOpen {n : Nat} (b : Bool) (y : Account) : Stays e u (putOpen tag code n b y u) :=
  Stays.answer (.of_frame (by simp)) _ _ _ _

theorem stays_credit (x : AccountSum) : Stays e u (credit tag x u) := by
  unfold credit refuseAccount
  dsimp only
  (repeat' split) <;> exact .of_frame (by simp)

theorem stays_clearCharged (x : Nat) : Stays e u (clearCharged tag x u) := by
  unfold clearCharged refuseAccount
  (repeat' split) <;> exact .of_frame (by simp)

theorem stays_dropAccount {n : Nat} (y : Account) : Stays e u (dropAccount tag n y u) := by
  unfold dropAccount refuseAccount
  split <;> exact .of_frame (by simp)

@[simp] theorem answerDirect_frame (c : Nat) (x : Result) (d : ReplyData) :
    (answerDirect tag c x d u).pending = u.pending ∧ (answerDirect tag c x d u).events = u.events ∧
    (answerDirect tag c x d u).queue = u.queue ∧ (answerDirect tag c x d u).gate = u.gate ∧
    (answerDirect tag c x d u).tables = u.tables ∧ (answerDirect tag c x d u).timer = u.timer ∧
    (answerDirect tag c x d u).rolls = u.rolls ∧ (answerDirect tag c x d u).labels = u.labels ∧
    (answerDirect tag c x d u).charge = u.charge ∧ (answerDirect tag c x d u).bus = u.bus ∧
    (answerDirect tag c x d u).settings = u.settings := by
  simp [answerDirect]

@[simp] theorem beginSequence_frame (k : UnitSlot) (c : UnitCmd) :
    (beginSequence k c u).pending = u.pending ∧ (beginSequence k c u).link = u.link ∧
    (beginSequence k c u).events = u.events ∧ (beginSequence k c u).queue = u.queue ∧
    (beginSequence k c u).gate = u.gate ∧ (beginSequence k c u).tables = u.tables ∧
    (beginSequence k c u).timer = u.timer ∧ (beginSequence k c u).labels = u.labels ∧
    (beginSequence k c u).charge = u.charge ∧ (beginSequence k c u).bus = u.bus ∧
    (beginSequence k c u).settings = u.settings := by
  unfold beginSequence
  split <;> simp

theorem stays_judgeDirect (unit : Byte) (c : Option UnitCmd) : Stays e u (judgeDirect tag unit code c u) := by
  unfold judgeDirect judgeSlot trap forward
  dsimp only
  (repeat' split) <;> exact .of_frame (by simp)

@[simp] theorem answerOrder_frame (x : Result) (d : ReplyData) :
    (answerOrder tag x d u).pending = u.pending ∧ (answerOrder tag x d u).events = u.events ∧
    (answerOrder tag x d u).queue = u.queue ∧ (answerOrder tag x d u).gate = u.gate ∧
    (answerOrder tag x d u).tables = u.tables ∧ (answerOrder tag x d u).timer = u.timer ∧
    (answerOrder tag x d u).rolls = u.rolls ∧ (answerOrder tag x d u).labels = u.labels ∧
    (answerOrder tag x d u).charge = u.charge ∧ (answerOrder tag x d u).bus = u.bus ∧
    (answerOrder tag x d u).settings = u.settings := by
  simp [answerOrder]

theorem stays_takeOrder (x : OrderFields) : Stays e u (takeOrder tag x u) := by
  unfold takeOrder admitOrder
  dsimp only
  (repeat' split) <;> exact .of_frame (by simp)

end

/-- The part a desk command may change. -/
def ownPart : Instr → Option OwnPart
  | .loadEntryStockWrite _ _ => some .tables
  | .loadEntryStockDelete _ _ => some .tables
  | .loadEntryPatternWrite _ _ => some .tables
  | .loadEntryPatternEmpty _ _ => some .tables
  | .setSettings _ _ => some .settings
  | .setNoticeMask _ _ => some .settings
  | .loadEntryTemplateWrite _ _ => some .templates
  | .loadEntryTemplateEmpty _ _ => some .templates
  | .loadEntryFee _ _ => some .fees
  | _ => none

/-- The outcome goes on, and leaves what it does not own. -/
def StaysBy (e : Option OwnPart) (s : State) (o : Out) : Prop := ∃ t, o = .next t ∧ Stays e s t

theorem staysBy_next (h : Stays e s t) : StaysBy e s (.next t) := ⟨t, rfl, h⟩

theorem execDesk_stays (c : Instr) (s : State) : StaysBy (ownPart c) s (execDesk c s) := by
  cases c
  case orderFrame => exact staysBy_next (stays_takeFrame fun t => stays_takeOrder _)
  case unknownClass => exact staysBy_next (stays_takeFrame fun t => .of_frame (by simp))
  case payloadLengthDiscard => exact staysBy_next (stays_takeFrame fun t => .of_frame (by simp))
  case unknownManageCommand => exact staysBy_next (stays_takeFrame fun t => stays_refuse)
  case run => exact staysBy_next (stays_deskAct fun t => stays_checked stays_runEngine)
  case stopHold => exact staysBy_next (stays_deskAct fun t => stays_checked stays_stopHold)
  case stopRelease => exact staysBy_next (stays_deskAct fun t => stays_checked stays_stopRelease)
  case stepOn => exact staysBy_next (stays_takeFrame fun t => stays_checked fun _ => Stays.answer (.of_frame (by simp)) _ _ _ _)
  case stepOff => exact staysBy_next (stays_takeFrame fun t => stays_checked fun _ => Stays.answer (.of_frame (by simp)) _ _ _ _)
  case clearFault => exact staysBy_next (stays_deskAct fun t => stays_checked stays_clearFault)
  case readResume => exact staysBy_next (stays_takeFrame fun t => stays_checked stays_readResume)
  case linkReset => exact staysBy_next (stays_deskAct fun t => stays_checked stays_linkReset)
  case readStatus => exact staysBy_next (stays_takeFrame fun t => stays_readStatus _)
  case ackEvents => exact staysBy_next (stays_takeFrame fun t => stays_checked stays_ackEvents)
  case setNoticeMask => exact staysBy_next (stays_takeFrame fun t => stays_checked stays_setNoticeMask)
  case clearTraps => exact staysBy_next (stays_takeFrame fun t => stays_checked fun _ => Stays.answer (.of_frame (by simp)) _ _ _ _)
  case setSettings => exact staysBy_next (stays_deskAct fun t => stays_checked stays_setSettings)
  case readSettings => exact staysBy_next (stays_takeFrame fun t => stays_checked fun _ => stays_answer)
  case loadEntryStockWrite => exact staysBy_next (stays_takeFrame fun t => stays_checked stays_writeStock)
  case loadEntryStockDelete => exact staysBy_next (stays_takeFrame fun t => stays_checked stays_deleteStock)
  case loadEntryPatternWrite => exact staysBy_next (stays_takeFrame fun t => stays_checked stays_writePattern)
  case loadEntryPatternEmpty => exact staysBy_next (stays_takeFrame fun t => stays_checked stays_emptyPattern)
  case loadEntryTemplateWrite => exact staysBy_next (stays_takeFrame fun t => stays_checked stays_writeTemplate)
  case loadEntryTemplateEmpty => exact staysBy_next (stays_takeFrame fun t => stays_checked stays_emptyTemplate)
  case loadEntryFee => exact staysBy_next (stays_takeFrame fun t => stays_checked stays_writeFee)
  case loadEntryBadSelector => exact staysBy_next (stays_takeFrame fun t => stays_checked fun _ => .of_frame (by simp))
  case readEntryStock => exact staysBy_next (stays_takeFrame fun t => stays_checked stays_readStock)
  case readEntryPattern => exact staysBy_next (stays_takeFrame fun t => stays_checked stays_readPattern)
  case readEntryTemplate => exact staysBy_next (stays_takeFrame fun t => stays_checked stays_readTemplate)
  case readEntryFee => exact staysBy_next (stays_takeFrame fun t => stays_checked stays_readFee)
  case loadRoll => exact staysBy_next (stays_deskAct fun t => stays_checked stays_loadRoll)
  case closeRoll => exact staysBy_next (stays_deskAct fun t => stays_checked stays_closeRoll)
  case resyncRoll => exact staysBy_next (stays_takeFrame fun t => stays_checked stays_resyncRoll)
  case readRollMap => exact staysBy_next (stays_takeFrame fun t => stays_checked stays_readRollMap)
  case cancelOrder => exact staysBy_next (stays_deskAct fun t => stays_checked stays_cancelOrder)
  case readOrder => exact staysBy_next (stays_takeFrame fun t => stays_checked stays_readOrder)
  case discardLabels => exact staysBy_next (stays_deskAct fun t => stays_checked stays_discardLabels)
  case openAccount => exact staysBy_next (stays_takeFrame fun t => stays_checkedNaming stays_openAccount)
  case readAccount => exact staysBy_next (stays_takeFrame fun t => stays_checkedNaming stays_readAccount)
  case setCeiling =>
    exact staysBy_next (stays_takeFrame fun t => stays_checkedNaming fun x => stays_onAccount (stays_putCeiling x))
  case suspendAccount =>
    exact staysBy_next (stays_takeFrame fun t => stays_checkedNaming fun _ => stays_onAccount (stays_putOpen _))
  case reopenAccount =>
    exact staysBy_next (stays_takeFrame fun t => stays_checkedNaming fun _ => stays_onAccount (stays_putOpen _))
  case credit => exact staysBy_next (stays_takeFrame fun t => stays_checkedNaming stays_credit)
  case clearCharged => exact staysBy_next (stays_takeFrame fun t => stays_checkedNaming stays_clearCharged)
  case deleteAccount =>
    exact staysBy_next (stays_takeFrame fun t => stays_checkedNaming fun _ => stays_onAccount stays_dropAccount)
  case directLoad => exact staysBy_next (stays_takeFrame fun t => stays_judgeDirect _ _)
  case directReturn => exact staysBy_next (stays_takeFrame fun t => stays_judgeDirect _ _)
  case directScan => exact staysBy_next (stays_takeFrame fun t => stays_judgeDirect _ _)
  case directSpot => exact staysBy_next (stays_takeFrame fun t => stays_judgeDirect _ _)
  case directAdvance => exact staysBy_next (stays_takeFrame fun t => stays_judgeDirect _ _)
  case directReadCount => exact staysBy_next (stays_takeFrame fun t => stays_judgeDirect _ _)
  case directTestShutter => exact staysBy_next (stays_takeFrame fun t => stays_judgeDirect _ _)
  case directPrint => exact staysBy_next (stays_takeFrame fun t => stays_judgeDirect _ _)
  case directUnknownCommand => exact staysBy_next (stays_takeFrame fun t => stays_judgeDirect _ _)
  all_goals exact staysBy_next (.of_frame (by simp))

end Sys2Proof.Machine
end

section
/-!
SUPPORT. What every event leaves of the parts that few commands change, the settings in their ranges (R196, R197), and the
statements O2, O3 and O6.
-/

namespace Sys2Proof.Machine

variable {s t u v : State} {e : Option OwnPart}

/-! ## The taking of waiting frames (R186) -/

/-- The taking of waiting frames leaves the queue of waiting commands. -/
theorem testTaking_pending (h : u.pending = s.pending) : (testTaking v u).pending = s.pending := by
  refine testTaking_keeps (P := fun t => t.pending = s.pending) (fun f t w ht he => ?_) v u h
  obtain ⟨w', he', hstays⟩ := execDesk_stays (Desk.decode f) t
  rw [he'] at he
  cases he
  exact hstays.pending.trans ht

/-- With nothing joined and no entry freed nothing is taken. -/
theorem testTaking_self : testTaking s s = s := by simp [testTaking]

/-- What an operation that leaves all five parts adds. -/
theorem Stays.onto (h : Stays e s u) (hv : v.pending = u.pending ∧ v.tables = u.tables ∧ v.settings = u.settings ∧
    v.labels.templates = u.labels.templates ∧ v.charge.fees = u.charge.fees) : Stays e s v := h.trans (.of_frame hv)

/-! ## The events of the stand -/

theorem staysBy_settle (h : Stays e s u) : StaysBy e s (.next (settle u)) := staysBy_next h.settle

theorem staysBy_same : StaysBy e s (.next s) := staysBy_next (.of_frame (by simp))

@[simp] theorem silentSlot_frame (k : UnitSlot) : (silentSlot k u).pending = u.pending ∧
    (silentSlot k u).tables = u.tables ∧ (silentSlot k u).settings = u.settings ∧
    (silentSlot k u).labels.templates = u.labels.templates ∧ (silentSlot k u).charge.fees = u.charge.fees := by
  unfold silentSlot
  dsimp only
  split <;> simp

@[simp] theorem sendPoll_frame (k : UnitSlot) : (sendPoll k u).pending = u.pending ∧ (sendPoll k u).link = u.link ∧
    (sendPoll k u).events = u.events ∧ (sendPoll k u).queue = u.queue ∧ (sendPoll k u).gate = u.gate ∧
    (sendPoll k u).tables = u.tables ∧ (sendPoll k u).timer = u.timer ∧ (sendPoll k u).rolls = u.rolls ∧
    (sendPoll k u).labels = u.labels ∧ (sendPoll k u).charge = u.charge ∧ (sendPoll k u).settings = u.settings := by
  unfold sendPoll
  dsimp only
  split <;> simp

theorem stays_pollSlot (k : UnitSlot) : Stays e u (pollSlot k u) := by
  unfold pollSlot
  split <;> exact .of_frame (by simp)

theorem stays_pollSlots (l : List UnitSlot) : Stays e u (l.foldl (fun t k => pollSlot k t) u) := by
  induction l generalizing u with
  | nil => exact .of_frame (by simp)
  | cons k l ih => exact (stays_pollSlot k).trans ih

theorem stays_takePresence (k : UnitSlot) (p : Presence) : Stays e u (takePresence k p u) := by
  unfold takePresence handOnPresent
  dsimp only
  (repeat' split) <;> exact .of_frame (by simp)

theorem stays_takeStatus (k : UnitSlot) (x : StatusReport) : Stays e u (takeStatus k x u) := by
  unfold takeStatus statusEvents
  dsimp only
  (repeat' split) <;> exact .of_frame (by simp)

theorem staysBy_completion {k : UnitSlot} {x : Nat} {accepts : Outstanding → Bool} {handle : Outstanding → State → State}
    (h : ∀ o t, Stays e t (handle o t)) : StaysBy e s (completion k x accepts handle s) := by
  unfold completion resolve
  split
  · next o _ => exact staysBy_settle (Stays.trans (.of_frame (by simp)) (Stays.trans (h o (clearOutstanding k s)) (.of_frame (by simp))))
  · exact staysBy_same

/-- Densities written into the records of a list of orders leave the rest. -/
theorem stays_writes {α : Type} (n : α → Nat) (d : Order → Nat) (l : List α) :
    Stays e u (l.foldl (fun t x => updOrder (n x) (fun o => { o with density := some (d o) }) t) u) := by
  induction l generalizing u with
  | nil => exact .of_frame (by simp)
  | cons x l ih => exact Stays.trans (.of_frame (by simp)) ih

theorem stays_gateJam : Stays e u (gateJam u) := by
  unfold gateJam
  split <;> exact .of_frame (by simp)

theorem stays_writeFixedDensities : Stays e u (writeFixedDensities u) := by
  unfold writeFixedDensities
  split
  exacts [(.of_frame (by simp)), stays_writes _ _ _]

theorem stays_afterLoad : Stays e u (afterLoad u) := by
  have h1 : Stays e u (updVisit (fun v => { v with slide := true }) u) := .of_frame (by simp)
  unfold afterLoad
  dsimp only
  split
  · exact h1
  · split
    · exact h1
    · split
      · exact h1.trans (.of_frame (by simp))
      · split
        · exact (h1.trans stays_writeFixedDensities).onto (by simp)
        · exact h1.trans (.of_frame (by simp))

theorem stays_loadDone (x : LoadResult) : Stays e u (loadDone x u) := by
  cases x
  · exact stays_afterLoad
  · unfold loadDone emptyLoad
    dsimp only
    split <;> exact .of_frame (by simp)
  · exact stays_gateJam

theorem stays_returnDone (x : ReturnResult) : Stays e u (returnDone x u) := by
  cases x
  · unfold returnDone
    dsimp only
    split <;> exact .of_frame (by simp)
  · exact stays_gateJam

theorem stays_judgeMetering : Stays e u (judgeMetering u) := by
  unfold judgeMetering
  dsimp only
  have h1 : Stays e u (updVisit (fun v => { v with metering := false, rereads := [] })
      (u.setTimer { u.timer with lamp := false })) := .of_frame (by simp)
  generalize updVisit _ _ = t at h1
  have h2 : Stays e u (writeDensities (failOrders .meterFail (meterFailed t) t)) :=
    (h1.trans (.of_frame (by simp))).trans (stays_writes id _ _)
  split
  · exact h2
  · split <;> exact h2.trans (.of_frame (by simp))

theorem stays_nextReread : Stays e u (nextReread u) := by
  unfold nextReread
  split
  exacts [(.of_frame (by simp)), stays_judgeMetering]

theorem stays_scanDone (x : ScanResult) : Stays e u (scanDone x u) := Stays.trans (.of_frame (by simp)) stays_nextReread

theorem stays_spotDone (z : Nat) (x : Reading) : Stays e u (spotDone z x u) := Stays.trans (.of_frame (by simp)) stays_nextReread

theorem stays_judgeCount (k : Back) (f : FrameRec) (x : AdvanceResult) (c : Nat) : Stays e u (judgeCount k f x c u) := by
  unfold judgeCount
  dsimp only
  (repeat' split) <;> exact .of_frame (by simp)

theorem stays_resolveFrame (k : Back) (f : FrameRec) (x : AdvanceResult) (c m : Nat) :
    Stays e u (resolveFrame k f x c m u) := by
  have h1 : Stays e u (chargeOutcome k f m (redoAfter k f m u (clearOwed k (applyOutcome k f m (judgeCount k f x c
      (recordCount k c (writeFrame k f.position (completedEntry f m) (dropFrame k u)))))))) :=
    (Stays.trans (u := recordCount k c (writeFrame k f.position (completedEntry f m) (dropFrame k u))) (.of_frame (by simp))
      (stays_judgeCount k f x c)).onto (by simp)
  unfold resolveFrame
  dsimp only
  split
  exacts [h1, h1.trans (.of_frame (by simp))]

theorem stays_advanceDone (k : Back) (x : AdvanceResult) (c m : Nat) : Stays e u (advanceDone k x c m u) := by
  have hl (f : FrameRec) (b t : State) : Stays e t (tellLimit f b t) := by
    unfold tellLimit
    split <;> exact .of_frame (by simp)
  have hc (t : State) : Stays e t (finishIfClosing k t) := by
    unfold finishIfClosing
    split <;> exact .of_frame (by simp)
  unfold advanceDone
  split
  · exact .of_frame (by simp)
  · next f _ =>
    have h1 : Stays e u (completeCancels (tellLimit f u (resolveFrame k f x c m u))) :=
      ((stays_resolveFrame k f x c m).trans (hl f u _)).onto (by simp)
    exact (h1.trans (hc _)).onto (by simp)

theorem stays_leaderMismatch (k : Back) : Stays e u (leaderMismatch k u) := by
  unfold leaderMismatch
  exact .of_frame (by simp)

theorem stays_leaderDone (k : Back) (x : AdvanceResult) (c : Nat) : Stays e u (leaderDone k x c u) := by
  unfold leaderDone
  dsimp only
  split
  · exact .of_frame (by simp)
  · split
    exacts [(.of_frame (by simp)), Stays.trans (.of_frame (by simp)) (stays_leaderMismatch k)]

theorem stays_passThroughDone (k : Back) (n : Nat) (x : AdvanceResult) (c : Nat) :
    Stays e u (passThroughDone k n x c u) := by
  unfold passThroughDone endSequence
  dsimp only
  split
  · exact .of_frame (by simp)
  · split
    · exact Stays.trans (.of_frame (by simp)) (stays_leaderMismatch k)
    · split <;> exact .of_frame (by simp)

theorem stays_answerDeferred {cls : Byte} {tag : Option Byte} {c : Nat} {x : Result} {d : ReplyData} :
    Stays e u (answerDeferred cls tag c x d u) := .of_frame (by simp)

theorem stays_resyncDone (k : Back) (tag : Option Byte) (c : Nat) : Stays e u (resyncDone k tag c u) := by
  have ha (t : State) : Stays e t (adoptCount k c t) := by
    unfold adoptCount
    dsimp only
    split <;> exact .of_frame (by simp)
  unfold resyncDone
  dsimp only
  split
  · exact .of_frame (by simp)
  · exact (Stays.trans (.of_frame (by simp)) (ha (recordCount k c u))).onto (by simp)

theorem stays_directDone (k : UnitSlot) (o : Outstanding) (x : DirectResult) : Stays e u (directDone k o x u) := by
  unfold directDone directEffect
  (repeat' split) <;> exact .of_frame (by simp)

theorem stays_printDone (x : PrintResult) : Stays e u (printDone x u) := by
  unfold printDone
  dsimp only
  (repeat' split) <;> exact .of_frame (by simp)

theorem stays_expireAt (c : Nat) (f : Firing) : Stays e u (expireAt c f u) := by
  unfold expireAt closeShutters lampFalls
  dsimp only
  (repeat' split) <;> exact .of_frame (by simp)

/-! ## Every command -/

/-- An event of the link that may have waiting frames taken. -/
def takesFrames : Instr → Bool
  | .deskFrameReceived _ => true
  | .byteReceived _ => true
  | .deskReadyActive => true
  | .upstreamFrameSent => true
  | _ => false

theorem stays_answerPass (tag : Option Byte) (k : Back) (r : AdvanceResult) (c : Nat) :
    Stays e u (answerPass tag k r c u) := by
  unfold answerPass
  exact .of_frame (by simp)

theorem stays_completedPass {tag : Option Byte} (k : Back) (r : AdvanceResult) (c n : Nat) :
    Stays e u (testReturning (answerPass tag k r c
      (if (u.roll k).state = .leader then passThroughDone k n r c u else u))) := by
  split
  · exact ((stays_passThroughDone k n r c).trans (stays_answerPass tag k r c)).onto (by simp)
  · exact (stays_answerPass tag k r c).onto (by simp)

theorem staysBy_presenceAnswer (k : UnitSlot) (x : Nat) (p : Presence) :
    StaysBy e s (execPresenceAnswer k x p s) := by
  unfold execPresenceAnswer
  split
  exacts [staysBy_settle (stays_takePresence _ _), staysBy_same]

theorem staysBy_statusAnswer (k : UnitSlot) (x : Nat) (p : StatusReport) : StaysBy e s (execStatusAnswer k x p s) := by
  unfold execStatusAnswer
  split
  exacts [staysBy_settle (stays_takeStatus _ _), staysBy_same]

theorem staysBy_scanCompletion (x : Nat) (p : ScanResult) : StaysBy e s (execScanCompletion x p s) :=
  staysBy_completion fun _ _ => by
    split
    exacts [stays_scanDone _, (.of_frame (by simp))]

theorem staysBy_spotCompletion (x : Nat) (p : Reading) : StaysBy e s (execSpotCompletion x p s) :=
  staysBy_completion fun _ _ => by
    split
    exacts [stays_spotDone _ _, (.of_frame (by simp))]

theorem staysBy_detachingAnswer (k : Back) (x : Nat) : StaysBy e s (execDetachingAnswer k x s) := by
  unfold execDetachingAnswer
  split
  exacts [staysBy_same, staysBy_settle (.of_frame (by simp))]

theorem staysBy_unitCommandTimeout (k : UnitSlot) : StaysBy e s (execUnitCommandTimeout k s) := by
  unfold execUnitCommandTimeout
  split
  exacts [staysBy_same, staysBy_settle (.of_frame (by simp))]

theorem staysBy_lampRiseExpiry : StaysBy e s (execLampRiseExpiry s) := by
  unfold execLampRiseExpiry
  split
  exacts [staysBy_same, staysBy_settle (.of_frame (by simp))]

theorem staysBy_shutterFallExpiry (k : Back) : StaysBy e s (execShutterFallExpiry k s) := by
  unfold execShutterFallExpiry
  split
  · exact staysBy_same
  · split
    exacts [staysBy_same, staysBy_settle (stays_expireAt _ _)]

theorem staysBy_lampFallExpiry : StaysBy e s (execLampFallExpiry s) := by
  unfold execLampFallExpiry
  split
  exacts [staysBy_same, staysBy_settle (stays_expireAt _ _)]

theorem staysBy_senseDeadlineExpiry : StaysBy e s (execSenseDeadlineExpiry s) := by
  unfold execSenseDeadlineExpiry
  split
  exacts [staysBy_same, staysBy_settle (stays_expireAt _ _)]

theorem staysBy_lampSenseActive : StaysBy e s (execLampSenseActive s) := by
  unfold execLampSenseActive
  dsimp only
  split
  exacts [staysBy_next (.of_frame (by simp)), staysBy_settle (.of_frame (by simp))]

theorem staysBy_lampSenseInactive : StaysBy e s (execLampSenseInactive s) := by
  unfold execLampSenseInactive
  dsimp only
  split
  exacts [staysBy_next (.of_frame (by simp)), staysBy_settle (.of_frame (by simp))]

/-- Every command but POWER_ON and the events that take waiting frames leaves what it does not own. -/
theorem exec_stays (c : Instr) (s : State) (hp : c ≠ .powerOn) (hl : takesFrames c = false) :
    StaysBy (ownPart c) s (exec c s) := by
  have desk := execDesk_stays c s
  cases c
  case powerOn => exact absurd rfl hp
  case deskFrameReceived => cases hl
  case byteReceived => cases hl
  case deskReadyActive => cases hl
  case upstreamFrameSent => cases hl
  case byteGapExpiry => exact staysBy_next (.of_frame (by simp))
  case deskReadyInactive => exact staysBy_next (.of_frame (by simp))
  case pollExpiry => exact staysBy_settle ((stays_pollSlots allSlots).trans (.of_frame (by simp)))
  case presenceAnswer => exact staysBy_presenceAnswer _ _ _
  case statusAnswer => exact staysBy_statusAnswer _ _ _
  case loadCompletion => exact staysBy_completion fun _ _ => stays_loadDone _
  case returnCompletion => exact staysBy_completion fun _ _ => stays_returnDone _
  case scanCompletion => exact staysBy_scanCompletion _ _
  case spotCompletion => exact staysBy_spotCompletion _ _
  case advanceCompletion => exact staysBy_completion fun _ _ => stays_advanceDone _ _ _ _
  case leaderCompletion k x r c => exact staysBy_completion fun _ _ => (stays_leaderDone k r c).onto (by simp)
  case blankingCompletion => exact staysBy_completion fun _ _ => .of_frame (by simp)
  case passThroughCompletion => exact staysBy_completion fun _ _ => stays_completedPass _ _ _ _
  case readCountCompletion k x c => exact staysBy_completion fun o _ => (stays_resyncDone k o.issuer.resyncTag c).onto (by simp)
  case directCompletion k x r => exact staysBy_completion fun o _ => (stays_directDone k o r).onto (by simp)
  case printCompletion x r => exact staysBy_completion fun _ _ => (stays_printDone r).onto (by simp)
  case detachingAnswer => exact staysBy_detachingAnswer _ _
  case unitCommandTimeout => exact staysBy_unitCommandTimeout _
  case lampRiseExpiry => exact staysBy_lampRiseExpiry
  case shutterFallExpiry => exact staysBy_shutterFallExpiry _
  case lampFallExpiry => exact staysBy_lampFallExpiry
  case senseDeadlineExpiry => exact staysBy_senseDeadlineExpiry
  case lampSenseActive => exact staysBy_lampSenseActive
  case lampSenseInactive => exact staysBy_lampSenseInactive
  all_goals exact desk

theorem takesFrames_upstreamFrameSent : ∃ u, execUpstreamFrameSent s = .next (testTaking s u) ∧ Stays none s u := by
  unfold execUpstreamFrameSent
  split
  exacts [⟨s, by rw [testTaking_self], (.of_frame (by simp))⟩, ⟨_, rfl, (.of_frame (by simp))⟩]

/-- An event of the link that may have waiting frames taken changes none of the parts itself. -/
theorem exec_takesFrames (c : Instr) (s : State) (h : takesFrames c = true) :
    ∃ u, exec c s = .next (testTaking s u) ∧ Stays none s u := by
  cases c
  case deskFrameReceived => exact ⟨_, rfl, (.of_frame (by simp))⟩
  case byteReceived => exact ⟨_, rfl, (.of_frame (by simp))⟩
  case deskReadyActive => exact ⟨_, rfl, (.of_frame (by simp))⟩
  case upstreamFrameSent => exact takesFrames_upstreamFrameSent
  all_goals exact absurd (show false = true from h) Bool.false_ne_true

end Sys2Proof.Machine
end

section
/-!
The settings in their ranges (R196, R197), and the statements O2, O3 and O6.
-/

namespace Sys2Proof.Machine

variable {s t u : State}

/-! ## Every command goes on -/

/-- Settles O2. -/
theorem everyCommandGoesOn : Obligations.EveryCommandGoesOn := by
  intro c s
  by_cases hp : c = .powerOn
  · subst hp
    exact ⟨_, rfl, rfl⟩
  · cases hl : takesFrames c
    · obtain ⟨t, ht, hs⟩ := exec_stays c s hp hl
      exact ⟨t, ht, hs.pending⟩
    · obtain ⟨u, hu, hs⟩ := exec_takesFrames c s hl
      exact ⟨_, hu, testTaking_pending hs.pending⟩

/-! ## The commands that own a part -/

theorem takesFrames_eq_false {c : Instr} (h1 : ∀ x, c ≠ .deskFrameReceived x) (h2 : ∀ x, c ≠ .byteReceived x)
    (h3 : c ≠ .deskReadyActive) (h4 : c ≠ .upstreamFrameSent) : takesFrames c = false := by
  unfold takesFrames
  split
  exacts [absurd rfl (h1 _), absurd rfl (h2 _), absurd rfl h3, absurd rfl h4, rfl]

theorem owner_of_tables {c : Instr} (h : ownPart c = some .tables) :
    (∃ tag f, c = .loadEntryStockWrite tag f) ∨ (∃ tag f, c = .loadEntryStockDelete tag f) ∨
      (∃ tag f, c = .loadEntryPatternWrite tag f) ∨ ∃ tag f, c = .loadEntryPatternEmpty tag f := by
  unfold ownPart at h
  split at h <;> simp_all

theorem owner_of_settings {c : Instr} (h : ownPart c = some .settings) :
    (∃ tag f, c = .setSettings tag f) ∨ ∃ tag f, c = .setNoticeMask tag f := by
  unfold ownPart at h
  split at h <;> simp_all

theorem owner_of_templates {c : Instr} (h : ownPart c = some .templates) :
    (∃ tag f, c = .loadEntryTemplateWrite tag f) ∨ ∃ tag f, c = .loadEntryTemplateEmpty tag f := by
  unfold ownPart at h
  split at h <;> simp_all

theorem owner_of_fees {c : Instr} (h : ownPart c = some .fees) : ∃ tag f, c = .loadEntryFee tag f := by
  unfold ownPart at h
  split at h <;> simp_all

/-- Settles O3: a command leaves the parts it does not own. -/
theorem tablesChangeAtTheirOwnCommands : Obligations.TablesChangeAtTheirOwnCommands := by
  refine ⟨fun c s t ht hp h1 h2 h3 h4 => ?_, fun c x s hc => ?_⟩
  · obtain ⟨t', ht', hs⟩ := exec_stays c s hp (takesFrames_eq_false h1 h2 h3 h4)
    cases ht.symm.trans ht'
    refine ⟨fun n1 n2 n3 n4 => hs.tables fun h => ?_, fun n1 n2 => hs.settings fun h => ?_,
      fun n1 n2 => hs.templates fun h => ?_, fun n1 => hs.fees fun h => ?_⟩
    · obtain ⟨_, _, h⟩ | ⟨_, _, h⟩ | ⟨_, _, h⟩ | ⟨_, _, h⟩ := owner_of_tables h
      exacts [n1 _ _ h, n2 _ _ h, n3 _ _ h, n4 _ _ h]
    · obtain ⟨_, _, h⟩ | ⟨_, _, h⟩ := owner_of_settings h
      exacts [n1 _ _ h, n2 _ _ h]
    · obtain ⟨_, _, h⟩ | ⟨_, _, h⟩ := owner_of_templates h
      exacts [n1 _ _ h, n2 _ _ h]
    · obtain ⟨_, _, h⟩ := owner_of_fees h
      exact n1 _ _ h
  · obtain ⟨u, hu, hs⟩ := exec_takesFrames c s (by obtain rfl | rfl | rfl | rfl := hc <;> rfl)
    exact ⟨u, hu, hs.tables nofun, hs.settings nofun, hs.templates nofun, hs.fees nofun⟩

/-! ## The settings in their ranges -/

theorem clampInt_eq {lo hi v : Int} (h : lo ≤ hi) : clampInt lo hi v = max lo (min hi v) := by
  unfold clampInt
  split
  · omega
  · split <;> omega

theorem inRange_clampInt {lo hi : Nat} {v : Int} (h : lo ≤ hi) : inRange lo hi (clampInt lo hi v).toNat = true := by
  simp only [inRange, clampInt_eq (Int.ofNat_le.mpr h), Bool.and_eq_true, decide_eq_true_eq]
  omega

theorem settingClamped_eq_of_range {n : Nat} {v lo hi : Int} (h : settingRange n = some (lo, hi)) (hn : n ≠ 14) :
    settingClamped ⟨n, v⟩ = ⟨n, clampInt lo hi v⟩ := by simp [settingClamped, h, hn]

theorem settingClamped_eq_self {n : Nat} {v : Int} (h : settingRange n = none) : settingClamped ⟨n, v⟩ = ⟨n, v⟩ := by
  simp [settingClamped, h]

theorem settingClamped_item (i : SettingItem) : (settingClamped i).item = i.item := by
  unfold settingClamped
  split
  · rfl
  · split <;> rfl

/-- The value is one that the setting of number `n` can have (R196). -/
def valueFits (n : Nat) (v : Int) : Prop :=
  (∀ lo hi, settingRange n = some (lo, hi) → lo ≤ v ∧ v ≤ hi) ∧ (n = 14 → v ≠ 1 ∧ v ≠ 2) ∧
  (n = 15 → v = -1 ∨ (dateOf v).real = true)

theorem settingRange_ordered {n : Nat} {lo hi : Int} (h : settingRange n = some (lo, hi)) : lo ≤ hi := by
  unfold settingRange at h
  split at h <;> simp at h <;> omega

theorem clampInt_of_ne {n : Nat} {v lo hi : Int} (h : settingRange n = some (lo, hi)) (hn : n = 14) (h1 : v ≠ 1)
    (h2 : v ≠ 2) : clampInt lo hi v ≠ 1 ∧ clampInt lo hi v ≠ 2 := by
  subst hn
  cases h
  rw [clampInt_eq (by decide)]
  omega

/-- A good item, clamped, carries a value its setting can have. -/
theorem valueFits_settingClamped {i : SettingItem} (hi : settingGood i = true) : valueFits i.item (settingClamped i).value := by
  have h15 : i.item = 15 → i.value = -1 ∨ (dateOf i.value).real = true := by
    intro h
    simp [settingGood, h] at hi
    exact hi.2.imp id And.right
  unfold settingClamped
  split
  · next h => exact ⟨fun _ _ hr => by simp [h] at hr, fun hn => by simp [hn, settingRange] at h, h15⟩
  · next lo hi' h =>
    split
    · next h14 => exact ⟨fun _ _ hr => by rw [h14.1] at hr; cases hr; exact ⟨by norm_num, by norm_num⟩, fun _ => by simp, fun hn => by omega⟩
    · next h14 =>
      refine ⟨fun _ _ hr => ?_, fun hn => ?_, fun hn => by simp [hn, settingRange] at h⟩
      · cases h.symm.trans hr
        show lo ≤ clampInt lo hi' i.value ∧ clampInt lo hi' i.value ≤ hi'
        have := settingRange_ordered h
        rw [clampInt_eq this]
        omega
      · exact clampInt_of_ne h hn (by tauto) (by tauto)

theorem inRange_toNat {lo hi : Nat} {v : Int} (h : (lo : Int) ≤ v ∧ v ≤ hi) : inRange lo hi v.toNat = true := by
  simp only [inRange, Bool.and_eq_true, decide_eq_true_eq]
  omega

/-- A written item whose value its setting can have keeps every setting in its range. -/
theorem inRanges_writeSetting {x : Settings} {i : SettingItem} (hx : x.inRanges = true) (hi : valueFits i.item i.value) :
    (writeSetting x i).inRanges = true := by
  obtain ⟨hr, h14, h15⟩ := hi
  simp only [Settings.inRanges, Bool.and_eq_true] at hx ⊢
  unfold writeSetting
  split <;> try (rename_i hn; rw [hn] at hr h14 h15)
  case h_2 => simpa [hx, inRangeInt] using hr _ _ rfl
  case h_14 =>
    have := hr _ _ rfl
    have := h14 rfl
    simp only [hx, true_and, and_true, Bool.or_eq_true, beq_iff_eq]
    simp only [inRange, Bool.and_eq_true, decide_eq_true_eq]
    omega
  case h_15 =>
    simp only [hx, true_and, and_true]
    split
    · rfl
    · exact (h15 rfl).resolve_left ‹_›
  case h_10 => exact hx
  case h_11 => exact hx
  case h_12 => exact hx
  case h_13 => exact hx
  case h_21 => exact hx
  case h_22 => exact hx
  all_goals simpa only [hx, true_and, and_true] using inRange_toNat (hr _ _ rfl)

theorem inRanges_writtenSettings {items : List SettingItem} {x : Settings} (hx : x.inRanges = true)
    (hi : items.all settingGood = true) : (writtenSettings items x).inRanges = true := by
  unfold writtenSettings
  induction items generalizing x with
  | nil => exact hx
  | cons i l ih =>
    rw [List.all_cons, Bool.and_eq_true] at hi
    have hv := valueFits_settingClamped hi.1
    rw [← settingClamped_item] at hv
    exact ih (inRanges_writeSetting hx hv) hi.2

theorem setSettings_inRanges {tag : Byte} (items : List SettingItem) (h : s.settings.inRanges = true) :
    (setSettings tag items s).settings.inRanges = true := by
  unfold setSettings
  split
  · simpa [refuse] using h
  · next hr =>
    have hg : items.all settingGood = true := by
      simp only [settingsRefusal, Bool.not_eq_true'] at hr
      by_contra hn
      simp [hn] at hr
    unfold writeSettings
    dsimp only
    split
    · simpa using inRanges_writtenSettings h hg
    · simpa using inRanges_writtenSettings h hg

theorem setNoticeMask_inRanges {tag : Byte} (mask : EventSet) (h : s.settings.inRanges = true) :
    (setNoticeMask tag mask s).settings.inRanges = true := by
  simpa [setNoticeMask, Settings.inRanges] using h

/-- A body that keeps the settings in their ranges makes a desk command that does. -/
theorem takeFrame_inRanges {c : Instr} {act : State → State}
    (h : ∀ t : State, t.settings.inRanges = true → (act t).settings.inRanges = true) (hs : s.settings.inRanges = true) :
    (takeFrame c act s).settings.inRanges = true := by
  unfold takeFrame
  split
  · next t ht =>
    obtain ⟨-, b, -, rfl⟩ := taken_eq_some ht
    exact h _ hs
  · simpa using hs

theorem checked_inRanges {α : Type} {tag : Byte} {code : Nat} {f : Fields α} {body : α → State → State}
    (h : ∀ x, (body x s).settings.inRanges = true) (hs : s.settings.inRanges = true) :
    (checked tag code f body s).settings.inRanges = true := by
  unfold checked
  split
  · simpa using hs
  · split
    · simpa using hs
    · exact h _

theorem execDesk_inRanges {c : Instr} (hs : s.settings.inRanges = true) (h : execDesk c s = .next t) :
    t.settings.inRanges = true := by
  by_cases hc : ownPart c = some .settings
  · obtain ⟨tag, f, rfl⟩ | ⟨tag, f, rfl⟩ := owner_of_settings hc
    · cases h
      exact takeFrame_inRanges (fun u hu => by
        simpa using checked_inRanges (fun x => setSettings_inRanges x hu) hu) hs
    · cases h
      exact takeFrame_inRanges (fun u hu => checked_inRanges (fun x => setNoticeMask_inRanges x hu) hu) hs
  · obtain ⟨u, hu, hst⟩ := execDesk_stays c s
    cases h.symm.trans hu
    rw [hst.settings hc]
    exact hs

theorem exec_inRanges {c : Instr} (hs : s.settings.inRanges = true) (h : exec c s = .next t) :
    t.settings.inRanges = true := by
  by_cases hp : c = .powerOn
  · subst hp
    cases h
    exact show State.reset.settings.inRanges = true by decide
  · cases hl : takesFrames c
    · by_cases hc : ownPart c = some .settings
      · refine execDesk_inRanges (c := c) hs ?_
        obtain ⟨tag, f, rfl⟩ | ⟨tag, f, rfl⟩ := owner_of_settings hc <;> exact h
      · obtain ⟨u, hu, hst⟩ := exec_stays c s hp hl
        cases h.symm.trans hu
        rw [hst.settings hc]
        exact hs
    · obtain ⟨u, hu, hst⟩ := exec_takesFrames c s hl
      cases h.symm.trans hu
      exact testTaking_keeps (P := fun t => t.settings.inRanges = true) (fun f t w ht he => execDesk_inRanges ht he) s u
        (by rw [hst.settings nofun]; exact hs)

/-- Settles O6: the balance of reply entries, and the clamps of SET SETTINGS. -/
theorem replyEntriesAndSettingsAreKept : Obligations.ReplyEntriesAndSettingsAreKept := by
  refine ⟨fun s t hs h => (step_kept h).entries hs, fun s t hs h => ?_⟩
  unfold step at h
  split at h
  · cases h
    exact hs
  · next c rest _ => exact exec_inRanges (s := s.setPending rest) hs h

end Sys2Proof.Machine
end

section
/-!
SUPPORT. The part of the state that the agreement of the engine reads (R147, R153, R156 to R160, R163): the view of it, the
operations that leave the view as it was, and the rules of those that do not.
-/

namespace Sys2Proof.Machine

variable {s t u v : State}

/-- What the agreement of the engine, its faults, the hold and the resume record reads. -/
structure EngineView where
  engine : Engine
  stopKind : Option StopKind
  cleaning : Bool
  resuming : Bool
  held : Option Bool
  faulty : Bool
  deferred : Bool

def engineView (s : State) : EngineView :=
  { engine := s.gate.engine, stopKind := s.gate.stopKind, cleaning := s.gate.cleanup.isSome,
    resuming := s.gate.resume.isSome, held := s.gate.visit.map (fun v => v.held), faulty := s.events.current.isSome,
    deferred := s.events.pendingFault.isSome }

/-- The agreement, said of the view. -/
def EngineView.Agrees (x : EngineView) : Prop :=
  (x.engine = .faulted ↔ x.faulty = true) ∧ (x.deferred = true → x.engine = .faulted) ∧
  (x.engine = .stopping ↔ x.stopKind.isSome = true) ∧ (x.engine = .resetting ↔ x.cleaning = true) ∧
  (x.resuming = true ↔ x.held = some true) ∧
  ((x.engine = .stopped ∨ x.engine = .faulted ∨ x.stopKind = some .hold) → x.held ≠ some false) ∧
  ((x.engine = .running ∨ x.engine = .resetting ∨ x.stopKind = some .release) → x.held ≠ some true)

theorem engineAgrees_iff : EngineAgrees u ↔ (engineView u).Agrees := by
  unfold EngineAgrees EngineView.Agrees engineView State.held State.noneUnheld
  cases u.gate.visit with
  | none => simp
  | some v => cases hh : v.held <;> simp [hh]

/-- What leaves the view leaves the agreement. -/
theorem EngineAgrees.calm (h : EngineAgrees u) (hv : engineView v = engineView u) : EngineAgrees v := by
  rw [engineAgrees_iff] at h ⊢
  rwa [hv]

/-! ## Operations that leave the view -/

theorem engineView_of_gate (hg : v.gate = u.gate) (hc : v.events.current = u.events.current)
    (hp : v.events.pendingFault = u.events.pendingFault) : engineView v = engineView u := by
  simp [engineView, hg, hc, hp]

section
variable {k : Back} {n : Nat}

@[simp] theorem engineView_setLink (x : Link) : engineView (u.setLink x) = engineView u := rfl
@[simp] theorem engineView_setQueue (x : Queue) : engineView (u.setQueue x) = engineView u := rfl
@[simp] theorem engineView_setTables (x : Calc) : engineView (u.setTables x) = engineView u := rfl
@[simp] theorem engineView_setTimer (x : Timer) : engineView (u.setTimer x) = engineView u := rfl
@[simp] theorem engineView_setRolls (x : PerBack Roll) : engineView (u.setRolls x) = engineView u := rfl
@[simp] theorem engineView_setLabels (x : Labels) : engineView (u.setLabels x) = engineView u := rfl
@[simp] theorem engineView_setCharge (x : Charge) : engineView (u.setCharge x) = engineView u := rfl
@[simp] theorem engineView_setBus (x : Bus) : engineView (u.setBus x) = engineView u := rfl
@[simp] theorem engineView_setSettings (x : Settings) : engineView (u.setSettings x) = engineView u := rfl
@[simp] theorem engineView_arbiter : engineView (arbiter u) = engineView u := by simp [engineView]
@[simp] theorem engineView_raise (f : EventFlag) : engineView (raise f u) = engineView u := by simp [engineView]
@[simp] theorem engineView_addReply (x : Reply) : engineView (addReply x u) = engineView u := by simp [engineView]
@[simp] theorem engineView_answer (tag : Byte) (c : Nat) (x : Result) (d : ReplyData) :
    engineView (answer tag c x d u) = engineView u := by simp [engineView]
@[simp] theorem engineView_answerDeferred (cls : Byte) (tag : Option Byte) (c : Nat) (x : Result) (d : ReplyData) :
    engineView (answerDeferred cls tag c x d u) = engineView u := by simp [engineView]
@[simp] theorem engineView_updOrder (f : Order → Order) : engineView (updOrder n f u) = engineView u := rfl
@[simp] theorem engineView_updLive (f : Order → Order) : engineView (updLive n f u) = engineView u := rfl
@[simp] theorem engineView_updRoll (f : Roll → Roll) : engineView (updRoll k f u) = engineView u := by simp [engineView]
@[simp] theorem engineView_setLabelWait (w : Bool) : engineView (setLabelWait w u) = engineView u := rfl
@[simp] theorem engineView_updSlot (x : UnitSlot) (f : Slot → Slot) : engineView (updSlot x f u) = engineView u := by
  simp [engineView]
@[simp] theorem engineView_issue (x : UnitSlot) (c : UnitCmd) (i : Issuer) :
    engineView (issue x c i u) = engineView u := by simp [engineView]
@[simp] theorem engineView_sendNext (x : UnitSlot) : engineView (sendNext x u) = engineView u := by simp [engineView]
@[simp] theorem engineView_clearOutstanding (x : UnitSlot) : engineView (clearOutstanding x u) = engineView u := by
  simp [engineView]
@[simp] theorem engineView_chargeFrames (w : Waste) : engineView (chargeFrames w k n u) = engineView u := rfl
@[simp] theorem engineView_chargeLabel : engineView (chargeLabel u) = engineView u := rfl
@[simp] theorem engineView_updAccount (f : Account → Account) : engineView (updAccount n f u) = engineView u := rfl

@[simp] theorem engineView_updVisit {f : Visit → Visit} (hf : ∀ x, (f x).held = x.held) :
    engineView (updVisit f u) = engineView u := by
  simp [engineView, Function.comp_def, hf]

@[simp] theorem engineView_raiseTimes (f : EventFlag) : engineView (raiseTimes f n u) = engineView u := by
  induction n generalizing u with
  | zero => rfl
  | succ n ih => simp [raiseTimes, ih]

@[simp] theorem engineView_enterReport (x : Report) : engineView (enterReport x u) = engineView u := by simp [enterReport]

@[simp] theorem engineView_takeOffer (x : Offer) : engineView (takeOffer x u) = engineView u := by
  cases x <;> simp [takeOffer]

@[simp] theorem engineView_drainReports : engineView (drainReports u) = engineView u := by
  have hfuel (m : Nat) (t : State) : engineView (drainFuel m t) = engineView t := by
    induction m generalizing t with
    | zero => rfl
    | succ m ih =>
      unfold drainFuel
      (repeat' split) <;> simp [ih]
  simp [drainReports, hfuel]

@[simp] theorem engineView_settleOrder : engineView (settleOrder n u) = engineView u := by
  unfold settleOrder
  split <;> simp

@[simp] theorem engineView_removeItems : engineView (removeItems n u) = engineView u := by simp [removeItems]
@[simp] theorem engineView_removeMember : engineView (removeMember n u) = engineView u := by simp [removeMember]
@[simp] theorem engineView_tick : engineView (tick u) = engineView u := rfl

@[simp] theorem engineView_endOrder (e : EndKind) : engineView (endOrder e n u) = engineView u := by
  unfold endOrder
  (repeat' split) <;> simp

@[simp] theorem engineView_endOrders (e : EndKind) (ns : List Nat) : engineView (endOrders e ns u) = engineView u := by
  unfold endOrders
  induction ns generalizing u with
  | nil => rfl
  | cons m ns ih => simp [ih]

@[simp] theorem engineView_failOrders (c : ClassB) (ns : List Nat) : engineView (failOrders c ns u) = engineView u := by
  have hone (m : Nat) (t : State) : engineView (failOrder c m t) = engineView t := by
    unfold failOrder tellFault
    split <;> simp
  unfold failOrders
  induction ns generalizing u with
  | nil => rfl
  | cons m ns ih => simp [ih, hone]

@[simp] theorem engineView_refreshWanted : engineView (refreshWanted u) = engineView u := by simp [refreshWanted]
@[simp] theorem engineView_dropList : engineView (dropList k u) = engineView u := by simp [dropList]
@[simp] theorem engineView_clearOwed : engineView (clearOwed k u) = engineView u := by simp [clearOwed]
@[simp] theorem engineView_composeReport (c : CloseCause) : engineView (composeReport k c u) = engineView u := by
  simp [composeReport]
@[simp] theorem engineView_enterClosing (c : CloseCause) : engineView (enterClosing k c u) = engineView u := by
  simp [enterClosing]

@[simp] theorem engineView_finishClose : engineView (finishClose k u) = engineView u := by
  unfold finishClose
  split <;> simp

@[simp] theorem engineView_closeRollFor (c : CloseCause) : engineView (closeRollFor k c u) = engineView u := by
  simp [closeRollFor]

@[simp] theorem engineView_enterSuspect : engineView (enterSuspect k u) = engineView u := by
  unfold enterSuspect
  dsimp only
  split <;> simp

@[simp] theorem engineView_blankRoll : engineView (blankRoll k u) = engineView u := by simp [blankRoll]

@[simp] theorem engineView_sendLeader : engineView (sendLeader k u) = engineView u := by
  unfold sendLeader
  dsimp only
  split <;> simp

@[simp] theorem engineView_queueLabel (p : Nat) (e : MapEntry) (x : LabelRec) :
    engineView (queueLabel k p e x u) = engineView u := by
  have hpre (y : LabelRec) (t : State) : engineView (queuePreceding k y t) = engineView t := by
    unfold queuePreceding
    dsimp only
    split <;> simp
  have hframe (t : State) : engineView (queueFrame k p e x t) = engineView t := by
    unfold queueFrame
    dsimp only
    split <;> simp
  unfold queueLabel
  dsimp only
  split
  · cases preceding u k p <;> simp [hpre, hframe]
  · split <;> simp

@[simp] theorem engineView_composeLabel (p : Nat) : engineView (composeLabel k p u) = engineView u := by
  unfold composeLabel
  (repeat' split) <;> try simp only
  (repeat' split) <;> simp

@[simp] theorem engineView_tryPrint : engineView (tryPrint u) = engineView u := by
  unfold tryPrint
  split
  · rfl
  · dsimp only
    split <;> simp

@[simp] theorem engineView_recordCount (c : Nat) : engineView (recordCount k c u) = engineView u := by
  simp [recordCount]

@[simp] theorem engineView_writeFrame (p : Nat) (x : MapEntry) : engineView (writeFrame k p x u) = engineView u := by
  simp [writeFrame]

@[simp] theorem engineView_cutOutcome (x : CutOutcome) : engineView (cutOutcome n k x u) = engineView u := by
  simp [cutOutcome, engineView]

@[simp] theorem engineView_cutMetering : engineView (cutMetering u) = engineView u := by
  unfold cutMetering
  split <;> simp

@[simp] theorem engineView_takeItem (w : WorkItem) : engineView (takeItem k w u) = engineView u := by simp [takeItem]

@[simp] theorem engineView_armFiring (wa wb : Option WorkItem) : engineView (armFiring wa wb u) = engineView u := by
  have hset (t : Timer) (x : PerBack (List CutShot)) :
      engineView ((u.setTimer t).setGate { u.gate with fired := x }) = engineView u := rfl
  unfold armFiring
  cases wa <;> cases wb <;> simp [hset]

end

end Sys2Proof.Machine
end

section
/-!
SUPPORT. The operations of the Gate Sequencer, the Firing Timer and the units keep the agreement of the engine.
-/

namespace Sys2Proof.Machine

variable {s t u v : State}

/-! ## Holding, faults and the close of a visit (R37, R153 to R159) -/

theorem engineView_holdVisit (c : HoldCause) : engineView (holdVisit c u) =
    { engineView u with resuming := (engineView u).resuming || (engineView u).held.isSome,
                        held := (engineView u).held.map (fun _ => true) } := by
  unfold holdVisit
  cases hv : u.gate.visit with
  | none => simp [engineView, hv]
  | some v => simp [engineView, hv]

theorem engineView_raiseFault_resetting (f : FaultRec) (h : u.gate.engine = .resetting) : raiseFault f u = u := by
  simp [raiseFault, h]

theorem engineView_raiseFault_faulted (f : FaultRec) (h : u.gate.engine = .faulted) :
    engineView (raiseFault f u) = { engineView u with deferred := true } := by
  simp [raiseFault, h, engineView]

theorem engineView_raiseFault (f : FaultRec) (hr : u.gate.engine ≠ .resetting) (hf : u.gate.engine ≠ .faulted) :
    engineView (raiseFault f u) =
      { engineView u with engine := .faulted, stopKind := none, faulty := true,
                          resuming := (engineView u).resuming || (engineView u).held.isSome,
                          held := (engineView u).held.map (fun _ => true) } := by
  unfold raiseFault
  split
  · contradiction
  · contradiction
  · rw [engineView_holdVisit]
    simp [engineView]

theorem EngineAgrees.raiseFault (h : EngineAgrees u) (f : FaultRec) : EngineAgrees (raiseFault f u) := by
  by_cases hr : u.gate.engine = .resetting
  · rwa [engineView_raiseFault_resetting f hr]
  · rw [engineAgrees_iff] at h ⊢
    have he : (engineView u).engine = u.gate.engine := rfl
    obtain ⟨h1, h2, h3, h4, h5, h6, h7⟩ := h
    by_cases hf : u.gate.engine = .faulted
    · rw [engineView_raiseFault_faulted f hf]
      exact ⟨h1, fun _ => hf, h3, h4, h5, h6, h7⟩
    · rw [engineView_raiseFault f hr hf]
      rw [he] at h1 h2 h3 h4
      refine ⟨by simp, by simp, by simp, by simpa [hr] using h4, ?_, by cases (engineView u).held <;> simp, by simp⟩
      cases hh : (engineView u).held <;> simp_all

theorem engineView_closed : engineView (u.setGate { u.gate with visit := none, resume := none }) =
    { engineView u with resuming := false, held := none } := rfl

theorem engineView_requeue (ns : List Nat) : engineView (requeue ns u) = engineView u := by
  rw [requeue_eq, engineView_setQueue]

/-- The close of a visit leaves no visit and, with one open, no resume record. -/
theorem engineView_closeVisit : engineView (closeVisit u) =
    { engineView u with resuming := (engineView u).resuming && u.gate.visit.isNone, held := none } := by
  unfold closeVisit
  cases hv : u.gate.visit with
  | none => simp [engineView, hv]
  | some v =>
    unfold endVisit
    simp only [hv, engineView_refreshWanted, engineView_drainReports, engineView_setLabelWait, engineView_closed,
      engineView_endOrders, engineView_requeue]
    simp

theorem EngineAgrees.closeVisit (h : EngineAgrees u) : EngineAgrees (closeVisit u) := by
  rw [engineAgrees_iff] at h ⊢
  obtain ⟨h1, h2, h3, h4, h5, -, -⟩ := h
  have hres : ((engineView u).resuming && u.gate.visit.isNone) = false := by
    cases hv : u.gate.visit with
    | none => simpa [engineView, hv] using h5
    | some v => simp
  rw [engineView_closeVisit, hres]
  exact ⟨h1, h2, h3, h4, by simp, by simp, by simp⟩

/-! ## Feeder and meter commands (R28, R29, R36) -/

theorem EngineAgrees.sendLoad (h : EngineAgrees u) : EngineAgrees (sendLoad u) := by
  unfold Machine.sendLoad
  split
  · exact h
  · split
    exacts [h.calm (by simp), h.raiseFault _]

theorem EngineAgrees.sendReturn (h : EngineAgrees u) : EngineAgrees (sendReturn u) := by
  unfold Machine.sendReturn
  split
  exacts [h.calm (by simp), h.raiseFault _]

theorem EngineAgrees.enterReturning (h : EngineAgrees u) : EngineAgrees (enterReturning u) := by
  unfold Machine.enterReturning
  split
  · exact h
  · have h1 : EngineAgrees (setLabelWait false (updVisit (fun x => { x with state := .returning }) u)) :=
      h.calm (by simp)
    dsimp only
    split
    · exact h1.closeVisit
    · split
      exacts [h1, h1.sendReturn]

theorem EngineAgrees.enterMetering (h : EngineAgrees u) : EngineAgrees (enterMetering u) := by
  have h1 : EngineAgrees (updVisit (fun v => { v with state := .metering }) u) := h.calm (by simp)
  unfold Machine.enterMetering
  dsimp only
  split
  · exact h1.raiseFault _
  · split
    exacts [h1, h1.calm (by simp [beginMetering])]

theorem EngineAgrees.testReturning (h : EngineAgrees u) : EngineAgrees (testReturning u) := by
  unfold Machine.testReturning
  split
  exacts [h.enterReturning, h]

/-! ## Firings (R30 to R32) -/

@[simp] theorem engineView_blankUnfit (k : Back) (w : Option WorkItem) :
    engineView (blankUnfit k w u) = engineView u := by
  unfold blankUnfit
  split
  exacts [engineView_blankRoll, rfl]

theorem EngineAgrees.startFiring (h : EngineAgrees u) (v : Visit) : EngineAgrees (startFiring v u) := by
  unfold Machine.startFiring
  dsimp only
  split
  · exact EngineAgrees.testReturning (h.calm (by simp))
  · exact h.calm (by simp)

theorem EngineAgrees.testFiring (h : EngineAgrees u) : EngineAgrees (testFiring u) := by
  unfold Machine.testFiring
  split
  · exact h
  · split
    · exact h
    · split
      · exact h.calm (by simp)
      · split
        · exact h.startFiring _
        · split
          exacts [h, h.calm (by simp)]

theorem EngineAgrees.testVisit (h : EngineAgrees u) : EngineAgrees (testVisit u) := h.testFiring.testReturning

theorem EngineAgrees.enterExposing (h : EngineAgrees u) : EngineAgrees (enterExposing u) :=
  EngineAgrees.testVisit (h.calm (by simp))

@[simp] theorem engineView_placeRedo (k : Back) (w : WorkItem) : engineView (placeRedo k w u) = engineView u := by
  refine engineView_updVisit fun x => ?_
  split <;> rfl

/-! ## Going on, and the choice of a visit (R22 to R27, R39, R148 to R151) -/

theorem EngineAgrees.continueVisit (h : EngineAgrees u) : EngineAgrees (continueVisit u) := by
  unfold Machine.continueVisit
  split
  · exact h
  · split
    · split
      exacts [h, h.sendLoad]
    · split
      exacts [h, h.enterMetering]
    · exact h.testVisit
    · split
      exacts [h, h.sendReturn]

theorem EngineAgrees.releasePath (h : EngineAgrees u) : EngineAgrees (releasePath u) := by
  unfold Machine.releasePath
  split
  · exact h
  · split
    · split
      exacts [h, h.enterReturning]
    · split
      exacts [h, h.enterReturning]
    · exact h.testReturning
    · split
      exacts [h, h.sendReturn]

/-- A visit that opens in RUNNING is not held. -/
theorem EngineAgrees.open_ (h : EngineAgrees u) (hr : u.gate.engine = .running) (w : Order) :
    EngineAgrees (open_ w u) := by
  refine EngineAgrees.sendLoad ?_
  rw [engineAgrees_iff] at h ⊢
  obtain ⟨h1, h2, h3, h4, h5, -, h7⟩ := h
  have he : (engineView u).engine = .running := hr
  have hnone : (engineView u).stopKind = none := by
    cases hk : (engineView u).stopKind with
    | none => rfl
    | some x => simp [he, hk] at h3
  have hres : (engineView u).resuming = false := by
    cases hx : (engineView u).resuming with
    | false => rfl
    | true => exact absurd (h5.mp hx) (h7 (.inl he))
  rw [engineView_setQueue]
  show EngineView.Agrees { engineView u with held := some false }
  exact ⟨h1, h2, h3, h4, by simp [hres], by simp [he, hnone], by simp⟩

theorem EngineAgrees.choose (h : EngineAgrees u) : EngineAgrees (choose u) := by
  unfold Machine.choose
  split
  · next hc =>
    split
    exacts [h.open_ hc.1 _, h]
  · exact h

/-! ## The engine at rest (R149 to R151, R161, R166) -/

/-- No fault, no cleanup, and no visit but a held one with its resume record: the engine may stand STOPPED. -/
def EngineView.Quiet (x : EngineView) : Prop :=
  x.faulty = false ∧ x.deferred = false ∧ x.cleaning = false ∧ (x.resuming = true ↔ x.held = some true) ∧
  x.held ≠ some false

theorem EngineView.Quiet.stopped {x : EngineView} (h : x.Quiet) :
    EngineView.Agrees { x with engine := .stopped, stopKind := none } := by
  obtain ⟨hf, hd, hc, hr, hh⟩ := h
  exact ⟨by simp [hf], by simp [hd], by simp, by simp [hc], hr, fun _ => hh, by simp⟩

theorem EngineView.Quiet.stopping {x : EngineView} (h : x.Quiet) :
    EngineView.Agrees { x with engine := .stopping, stopKind := some .hold } := by
  obtain ⟨hf, hd, hc, hr, hh⟩ := h
  exact ⟨by simp [hf], by simp [hd], by simp, by simp [hc], hr, fun _ => hh, by simp⟩

theorem engineView_enterStopped :
    engineView (enterStopped u) = { engineView u with engine := .stopped, stopKind := none } := by
  rw [enterStopped, engineView_raise]
  rfl

theorem EngineAgrees.enterStopped (h : (engineView u).Quiet) : EngineAgrees (enterStopped u) := by
  rw [engineAgrees_iff, engineView_enterStopped]
  exact h.stopped

theorem EngineAgrees.restOrStop (h : (engineView u).Quiet) : EngineAgrees (restOrStop u) := by
  unfold Machine.restOrStop
  split
  · exact EngineAgrees.enterStopped h
  · exact engineAgrees_iff.mpr h.stopping

/-- An engine that is neither FAULTED nor RESETTING has no fault and no cleanup. -/
theorem EngineAgrees.calmed (h : EngineAgrees u) (hf : u.gate.engine ≠ .faulted) (hr : u.gate.engine ≠ .resetting) :
    (engineView u).faulty = false ∧ (engineView u).deferred = false ∧ (engineView u).cleaning = false := by
  rw [engineAgrees_iff] at h
  obtain ⟨h1, h2, -, h4, -⟩ := h
  have he : (engineView u).engine = u.gate.engine := rfl
  rw [he] at h1 h2 h4
  exact ⟨by simpa [hf] using h1, by simpa [hf] using h2, by simpa [hr] using h4⟩

theorem EngineAgrees.stopEnds (h : EngineAgrees u) : EngineAgrees (stopEnds u) := by
  unfold Machine.stopEnds stopDone
  split
  · next hd =>
    simp only [Bool.and_eq_true, beq_iff_eq, Bool.or_eq_true] at hd
    obtain ⟨he, hd⟩ := hd
    obtain ⟨hf, hp, hc⟩ := h.calmed (by simp [he]) (by simp [he])
    rw [engineAgrees_iff] at h
    obtain ⟨-, -, -, -, h5, h6, -⟩ := h
    refine EngineAgrees.enterStopped ⟨hf, hp, hc, h5, ?_⟩
    obtain hn | ⟨hk, -⟩ := hd
    · simp [engineView, Option.isNone_iff_eq_none.mp hn]
    · exact h6 (.inr (.inr hk))
  · exact h

/-! ## The course of a firing (R72 to R83, R152) -/

@[simp] theorem engineView_dropLines (x : PerBack (Option FrameRec)) : engineView (dropLines x u) = engineView u := rfl

@[simp] theorem engineView_oweAdvance (k : Back) : engineView (oweAdvance k u) = engineView u := by simp [oweAdvance]

@[simp] theorem engineView_oweAdvances (ks : List Back) : engineView (oweAdvances ks u) = engineView u := by
  unfold oweAdvances
  induction ks generalizing u with
  | nil => rfl
  | cons k ks ih => simp [ih]

theorem EngineAgrees.endFiring (h : EngineAgrees u) : EngineAgrees (endFiring u) := by
  unfold Machine.endFiring
  split
  exacts [h, EngineAgrees.testVisit (h.calm (by simp))]

@[simp] theorem engineView_spoilShot (k : Back) (x : Option Shot) : engineView (spoilShot k x u) = engineView u := by
  cases x with
  | none => rfl
  | some x =>
    unfold spoilShot
    rw [engineView_chargeFrames]
    unfold tellLampSpoil
    split
    · rfl
    · dsimp only
      split <;> simp

@[simp] theorem engineView_cutOutcomeIncluded (n : Nat) (b : State) :
    engineView (abortFiring.cutOutcomeIncluded n b u) = engineView u := by
  unfold abortFiring.cutOutcomeIncluded
  induction includedBacks b generalizing u with
  | nil => rfl
  | cons k ks ih => simp [ih]

theorem EngineAgrees.abortFiring (h : EngineAgrees u) : EngineAgrees (abortFiring u) := by
  unfold Machine.abortFiring
  split
  · exact h
  · have h1 (x : PerBack (Option FrameRec)) (a b : Option Shot) :
        EngineAgrees (spoilShot .b b (spoilShot .a a (dropLines x u))) := h.calm (by simp)
    refine EngineAgrees.testVisit (EngineAgrees.calm (u := Machine.raiseFault _ _) ?_
      (by rw [engineView_oweAdvances, engineView_cutOutcomeIncluded]))
    exact EngineAgrees.raiseFault (h1 _ _ _) _

@[simp] theorem engineView_leaveFiring (k : Back) : engineView (leaveFiring k u) = engineView u := by
  unfold leaveFiring endEmpty cutPending
  split
  · dsimp only
    split <;> simp
  · rfl

/-- The STEP hold comes upon a RUNNING engine. -/
theorem EngineAgrees.stepHold (h : EngineAgrees u) (n : Nat) : EngineAgrees (stepHold n u) := by
  unfold Machine.stepHold
  split
  · next hc =>
    obtain ⟨he, -, -, -⟩ := hc
    obtain ⟨hf, hp, hcl⟩ := h.calmed (by simp [he]) (by simp [he])
    rw [engineAgrees_iff] at h ⊢
    obtain ⟨-, -, -, -, h5, -, -⟩ := h
    rw [engineView_holdVisit]
    have hset : engineView (u.setGate { u.gate with engine := .stopping, stopKind := some .hold }) =
        { engineView u with engine := .stopping, stopKind := some .hold } := rfl
    rw [hset]
    refine EngineView.Quiet.stopping (x := { engineView u with resuming := _, held := _ }) ⟨hf, hp, hcl, ?_, ?_⟩
    · obtain hh | hh | hh : (engineView u).held = none ∨ (engineView u).held = some true ∨
        (engineView u).held = some false := by rcases (engineView u).held with _ | _ | _ <;> simp
      all_goals simp_all
    · cases (engineView u).held <;> simp
  · exact h

theorem EngineAgrees.firingAfterLoss (h : EngineAgrees u) (n : Nat) : EngineAgrees (firingAfterLoss n u) := by
  unfold Machine.firingAfterLoss
  split
  · exact (h.stepHold _).testVisit
  · split
    · split
      exacts [h.endFiring, h.abortFiring]
    · exact h

theorem EngineAgrees.afterLoss (h : EngineAgrees u) (k : Back) (b : State) : EngineAgrees (afterLoss k b u) := by
  unfold Machine.afterLoss
  split
  · exact h.firingAfterLoss _
  · cases b.timer.frames.get k
    exacts [h, h.stepHold _]

@[simp] theorem engineView_completeCancels : engineView (completeCancels u) = engineView u := by simp [completeCancels]

end Sys2Proof.Machine
end

section
/-!
SUPPORT. The loss of rolls and units, the timeout of a unit command and the cleanup of LINK RESET keep the agreement of the
engine (R81, R83, R101 to R103, R163 to R166, R172 to R176).
-/

namespace Sys2Proof.Machine

variable {s t u v : State} {k : Back}

/-! ## The loss of a roll (R101 to R103) -/

@[simp] theorem engineView_loseShot : engineView (loseShot k u) = engineView u := by
  unfold loseShot
  split <;> simp

@[simp] theorem engineView_dropFrame : engineView (dropFrame k u) = engineView u := rfl

@[simp] theorem engineView_cutFrameRec (f : FrameRec) : engineView (cutFrameRec k f u) = engineView u := by
  unfold cutFrameRec cutPending
  split <;> simp

@[simp] theorem engineView_loseFrame : engineView (loseFrame k u) = engineView u := by
  unfold loseFrame
  split <;> simp

@[simp] theorem engineView_fogRoll : engineView (fogRoll k u) = engineView u := by
  have hitems (l : List ((Nat × Nat × Nat) × Bool)) (t : State) : engineView (l.foldl (fogItem k) t) = engineView t := by
    induction l generalizing t with
    | nil => rfl
    | cons x l ih =>
      rw [List.foldl_cons, ih]
      unfold fogItem
      split <;> simp
  simp [fogRoll, hitems]

theorem EngineAgrees.rollLost (h : EngineAgrees u) (k : Back) : EngineAgrees (rollLost k u) :=
  EngineAgrees.testReturning (EngineAgrees.afterLoss (h.calm (by simp)) k u)

theorem EngineAgrees.backGone (h : EngineAgrees u) (k : Back) : EngineAgrees (backGone k u) := by
  unfold Machine.backGone
  split
  exacts [h.calm (by simp), h.calm (by simp), h.rollLost k, h.rollLost k, h.rollLost k, h.rollLost k, h, h]

/-! ## The loss of a slot (R172, R174) -/

@[simp] theorem engineView_answerLost (c : Issued) : engineView (answerLost c u) = engineView u := by
  unfold answerLost
  split <;> simp

@[simp] theorem engineView_answersLost (l : List Issued) :
    engineView (l.foldl (fun t c => answerLost c t) u) = engineView u := by
  induction l generalizing u with
  | nil => rfl
  | cons c l ih => simp [ih]

@[simp] theorem engineView_changeSlot (x : UnitSlot) (y : SlotState) : engineView (changeSlot x y u) = engineView u := by
  simp [changeSlot]

@[simp] theorem engineView_keepFailure (x : FaultKind) : engineView (keepFailure x u) = engineView u := by
  simp [keepFailure, engineView]

theorem EngineAgrees.handOnLoss (h : EngineAgrees u) (x : UnitSlot) (b : Bool) : EngineAgrees (handOnLoss x b u) := by
  unfold Machine.handOnLoss
  cases x
  case feeder =>
    have h1 : EngineAgrees (updSlot .feeder (fun x => { x with magazine := none }) u) := h.calm (by simp)
    have h2 : EngineAgrees (keepFailure .unitLost (updSlot .feeder (fun x => { x with magazine := none }) u)) :=
      h1.calm (by simp)
    cases b <;> simp only [Bool.false_eq_true, ↓reduceIte] <;> split
    exacts [h1.raiseFault _, h1, h2.raiseFault _, h2]
  case meter =>
    dsimp only
    split
    exacts [EngineAgrees.raiseFault (h.calm (by simp)) _, h]
  case backA => exact EngineAgrees.backGone (h.calm (by simp)) _
  case backB => exact EngineAgrees.backGone (h.calm (by simp)) _
  case printer => exact h.calm (by simp)

theorem EngineAgrees.slotLost (h : EngineAgrees u) (x : UnitSlot) (y : SlotState) : EngineAgrees (slotLost x y u) :=
  EngineAgrees.handOnLoss (h.calm (by simp)) _ _

/-! ## The timeout of a unit command (R175, R176) -/

@[simp] theorem engineView_advanceLost : engineView (advanceLost k u) = engineView u := by
  unfold advanceLost
  dsimp only
  split <;> split <;> simp

@[simp] theorem engineView_backTimeout (x : UnitSlot) : engineView (backTimeout x u) = engineView u := by
  unfold backTimeout
  cases x.back with
  | none => rfl
  | some j =>
    unfold otherTimeout
    dsimp only [Option.elim]
    (repeat' split) <;> simp

theorem engineView_ofBack {x : UnitSlot} {f : Back → State} (hf : ∀ j, engineView (f j) = engineView u) :
    engineView (x.back.elim u f) = engineView u := by
  cases x.back
  exacts [rfl, hf _]

@[simp] theorem engineView_takeTimeout (x : UnitSlot) (c : Issued) : engineView (takeTimeout x c u) = engineView u := by
  unfold takeTimeout
  split
  case h_1 => split <;> simp
  case h_3 => exact engineView_ofBack fun j => by simp
  case h_5 => exact engineView_ofBack fun j => by simp
  all_goals simp

@[simp] theorem engineView_withdraws (x : UnitSlot) (l : List Issued) :
    engineView (l.foldl (withdraw x) u) = engineView u := by
  induction l generalizing u with
  | nil => rfl
  | cons c l ih =>
    rw [List.foldl_cons, ih]
    unfold withdraw
    split
    case h_1 => exact engineView_ofBack fun j => by simp
    case h_3 => exact engineView_ofBack fun j => by simp
    all_goals simp

@[simp] theorem engineView_absentUnit (x : UnitSlot) : engineView (absentUnit x u) = engineView u := by
  unfold absentUnit absentUnit.noBackAfter
  (repeat' split) <;> simp

@[simp] theorem engineView_timedOut (x : UnitSlot) (o : Outstanding) : engineView (timedOut x o u) = engineView u := by
  simp [timedOut]

theorem EngineAgrees.commandTimeout (h : EngineAgrees u) (x : UnitSlot) (o : Outstanding) :
    EngineAgrees (commandTimeout x o u) := by
  have hlost : EngineAgrees (timedOut x o u) := h.calm (by simp)
  have h1 : EngineAgrees (completeCancels (Machine.raiseFault (timeoutFault u (timedOut x o u) x o) (timedOut x o u))) :=
    (hlost.raiseFault (timeoutFault u (timedOut x o u) x o)).calm (by simp)
  unfold Machine.commandTimeout
  dsimp only
  cases x.back
  exacts [h1.testReturning, (h1.afterLoss _ _).testReturning]

/-! ## LINK RESET and its cleanup (R163 to R166) -/

/-- The entry actions leave the engine RESETTING with nothing held and no fault, wherever it was. -/
theorem engineAgrees_resetEntry : EngineAgrees (resetEntry u) := by
  have hview : engineView (resetEntry u) =
      { engine := .resetting, stopKind := none, cleaning := true, resuming := false
        held := (engineView u).held.map (fun _ => false), faulty := false, deferred := false } := by
    have hsettle (ns : List Nat) (t : State) : engineView (ns.foldl (fun t n => settleOrder n t) t) = engineView t := by
      induction ns generalizing t with
      | nil => rfl
      | cons n ns ih => simp [ih]
    have hgate : (engineView (resetOrders u)).held = (engineView u).held := by simp [resetOrders, hsettle]
    rw [← hgate]
    simp [engineView, resetEntry, resetLinkQueues, resetBusCommands, resetLabelQueue, resetFlags, resetEngine,
      Function.comp_def]
  rw [engineAgrees_iff, hview]
  refine ⟨by simp, by simp, by simp, by simp, ?_, by simp, ?_⟩ <;> cases (engineView u).held <;> simp

@[simp] theorem engineView_linesFall : engineView (linesFall u) = engineView u := by
  have hspoil (j : Back) (t : State) : engineView (spoilFrame j t) = engineView t := by
    unfold spoilFrame
    split
    · rfl
    · split <;> simp
  simp [linesFall, resetFiring, hspoil]

@[simp] theorem engineView_setStage (x : Stage) : engineView (setStage x u) = engineView u := by
  simp [setStage, engineView]

@[simp] theorem engineView_returnSlide (c : Cleanup) : engineView (returnSlide c u) = engineView u := by
  unfold returnSlide
  dsimp only
  (repeat' split) <;> simp

/-- The end of the cleanup leaves no cleanup and no visit; its failure is the fault. -/
theorem EngineAgrees.endCleanup (h : EngineAgrees u) (hc : u.gate.cleanup.isSome = true) (c : Cleanup) :
    EngineAgrees (endCleanup c u) := by
  have hr := engineView_closeVisit (u := u)
  rw [engineAgrees_iff] at h
  obtain ⟨h1, h2, -, h4, h5, -, -⟩ := h
  have he : (engineView u).engine = .resetting := h4.mpr hc
  have hres : ((engineView u).resuming && u.gate.visit.isNone) = false := by
    cases hv : u.gate.visit with
    | none => simpa [engineView, hv] using h5
    | some v => simp
  rw [he] at h1 h2
  unfold Machine.endCleanup
  dsimp only
  split
  · have hset (t : State) : engineView (t.setGate { t.gate with cleanup := none }) =
        { engineView t with cleaning := false } := rfl
    refine EngineAgrees.enterStopped ?_
    rw [hset, hr, hres]
    exact ⟨by simpa using h1, by simpa using h2, rfl, by simp, by simp⟩
  · next f =>
    rw [engineAgrees_iff, engineView_raise, engineView_raise]
    show EngineView.Agrees { engineView (Machine.closeVisit u) with
      engine := .faulted, stopKind := none, cleaning := false, faulty := true }
    rw [hr, hres]
    exact ⟨by simp, by simp, by simp, by simp, by simp, by simp, by simp⟩

theorem EngineAgrees.cleanupStep (h : EngineAgrees u) : EngineAgrees (cleanupStep u) := by
  unfold Machine.cleanupStep
  split
  · exact h
  · next c hc =>
    split
    · split
      exacts [h.calm (by simp), h]
    · split
      exacts [h.calm (by simp [beginSlide]), h]
    · exact h.calm (by simp)
    · exact h.endCleanup (by simp [hc]) c

theorem EngineAgrees.settle (h : EngineAgrees u) : EngineAgrees (settle u) :=
  EngineAgrees.choose (EngineAgrees.stopEnds
    (h.cleanupStep.cleanupStep.cleanupStep.cleanupStep.calm (by simp [runCleanup])))

theorem EngineAgrees.transmit (h : EngineAgrees u) : EngineAgrees (transmit u) := by
  unfold Machine.transmit
  dsimp only
  split
  exacts [EngineAgrees.choose (h.calm (by simp)), h.calm (by simp)]

end Sys2Proof.Machine
end

section
/-!
The desk commands and the events keep the agreement of the engine, and the statement O5.
-/

namespace Sys2Proof.Machine

variable {s t u v : State}

/-! ## The engine's own commands (R148 to R152, R160, R163) -/

section
variable {tag : Byte}

@[simp] theorem engineView_refuse (code : Nat) (x : Reason) : engineView (refuse tag code x u) = engineView u := by
  simp [refuse]

/-- RUN from STOPPED: the engine is RUNNING and nothing is held. -/
theorem EngineAgrees.runs (h : EngineAgrees u) (he : u.gate.engine = .stopped) (hg : v.gate = { u.gate with engine := .running })
    (hc : v.events.current = u.events.current) (hp : v.events.pendingFault = u.events.pendingFault) :
    EngineAgrees (unhold v) := by
  obtain ⟨hf, hd, hcl⟩ := h.calmed (by simp [he]) (by simp [he])
  rw [engineAgrees_iff] at h ⊢
  obtain ⟨-, -, h3, -, -, -, -⟩ := h
  have hk : (engineView u).stopKind = none := by
    have hev : (engineView u).engine = .stopped := he
    simpa [hev] using h3
  have hview : engineView (unhold v) = { engineView u with
      engine := .running, resuming := false, held := (engineView u).held.map (fun _ => false) } := by
    simp [unhold, engineView, hg, hc, hp, Function.comp_def]
  rw [hview]
  refine ⟨by simp [hf], by simp [hd], by simp [hk], by simp [hcl], ?_, by simp [hk], ?_⟩ <;>
    cases (engineView u).held <;> simp

theorem EngineAgrees.runEngine (h : EngineAgrees u) (x : Unit) : EngineAgrees (runEngine tag x u) := by
  unfold Machine.runEngine
  split
  · exact h.calm (by simp)
  · exact h.calm (by simp)
  · next he => exact EngineAgrees.continueVisit (h.runs he (by simp) (by simp) (by simp))
  · exact h.calm (by simp)

theorem EngineAgrees.stopHold (h : EngineAgrees u) (x : Unit) : EngineAgrees (stopHold tag x u) := by
  unfold Machine.stopHold
  split
  · next he =>
    obtain ⟨hf, hd, hcl⟩ := h.calmed (by simp [he]) (by simp [he])
    rw [engineAgrees_iff] at h
    obtain ⟨-, -, -, -, h5, -, -⟩ := h
    split
    · next hv =>
      have hheld : (engineView u).held = none := by simp [engineView, hv]
      exact EngineAgrees.calm (EngineAgrees.enterStopped ⟨hf, hd, hcl, h5, by simp [hheld]⟩) (by simp)
    · next v hv =>
      have hheld : (engineView u).held = some v.held := by simp [engineView, hv]
      refine EngineAgrees.calm (EngineAgrees.restOrStop (u := holdVisit .stop u) ?_) (by simp)
      rw [engineView_holdVisit]
      exact ⟨hf, hd, hcl, by simp [hheld], by simp [hheld]⟩
  · exact h.calm (by simp)
  · exact h.calm (by simp)

/-- STOP RELEASE: nothing is held any more. -/
theorem EngineAgrees.release (h : EngineAgrees u) (hf : u.gate.engine ≠ .faulted) (hr : u.gate.engine ≠ .resetting) :
    EngineAgrees (release u) := by
  obtain ⟨hf, hd, hcl⟩ := h.calmed hf hr
  refine EngineAgrees.releasePath ?_
  rw [engineAgrees_iff, engineView_setLabelWait]
  have hview : engineView (u.setGate { u.gate with
      engine := .stopping, stopKind := some .release, resume := none,
      visit := u.gate.visit.map (fun v => { v with held := false, release := true }) }) =
      { engineView u with engine := .stopping, stopKind := some .release, resuming := false
                          held := (engineView u).held.map (fun _ => false) } := by
    simp [engineView, Function.comp_def]
  rw [hview]
  refine ⟨by simp [hf], by simp [hd], by simp, by simp [hcl], ?_, by simp, ?_⟩ <;> cases (engineView u).held <;> simp

theorem EngineAgrees.stopRelease (h : EngineAgrees u) (x : Unit) : EngineAgrees (stopRelease tag x u) := by
  unfold Machine.stopRelease
  split
  · exact h.calm (by simp)
  · next he =>
    have hrel := h.release (by simp [he]) (by simp [he])
    split
    · next hv =>
      obtain ⟨hf, hd, hcl⟩ := h.calmed (by simp [he]) (by simp [he])
      rw [engineAgrees_iff] at h
      obtain ⟨-, -, -, -, h5, -, -⟩ := h
      have hheld : (engineView u).held = none := by simp [engineView, Option.isNone_iff_eq_none.mp hv]
      exact EngineAgrees.calm (EngineAgrees.enterStopped ⟨hf, hd, hcl, h5, by simp [hheld]⟩) (by simp)
    · exact hrel.calm (by simp)
  · next he =>
    have hrel := h.release (by simp [he]) (by simp [he])
    split
    exacts [h.calm (by simp), hrel.calm (by simp)]
  · next he =>
    have hrel := h.release (by simp [he]) (by simp [he])
    split
    exacts [h.calm (by simp), hrel.calm (by simp)]
  · exact h.calm (by simp)

/-- The fault record emptied, and the visit closed or not. -/
theorem quiet_of_cleared (h : EngineAgrees u) (he : u.gate.engine = .faulted) (b : Bool) :
    (engineView (if b then closeVisit (u.setEvents { u.events with current := none, pendingFault := none })
      else u.setEvents { u.events with current := none, pendingFault := none })).Quiet ∧
    (if b then closeVisit (u.setEvents { u.events with current := none, pendingFault := none })
      else u.setEvents { u.events with current := none, pendingFault := none }).gate.engine = .faulted ∧
    (if b then closeVisit (u.setEvents { u.events with current := none, pendingFault := none })
      else u.setEvents { u.events with current := none, pendingFault := none }).gate.stopKind = none := by
  rw [engineAgrees_iff] at h
  obtain ⟨-, -, h3, h4, h5, h6, -⟩ := h
  have hev : (engineView u).engine = .faulted := he
  rw [hev] at h3 h4
  have hk : (engineView u).stopKind = none := by simpa using h3
  have hcl : (engineView u).cleaning = false := by simpa using h4
  have hset : engineView (u.setEvents { u.events with current := none, pendingFault := none }) =
      { engineView u with faulty := false, deferred := false } := rfl
  have hengine (w : State) : w.gate.engine = (engineView w).engine := rfl
  have hkind (w : State) : w.gate.stopKind = (engineView w).stopKind := rfl
  rw [hengine, hkind]
  cases b with
  | false =>
    simp only [Bool.false_eq_true, ↓reduceIte, hset]
    exact ⟨⟨rfl, rfl, hcl, h5, h6 (.inr (.inl hev))⟩, hev, hk⟩
  | true =>
    have hres : ((engineView u).resuming && u.gate.visit.isNone) = false := by
      cases hv : u.gate.visit with
      | none => simpa [engineView, hv] using h5
      | some v => simp
    simp only [↓reduceIte, engineView_closeVisit, hset, State.setEvents_gate, hres]
    exact ⟨⟨rfl, rfl, hcl, by simp, by simp⟩, hev, hk⟩

theorem EngineAgrees.clearFault (h : EngineAgrees u) (x : Unit) : EngineAgrees (clearFault tag x u) := by
  unfold Machine.clearFault
  split
  · next he =>
    obtain ⟨hq, heng, hk⟩ := quiet_of_cleared h he (jamOfGate u.events.current)
    unfold removeFault
    dsimp only
    generalize (if jamOfGate u.events.current = true then _ else _ : State) = w at hq heng hk
    split
    · next p _ =>
      obtain ⟨-, hd, hcl, h5, h6⟩ := hq
      rw [engineAgrees_iff, engineView_answer, engineView_raise]
      show EngineView.Agrees { engineView w with faulty := true }
      have hev : (engineView w).engine = .faulted := heng
      have hkv : (engineView w).stopKind = none := hk
      exact ⟨by simp [hev], by simp [hd], by simp [hev, hkv], by simp [hev, hcl], h5, fun _ => h6, by simp [hev, hkv]⟩
    · exact EngineAgrees.calm (EngineAgrees.restOrStop hq) (by simp)
  · exact h.calm (by simp)

theorem EngineAgrees.stepMode (h : EngineAgrees u) (code : Nat) (on : Bool) : EngineAgrees (setStep tag code on u) :=
  h.calm (by rw [setStep, engineView_answer]; rfl)

/-! ## The commands of the desk, the tables and the accounts -/

theorem EngineAgrees.setSettings (h : EngineAgrees u) (x : List SettingItem) : EngineAgrees (setSettings tag x u) := by
  unfold Machine.setSettings
  split
  · exact h.calm (by simp)
  · unfold writeSettings
    dsimp only
    split
    exacts [h.calm (by simp), EngineAgrees.testVisit (h.calm (by simp))]

theorem EngineAgrees.closeRoll (h : EngineAgrees u) (x : Nat) : EngineAgrees (closeRoll tag x u) := by
  unfold Machine.closeRoll
  split
  · exact h.calm (by simp)
  · split
    exacts [h.calm (by simp), EngineAgrees.testReturning (h.calm (by simp))]

theorem EngineAgrees.discardLabels (h : EngineAgrees u) (x : Unit) : EngineAgrees (discardLabels tag x u) := by
  unfold Machine.discardLabels
  dsimp only
  split
  exacts [h.calm (by simp), EngineAgrees.testVisit (h.calm (by simp))]

theorem EngineAgrees.cancelOrder (h : EngineAgrees u) (x : Nat) : EngineAgrees (cancelOrder tag x u) := by
  unfold Machine.cancelOrder
  split
  · exact h.calm (by simp)
  · split
    · exact h.calm (by simp)
    · exact h.calm (by simp)
    · split
      exacts [h.calm (by simp), EngineAgrees.testReturning (h.calm (by simp [markCancelled]))]

theorem EngineAgrees.takeOrder (h : EngineAgrees u) (f : OrderFields) : EngineAgrees (takeOrder tag f u) := by
  unfold Machine.takeOrder
  split
  · exact h.calm (by simp [answerOrder])
  · split
    · exact h.calm (by simp [answerOrder])
    · split
      · exact h.calm (by simp [answerOrder])
      · split
        exacts [h.calm (by simp [answerOrder]), EngineAgrees.settle (h.calm (by simp [admitOrder, answerOrder]))]

theorem engineView_loadRoll (x : LoadRollFields) : engineView (loadRoll tag x u) = engineView u := by
  unfold loadRoll
  (repeat' split) <;> simp

theorem engineView_resyncRoll (x : Nat) : engineView (resyncRoll tag x u) = engineView u := by
  unfold resyncRoll
  (repeat' split) <;> simp [reserve]

theorem engineView_ackEvents (x : EventSet) : engineView (ackEvents tag x u) = engineView u := by
  rw [ackEvents_eq_answer, engineView_answer]
  rfl

theorem engineView_judgeDirect (unit : Byte) (code : Nat) (c : Option UnitCmd) :
    engineView (judgeDirect tag unit code c u) = engineView u := by
  have hdirect (n : Nat) (x : Result) (d : ReplyData) (t : State) :
      engineView (answerDirect tag n x d t) = engineView t := by simp [answerDirect]
  have htrap (k : UnitSlot) (c : UnitCmd) (x : Reason) : engineView (trap tag k c x u) = engineView u := by
    rw [trap, hdirect, engineView_raise]
    rfl
  have hforward (k : UnitSlot) (c : UnitCmd) : engineView (forward tag k c u) = engineView u := by
    unfold forward beginSequence
    split <;> simp [reserve]
  unfold judgeDirect judgeSlot
  (repeat' split) <;> simp [hdirect, htrap, hforward]

end

/-! ## Every desk command -/

section
variable {α : Type} {tag : Byte} {code : Nat}

theorem agrees_takeFrame {c : Instr} {act : State → State} (hs : EngineAgrees s)
    (h : ∀ t, EngineAgrees t → EngineAgrees (act t)) : EngineAgrees (takeFrame c act s) := by
  unfold takeFrame
  split
  · next t ht =>
    obtain ⟨-, b, -, rfl⟩ := taken_eq_some ht
    exact h _ hs
  · unfold bufferFrame
    (repeat' split) <;> exact hs.calm (by simp)

theorem agrees_settled {c : Instr} {act : State → State} (hs : EngineAgrees s)
    (h : ∀ t, EngineAgrees t → EngineAgrees (act t)) : EngineAgrees (deskAct c act s) :=
  agrees_takeFrame hs fun t ht => (h t ht).settle

theorem agrees_checked {f : Fields α} {body : α → State → State} (hu : EngineAgrees u)
    (h : ∀ x, EngineAgrees (body x u)) : EngineAgrees (checked tag code f body u) := by
  unfold checked
  split
  · exact hu.calm (by simp)
  · split
    exacts [hu.calm (by simp), h _]

/-- A command whose action leaves the view. -/
theorem agrees_replyOnly {c : Instr} {act : State → State} (hs : EngineAgrees s)
    (h : ∀ t, engineView (act t) = engineView t) : EngineAgrees (takeFrame c act s) :=
  agrees_takeFrame hs fun _ ht => ht.calm (h _)

theorem engineView_checked {f : Fields α} {body : α → State → State} (h : ∀ x, engineView (body x u) = engineView u) :
    engineView (checked tag code f body u) = engineView u := by
  unfold checked
  (repeat' split) <;> simp [h]

theorem engineView_checkedNaming {f : Fields α} {data : α → ReplyData} {body : α → State → State}
    (h : ∀ x, engineView (body x u) = engineView u) :
    engineView (checkedNaming tag code f data body u) = engineView u := by
  unfold checkedNaming
  (repeat' split) <;> simp [h, engineView_checked]

@[simp] theorem engineView_refuseAccount (c n : Nat) (x : Reason) :
    engineView (refuseAccount tag c n x u) = engineView u := by simp [refuseAccount]

theorem engineView_onAccount {n : Nat} {act : Account → State → State} (h : ∀ x, engineView (act x u) = engineView u) :
    engineView (onAccount tag code n act u) = engineView u := by
  unfold onAccount
  (repeat' split) <;> simp [h]

end

end Sys2Proof.Machine
end

section
/-!
Every command keeps the agreement of the engine (R147, R153, R156 to R163), and the statement O5.
-/

namespace Sys2Proof.Machine

variable {s t u v : State}

/-! ## Every desk command -/

/-- The outcome goes on to a state with the agreement. -/
def AgreesAfter (o : Out) : Prop := ∃ t, o = .next t ∧ EngineAgrees t

theorem agreesAfter_next (h : EngineAgrees t) : AgreesAfter (.next t) := ⟨t, rfl, h⟩

section
variable {tag : Byte}

theorem engineView_writeStock (x : StockFields) : engineView (writeStock tag x u) = engineView u := by
  unfold writeStock
  (repeat' split) <;> simp

theorem engineView_deleteStock (x : Nat) : engineView (deleteStock tag x u) = engineView u := by
  unfold deleteStock
  (repeat' split) <;> simp

theorem engineView_readStock (x : Option Nat) : engineView (readStock tag x u) = engineView u := by
  unfold readStock
  (repeat' split) <;> simp

theorem engineView_writePattern (x : PatternFields) : engineView (writePattern tag x u) = engineView u := by
  unfold writePattern
  (repeat' split) <;> simp

theorem engineView_emptyPattern (x : Nat) : engineView (emptyPattern tag x u) = engineView u := by
  unfold emptyPattern
  (repeat' split) <;> simp

theorem engineView_readPattern (x : Option Nat) : engineView (readPattern tag x u) = engineView u := by
  unfold readPattern
  (repeat' split) <;> simp

theorem engineView_writeTemplate (x : TemplateFields) : engineView (writeTemplate tag x u) = engineView u := by
  unfold writeTemplate
  (repeat' split) <;> simp

theorem engineView_emptyTemplate (x : Nat) : engineView (emptyTemplate tag x u) = engineView u := by
  unfold emptyTemplate
  (repeat' split) <;> simp

theorem engineView_readTemplate (x : Option Nat) : engineView (readTemplate tag x u) = engineView u := by
  unfold readTemplate
  (repeat' split) <;> simp

theorem engineView_writeFee (x : FeeFields) : engineView (writeFee tag x u) = engineView u := by
  unfold writeFee
  (repeat' split) <;> simp

theorem engineView_readFee (x : Option Nat) : engineView (readFee tag x u) = engineView u := by
  unfold readFee
  (repeat' split) <;> simp

theorem engineView_openAccount (x : AccountSum) : engineView (openAccount tag x u) = engineView u := by
  unfold openAccount
  (repeat' split) <;> simp

theorem engineView_readAccount (x : Option Nat) : engineView (readAccount tag x u) = engineView u := by
  unfold readAccount
  (repeat' split) <;> simp

theorem engineView_putCeiling (x : AccountSum) (y : Account) : engineView (putCeiling tag x y u) = engineView u := by
  unfold putCeiling
  (repeat' split) <;> simp

theorem engineView_putOpen (c n : Nat) (b : Bool) (y : Account) : engineView (putOpen tag c n b y u) = engineView u := by
  simp [putOpen]

theorem engineView_credit (x : AccountSum) : engineView (credit tag x u) = engineView u := by
  unfold credit
  (repeat' split) <;> simp

theorem engineView_clearCharged (x : Nat) : engineView (clearCharged tag x u) = engineView u := by
  unfold clearCharged
  (repeat' split) <;> simp

theorem engineView_dropAccount (n : Nat) (y : Account) : engineView (dropAccount tag n y u) = engineView u := by
  unfold dropAccount
  (repeat' split) <;> simp

theorem engineView_clearTraps (x : Unit) : engineView (clearTraps tag x u) = engineView u := by
  rw [clearTraps, engineView_answer]
  rfl

theorem engineView_readResume (x : Unit) : engineView (readResume tag x u) = engineView u := by
  unfold readResume
  (repeat' split) <;> simp

theorem engineView_readStatus (f : Fields Unit) : engineView (readStatus tag f u) = engineView u := by
  unfold readStatus
  (repeat' split) <;> simp

theorem engineView_readRollMap (x : RollMapFields) : engineView (readRollMap tag x u) = engineView u := by
  unfold readRollMap
  dsimp only
  (repeat' split) <;> simp

theorem engineView_readOrder (x : Nat) : engineView (readOrder tag x u) = engineView u := by
  unfold readOrder
  (repeat' split) <;> simp

end

theorem agreesAfter_direct {c : Instr} {tag unit : Byte} {code : Nat} {x : Option UnitCmd} (hs : EngineAgrees s) :
    AgreesAfter (directFrame c tag unit code x s) :=
  agreesAfter_next (agrees_replyOnly hs fun _ => engineView_judgeDirect _ _ _)

theorem execDesk_agrees (c : Instr) (hs : EngineAgrees s) : AgreesAfter (execDesk c s) := by
  cases c
  case orderFrame => exact agreesAfter_next (agrees_takeFrame hs fun t ht => ht.takeOrder _)
  case unknownClass => exact agreesAfter_next (agrees_replyOnly hs fun t => by simp)
  case payloadLengthDiscard => exact agreesAfter_next (agrees_replyOnly hs fun t => rfl)
  case unknownManageCommand => exact agreesAfter_next (agrees_replyOnly hs fun t => engineView_refuse _ _)
  case run => exact agreesAfter_next (agrees_settled hs fun t ht => agrees_checked ht ht.runEngine)
  case stopHold => exact agreesAfter_next (agrees_settled hs fun t ht => agrees_checked ht ht.stopHold)
  case stopRelease => exact agreesAfter_next (agrees_settled hs fun t ht => agrees_checked ht ht.stopRelease)
  case clearFault => exact agreesAfter_next (agrees_settled hs fun t ht => agrees_checked ht ht.clearFault)
  case setSettings => exact agreesAfter_next (agrees_settled hs fun t ht => agrees_checked ht ht.setSettings)
  case closeRoll => exact agreesAfter_next (agrees_settled hs fun t ht => agrees_checked ht ht.closeRoll)
  case cancelOrder => exact agreesAfter_next (agrees_settled hs fun t ht => agrees_checked ht ht.cancelOrder)
  case discardLabels => exact agreesAfter_next (agrees_settled hs fun t ht => agrees_checked ht ht.discardLabels)
  case stepOn => exact agreesAfter_next (agrees_takeFrame hs fun t ht => agrees_checked ht fun _ => ht.stepMode _ _)
  case stepOff => exact agreesAfter_next (agrees_takeFrame hs fun t ht => agrees_checked ht fun _ => ht.stepMode _ _)
  case linkReset =>
    exact agreesAfter_next (agrees_settled hs fun t ht => agrees_checked ht fun _ =>
      (engineAgrees_resetEntry (u := t)).calm (by simp [linkReset]))
  case loadRoll =>
    exact agreesAfter_next (agrees_settled hs fun t ht => agrees_checked ht fun _ => ht.calm (engineView_loadRoll _))
  case readResume => exact agreesAfter_next (agrees_replyOnly hs fun t => engineView_checked engineView_readResume)
  case readStatus => exact agreesAfter_next (agrees_replyOnly hs fun t => engineView_readStatus _)
  case ackEvents => exact agreesAfter_next (agrees_replyOnly hs fun t => engineView_checked engineView_ackEvents)
  case setNoticeMask => exact agreesAfter_next (agrees_replyOnly hs fun t => engineView_checked fun x => by simp [setNoticeMask])
  case clearTraps => exact agreesAfter_next (agrees_replyOnly hs fun t => engineView_checked engineView_clearTraps)
  case readSettings => exact agreesAfter_next (agrees_replyOnly hs fun t => engineView_checked fun x => by simp)
  case loadEntryBadSelector => exact agreesAfter_next (agrees_replyOnly hs fun t => engineView_checked fun x => by simp)
  case loadEntryStockWrite => exact agreesAfter_next (agrees_replyOnly hs fun t => engineView_checked engineView_writeStock)
  case loadEntryStockDelete => exact agreesAfter_next (agrees_replyOnly hs fun t => engineView_checked engineView_deleteStock)
  case loadEntryPatternWrite => exact agreesAfter_next (agrees_replyOnly hs fun t => engineView_checked engineView_writePattern)
  case loadEntryPatternEmpty => exact agreesAfter_next (agrees_replyOnly hs fun t => engineView_checked engineView_emptyPattern)
  case loadEntryTemplateWrite => exact agreesAfter_next (agrees_replyOnly hs fun t => engineView_checked engineView_writeTemplate)
  case loadEntryTemplateEmpty => exact agreesAfter_next (agrees_replyOnly hs fun t => engineView_checked engineView_emptyTemplate)
  case loadEntryFee => exact agreesAfter_next (agrees_replyOnly hs fun t => engineView_checked engineView_writeFee)
  case readEntryStock => exact agreesAfter_next (agrees_replyOnly hs fun t => engineView_checked engineView_readStock)
  case readEntryPattern => exact agreesAfter_next (agrees_replyOnly hs fun t => engineView_checked engineView_readPattern)
  case readEntryTemplate => exact agreesAfter_next (agrees_replyOnly hs fun t => engineView_checked engineView_readTemplate)
  case readEntryFee => exact agreesAfter_next (agrees_replyOnly hs fun t => engineView_checked engineView_readFee)
  case resyncRoll => exact agreesAfter_next (agrees_replyOnly hs fun t => engineView_checked engineView_resyncRoll)
  case readRollMap => exact agreesAfter_next (agrees_replyOnly hs fun t => engineView_checked engineView_readRollMap)
  case readOrder => exact agreesAfter_next (agrees_replyOnly hs fun t => engineView_checked engineView_readOrder)
  case openAccount => exact agreesAfter_next (agrees_replyOnly hs fun t => engineView_checkedNaming engineView_openAccount)
  case readAccount => exact agreesAfter_next (agrees_replyOnly hs fun t => engineView_checkedNaming engineView_readAccount)
  case credit => exact agreesAfter_next (agrees_replyOnly hs fun t => engineView_checkedNaming engineView_credit)
  case clearCharged => exact agreesAfter_next (agrees_replyOnly hs fun t => engineView_checkedNaming engineView_clearCharged)
  case setCeiling => exact agreesAfter_next (agrees_replyOnly hs fun t => engineView_checkedNaming fun x => engineView_onAccount (engineView_putCeiling x))
  case suspendAccount => exact agreesAfter_next (agrees_replyOnly hs fun t => engineView_checkedNaming fun _ => engineView_onAccount (engineView_putOpen _ _ _))
  case reopenAccount => exact agreesAfter_next (agrees_replyOnly hs fun t => engineView_checkedNaming fun _ => engineView_onAccount (engineView_putOpen _ _ _))
  case deleteAccount => exact agreesAfter_next (agrees_replyOnly hs fun t => engineView_checkedNaming fun _ => engineView_onAccount (engineView_dropAccount _))
  case directLoad => exact agreesAfter_direct hs
  case directReturn => exact agreesAfter_direct hs
  case directScan => exact agreesAfter_direct hs
  case directSpot => exact agreesAfter_direct hs
  case directAdvance => exact agreesAfter_direct hs
  case directReadCount => exact agreesAfter_direct hs
  case directTestShutter => exact agreesAfter_direct hs
  case directPrint => exact agreesAfter_direct hs
  case directUnknownCommand => exact agreesAfter_direct hs
  all_goals exact agreesAfter_next hs

theorem agrees_testTaking (hu : EngineAgrees u) : EngineAgrees (testTaking v u) := by
  refine testTaking_keeps (P := EngineAgrees) (fun f t w ht he => ?_) v u hu
  obtain ⟨w', he', h⟩ := execDesk_agrees (Desk.decode f) ht
  cases he.symm.trans he'
  exact h

/-! ## The events of the stand -/

theorem agreesAfter_settle (h : EngineAgrees u) : AgreesAfter (.next (settle u)) := agreesAfter_next h.settle

theorem EngineAgrees.pollSlots (h : EngineAgrees u) (l : List UnitSlot) :
    EngineAgrees (l.foldl (fun t k => pollSlot k t) u) := by
  have hpoll (k : UnitSlot) (t : State) (ht : EngineAgrees t) : EngineAgrees (pollSlot k t) := by
    have hsend (w : State) : engineView (sendPoll k w) = engineView w := engineView_of_gate (by simp) (by simp) (by simp)
    have h1 : EngineAgrees (updSlot k (fun x => { x with poll := none }) t) := ht.calm (by simp)
    unfold pollSlot silentSlot
    dsimp only
    split
    · split
      exacts [h1.calm (hsend _), h1.calm (by simp [hsend]), (h1.slotLost k .absent).calm (hsend _)]
    · exact ht.calm (hsend _)
  induction l generalizing u with
  | nil => exact h
  | cons k l ih => exact ih (hpoll k u h)

theorem EngineAgrees.takePresence (h : EngineAgrees u) (k : UnitSlot) (p : Presence) : EngineAgrees (takePresence k p u) := by
  have h1 : EngineAgrees (updSlot k (fun x => { x with poll := none }) u) := h.calm (by simp)
  have hhand (t : State) : engineView (handOnPresent k p t) = engineView t := by
    unfold handOnPresent
    (repeat' split) <;> simp
  unfold Machine.takePresence
  dsimp only
  split
  · exact h1.calm (by simp [hhand])
  · split
    exacts [h1.calm (by simp), h1]

theorem EngineAgrees.takeStatus (h : EngineAgrees u) (k : UnitSlot) (x : StatusReport) : EngineAgrees (takeStatus k x u) := by
  have h1 : EngineAgrees (updSlot k (fun x => { x with poll := none }) u) := h.calm (by simp)
  have hstatus (t : State) (ht : EngineAgrees t) : EngineAgrees (statusEvents k x t) := by
    unfold statusEvents
    split
    · exact ht.calm (by simp)
    · exact ht
    · split
      exacts [ht.slotLost _ _, ht]
    · split
      · dsimp only
        split <;> exact ht.calm (by simp)
      · exact ht
  unfold Machine.takeStatus
  dsimp only
  split
  exacts [hstatus _ h1, h1.slotLost _ _]

/-! ### Completions (R28, R36, R48 to R55, R77 to R79, R90 to R97, R125, R180, R183) -/

theorem agreesAfter_completion {k : UnitSlot} {x : Nat} {accepts : Outstanding → Bool}
    {handle : Outstanding → State → State} (hs : EngineAgrees s)
    (h : ∀ o t, EngineAgrees t → EngineAgrees (handle o t)) : AgreesAfter (completion k x accepts handle s) := by
  unfold completion resolve
  split
  · next o _ =>
    have h1 : EngineAgrees (handle o (clearOutstanding k s)) := h o _ (hs.calm (by simp))
    exact agreesAfter_settle (h1.calm (by simp))
  · exact agreesAfter_next hs

theorem engineView_writes {α : Type} (n : α → Nat) (d : Order → Nat) (l : List α) :
    engineView (l.foldl (fun t x => updOrder (n x) (fun o => { o with density := some (d o) }) t) u) = engineView u := by
  induction l generalizing u with
  | nil => rfl
  | cons x l ih => simp [ih]

theorem EngineAgrees.gateJam (h : EngineAgrees u) : EngineAgrees (gateJam u) := by
  unfold Machine.gateJam
  split
  exacts [h.calm (by simp), h.raiseFault _]

theorem EngineAgrees.afterLoad (h : EngineAgrees u) : EngineAgrees (afterLoad u) := by
  have h1 : EngineAgrees (updVisit (fun v => { v with slide := true }) u) := h.calm (by simp)
  have hfixed (t : State) : engineView (writeFixedDensities t) = engineView t := by
    unfold writeFixedDensities
    split
    exacts [rfl, engineView_writes _ _ _]
  unfold Machine.afterLoad
  dsimp only
  split
  · exact h1
  · split
    · exact h1
    · split
      · exact h1.enterReturning
      · split
        exacts [EngineAgrees.enterExposing (h1.calm (hfixed _)), h1.enterMetering]

theorem EngineAgrees.loadDone (h : EngineAgrees u) (x : LoadResult) : EngineAgrees (loadDone x u) := by
  cases x
  · exact h.afterLoad
  · unfold Machine.loadDone emptyLoad
    dsimp only
    split
    exacts [h, EngineAgrees.enterReturning (h.calm (by simp))]
  · exact h.gateJam

theorem EngineAgrees.returnDone (h : EngineAgrees u) (x : ReturnResult) : EngineAgrees (returnDone x u) := by
  cases x
  · have h1 : EngineAgrees (updVisit (fun v => { v with slide := false }) u) := h.calm (by simp)
    unfold Machine.returnDone
    dsimp only
    split
    exacts [h1, h1.closeVisit]
  · exact h.gateJam

theorem EngineAgrees.judgeMetering (h : EngineAgrees u) : EngineAgrees (judgeMetering u) := by
  unfold Machine.judgeMetering
  dsimp only
  have h1 : EngineAgrees (updVisit (fun v => { v with metering := false, rereads := [] })
      (u.setTimer { u.timer with lamp := false })) := h.calm (by simp)
  generalize updVisit _ _ = t at h1
  have h2 : EngineAgrees (writeDensities (failOrders .meterFail (meterFailed t) t)) :=
    h1.calm ((engineView_writes id _ _).trans (engineView_failOrders _ _))
  split
  · exact h2
  · split
    exacts [h2.enterReturning, h2.enterExposing]

theorem EngineAgrees.nextReread (h : EngineAgrees u) : EngineAgrees (nextReread u) := by
  unfold Machine.nextReread
  split
  exacts [h.calm (by simp), h.judgeMetering]

theorem EngineAgrees.scanDone (h : EngineAgrees u) (x : ScanResult) : EngineAgrees (scanDone x u) :=
  EngineAgrees.nextReread (h.calm (by simp))

theorem EngineAgrees.spotDone (h : EngineAgrees u) (z : Nat) (x : Reading) : EngineAgrees (spotDone z x u) :=
  EngineAgrees.nextReread (h.calm (by simp))

theorem EngineAgrees.resolveFrame (h : EngineAgrees u) (k : Back) (f : FrameRec) (x : AdvanceResult) (c m : Nat) :
    EngineAgrees (resolveFrame k f x c m u) := by
  have hjudge (t : State) (ht : EngineAgrees t) : EngineAgrees (judgeCount k f x c t) := by
    have hsus : EngineAgrees (enterSuspect k t) := ht.calm (by simp)
    unfold judgeCount
    dsimp only
    split
    · exact ht.calm (by simp)
    · split
      · exact ht.calm (by simp)
      · split
        exacts [hsus.raiseFault _, ht]
  have houtcome (t : State) : engineView (applyOutcome k f m t) = engineView t := by
    unfold applyOutcome
    dsimp only
    (repeat' split) <;> simp
  have hredo (t : State) : engineView (redoAfter k f m u t) = engineView t := by
    unfold redoAfter
    dsimp only
    split <;> simp
  have hcharge (t : State) : engineView (chargeOutcome k f m t) = engineView t := by
    unfold chargeOutcome
    split <;> simp
  have h1 : EngineAgrees (judgeCount k f x c (recordCount k c (writeFrame k f.position (completedEntry f m)
      (dropFrame k u)))) := hjudge _ (h.calm (by simp))
  have h2 : EngineAgrees (chargeOutcome k f m (redoAfter k f m u (clearOwed k (applyOutcome k f m (judgeCount k f x c
      (recordCount k c (writeFrame k f.position (completedEntry f m) (dropFrame k u)))))))) :=
    h1.calm (by simp [houtcome, hredo, hcharge])
  unfold Machine.resolveFrame
  dsimp only
  split
  exacts [h2, h2.calm (by simp)]

theorem EngineAgrees.advanceDone (h : EngineAgrees u) (k : Back) (x : AdvanceResult) (c m : Nat) :
    EngineAgrees (advanceDone k x c m u) := by
  have hlimit (f : FrameRec) (b t : State) : engineView (tellLimit f b t) = engineView t := by
    unfold tellLimit tellFault
    split <;> simp
  have hclosing (t : State) : engineView (finishIfClosing k t) = engineView t := by
    unfold finishIfClosing
    split <;> simp
  unfold Machine.advanceDone
  split
  · exact h.calm (by simp)
  · next f _ =>
    have h1 := h.resolveFrame k f x c m
    have h2 : EngineAgrees (cutOutcome f.serial k (frameOutcome f m) (finishIfClosing k (completeCancels
        (tellLimit f u (Machine.resolveFrame k f x c m u))))) := h1.calm (by simp [hlimit, hclosing])
    exact EngineAgrees.calm (h2.stepHold f.serial).testVisit (by simp)

theorem EngineAgrees.leaderMismatch (h : EngineAgrees u) (k : Back) : EngineAgrees (leaderMismatch k u) :=
  EngineAgrees.raiseFault (h.calm (by simp)) _

theorem EngineAgrees.leaderDone (h : EngineAgrees u) (k : Back) (x : AdvanceResult) (c : Nat) :
    EngineAgrees (leaderDone k x c u) := by
  have h1 : EngineAgrees (recordCount k c (updRoll k (fun x => { x with leaderRemaining := 0 }) u)) := h.calm (by simp)
  unfold Machine.leaderDone
  dsimp only
  split
  · exact h1.calm (by simp)
  · split
    exacts [h1.calm (by simp), h1.leaderMismatch k]

theorem EngineAgrees.passThroughDone (h : EngineAgrees u) (k : Back) (n : Nat) (x : AdvanceResult) (c : Nat) :
    EngineAgrees (passThroughDone k n x c u) := by
  have h1 (m : Nat) : EngineAgrees (recordCount k c (updRoll k (fun x => { x with leaderRemaining := m }) u)) :=
    h.calm (by simp)
  unfold Machine.passThroughDone endSequence
  dsimp only
  split
  · exact h.calm (by simp)
  · split
    · exact (h1 _).leaderMismatch k
    · split <;> exact h.calm (by simp)

theorem engineView_resyncDone (k : Back) (tag : Option Byte) (c : Nat) :
    engineView (resyncDone k tag c u) = engineView u := by
  have hadopt (t : State) : engineView (adoptCount k c t) = engineView t := by
    unfold adoptCount
    dsimp only
    split <;> simp
  unfold resyncDone
  dsimp only
  split <;> simp [hadopt]

theorem engineView_directDone (k : UnitSlot) (o : Outstanding) (x : DirectResult) :
    engineView (directDone k o x u) = engineView u := by
  unfold directDone directEffect
  (repeat' split) <;> simp

theorem EngineAgrees.printDone (h : EngineAgrees u) (x : PrintResult) : EngineAgrees (printDone x u) := by
  unfold Machine.printDone
  cases x
  · dsimp only
    split
    exacts [EngineAgrees.testVisit (h.calm (by simp)), h.calm (by simp)]
  · exact h.calm (by simp)

theorem EngineAgrees.expireAt (h : EngineAgrees u) (c : Nat) (f : Firing) : EngineAgrees (expireAt c f u) := by
  have h1 : EngineAgrees (closeShutters c f u) := h.calm (by simp [closeShutters])
  unfold Machine.expireAt
  dsimp only
  split
  · unfold lampFalls
    split
    exacts [h1.endFiring, h1.abortFiring]
  · split
    exacts [h1.abortFiring, h1]

/-! ## Every command -/

theorem execPresenceAnswer_agrees (hs : EngineAgrees s) (k : UnitSlot) (x : Nat) (p : Presence) :
    AgreesAfter (execPresenceAnswer k x p s) := by
  unfold execPresenceAnswer
  split
  exacts [agreesAfter_settle (hs.takePresence _ _), agreesAfter_next hs]

theorem execStatusAnswer_agrees (hs : EngineAgrees s) (k : UnitSlot) (x : Nat) (p : StatusReport) :
    AgreesAfter (execStatusAnswer k x p s) := by
  unfold execStatusAnswer
  split
  exacts [agreesAfter_settle (hs.takeStatus _ _), agreesAfter_next hs]

theorem execScanCompletion_agrees (hs : EngineAgrees s) (x : Nat) (p : ScanResult) :
    AgreesAfter (execScanCompletion x p s) :=
  agreesAfter_completion hs fun _ _ ht => by
    split
    exacts [ht.scanDone _, ht]

theorem execSpotCompletion_agrees (hs : EngineAgrees s) (x : Nat) (p : Reading) :
    AgreesAfter (execSpotCompletion x p s) :=
  agreesAfter_completion hs fun _ _ ht => by
    split
    exacts [ht.spotDone _ _, ht]

theorem execPassThroughCompletion_agrees (hs : EngineAgrees s) (k : Back) (x : Nat) (p : AdvanceResult) (c : Nat) :
    AgreesAfter (execPassThroughCompletion k x p c s) :=
  agreesAfter_completion hs fun o t ht => by
    have hans (tag : Option Byte) (w : State) : engineView (answerPass tag k p c w) = engineView w := by simp [answerPass]
    refine EngineAgrees.testReturning ?_
    split
    exacts [(ht.passThroughDone _ _ _ _).calm (hans _ _), ht.calm (hans _ _)]

theorem execDetachingAnswer_agrees (hs : EngineAgrees s) (k : Back) (x : Nat) :
    AgreesAfter (execDetachingAnswer k x s) := by
  unfold execDetachingAnswer
  split
  exacts [agreesAfter_next hs, agreesAfter_settle (hs.slotLost _ _)]

theorem execUnitCommandTimeout_agrees (hs : EngineAgrees s) (k : UnitSlot) : AgreesAfter (execUnitCommandTimeout k s) := by
  unfold execUnitCommandTimeout
  split
  exacts [agreesAfter_next hs, agreesAfter_settle (hs.commandTimeout _ _)]

theorem execLampRiseExpiry_agrees (hs : EngineAgrees s) : AgreesAfter (execLampRiseExpiry s) := by
  unfold execLampRiseExpiry
  split
  exacts [agreesAfter_next hs, agreesAfter_settle (hs.calm rfl)]

theorem execShutterFallExpiry_agrees (hs : EngineAgrees s) (k : Back) : AgreesAfter (execShutterFallExpiry k s) := by
  unfold execShutterFallExpiry
  split
  · exact agreesAfter_next hs
  · split
    exacts [agreesAfter_next hs, agreesAfter_settle (hs.expireAt _ _)]

theorem execLampFallExpiry_agrees (hs : EngineAgrees s) : AgreesAfter (execLampFallExpiry s) := by
  unfold execLampFallExpiry
  split
  exacts [agreesAfter_next hs, agreesAfter_settle (hs.expireAt _ _)]

theorem execSenseDeadlineExpiry_agrees (hs : EngineAgrees s) : AgreesAfter (execSenseDeadlineExpiry s) := by
  unfold execSenseDeadlineExpiry
  split
  exacts [agreesAfter_next hs, agreesAfter_settle (hs.expireAt _ _)]

theorem execLampSenseActive_agrees (hs : EngineAgrees s) : AgreesAfter (execLampSenseActive s) := by
  unfold execLampSenseActive
  dsimp only
  split
  exacts [agreesAfter_next (hs.calm rfl), agreesAfter_settle (hs.calm rfl)]

theorem execLampSenseInactive_agrees (hs : EngineAgrees s) : AgreesAfter (execLampSenseInactive s) := by
  have h1 : EngineAgrees (s.setTimer { s.timer with lampSense := false }) := hs.calm rfl
  unfold execLampSenseInactive
  dsimp only
  split
  exacts [agreesAfter_next h1, agreesAfter_settle h1.abortFiring]

theorem execUpstreamFrameSent_agrees (hs : EngineAgrees s) : AgreesAfter (execUpstreamFrameSent s) := by
  unfold execUpstreamFrameSent
  split
  exacts [agreesAfter_next hs, agreesAfter_next (agrees_testTaking (EngineAgrees.transmit (hs.calm (by simp))))]

theorem engineAgrees_reset : EngineAgrees State.reset := by unfold EngineAgrees; decide

theorem exec_agrees (c : Instr) (hs : EngineAgrees s) : AgreesAfter (exec c s) := by
  have desk := execDesk_agrees c hs
  cases c
  case powerOn => exact agreesAfter_next (engineAgrees_reset.calm rfl)
  case deskFrameReceived => exact agreesAfter_next (agrees_testTaking (hs.calm (by simp)))
  case byteReceived => exact agreesAfter_next (agrees_testTaking (hs.calm (by simp)))
  case deskReadyActive => exact agreesAfter_next (agrees_testTaking (EngineAgrees.transmit (hs.calm (by simp))))
  case upstreamFrameSent => exact execUpstreamFrameSent_agrees hs
  case byteGapExpiry => exact agreesAfter_next (hs.calm (by simp))
  case deskReadyInactive => exact agreesAfter_next (hs.calm (by simp))
  case pollExpiry => exact agreesAfter_settle ((hs.pollSlots allSlots).calm rfl)
  case presenceAnswer => exact execPresenceAnswer_agrees hs _ _ _
  case statusAnswer => exact execStatusAnswer_agrees hs _ _ _
  case loadCompletion => exact agreesAfter_completion hs fun _ _ ht => ht.loadDone _
  case returnCompletion => exact agreesAfter_completion hs fun _ _ ht => ht.returnDone _
  case scanCompletion => exact execScanCompletion_agrees hs _ _
  case spotCompletion => exact execSpotCompletion_agrees hs _ _
  case advanceCompletion => exact agreesAfter_completion hs fun _ _ ht => ht.advanceDone _ _ _ _
  case leaderCompletion k x r c =>
    exact agreesAfter_completion hs fun _ _ ht => EngineAgrees.testReturning ((ht.leaderDone k r c).calm (by simp))
  case blankingCompletion => exact agreesAfter_completion hs fun _ _ ht => ht.calm (by simp)
  case passThroughCompletion => exact execPassThroughCompletion_agrees hs _ _ _ _
  case readCountCompletion =>
    exact agreesAfter_completion hs fun _ _ ht => EngineAgrees.testReturning (ht.calm (engineView_resyncDone _ _ _))
  case directCompletion => exact agreesAfter_completion hs fun _ _ ht => ht.calm (by simp [engineView_directDone])
  case printCompletion x r => exact agreesAfter_completion hs fun _ _ ht => (ht.printDone r).calm (by simp)
  case detachingAnswer => exact execDetachingAnswer_agrees hs _ _
  case unitCommandTimeout => exact execUnitCommandTimeout_agrees hs _
  case lampRiseExpiry => exact execLampRiseExpiry_agrees hs
  case shutterFallExpiry => exact execShutterFallExpiry_agrees hs _
  case lampFallExpiry => exact execLampFallExpiry_agrees hs
  case senseDeadlineExpiry => exact execSenseDeadlineExpiry_agrees hs
  case lampSenseActive => exact execLampSenseActive_agrees hs
  case lampSenseInactive => exact execLampSenseInactive_agrees hs
  all_goals exact desk

/-- Settles O5: every operation keeps the agreement of the engine. -/
theorem engineAgreementIsKept : Obligations.EngineAgreementIsKept := by
  intro s t hs h
  unfold step at h
  split at h
  · cases h
    exact hs
  · next c rest _ =>
    obtain ⟨u, hu, hagrees⟩ := exec_agrees c (s := s.setPending rest) hs
    cases h.symm.trans hu
    exact hagrees

end Sys2Proof.Machine
end

section
/-!
The step, power-on, and frames no block owns: the statements O1, O8, O9, O10 and O15.
-/

namespace Sys2Proof.Machine

variable {s t : State}

/-- Settles O1. -/
theorem stepRunsTheQueue : Obligations.StepRunsTheQueue :=
  ⟨fun c rest s h => by simp [step, h], fun s h => by simp [step, h]⟩

/-- Settles O8. -/
theorem resetKeepsTheInvariants : Obligations.ResetKeepsTheInvariants :=
  ⟨capacities_reset, engineAgrees_reset, replyEntries_reset, recordsAgree_reset, by decide⟩

/-! ## Power-on (R20, R21, R42, R64, R69, R85, R107, R131, R147, R168, R196) -/

theorem roll_reset (k : Back) : State.reset.roll k = State.reset.rolls.a := by cases k <;> rfl

theorem slot_reset (u : UnitSlot) : State.reset.slot u = State.reset.bus.feeder := by cases u <;> rfl

/-- Settles O9: each part of the reset state is a constant. -/
theorem powerOn : Obligations.PowerOn := by
  refine ⟨?_, fun s => ⟨_, rfl, rfl, rfl, rfl, rfl, rfl, rfl, rfl, rfl, rfl, rfl, rfl, rfl⟩⟩
  simp only [roll_reset, slot_reset]
  exact ⟨rfl, rfl, rfl, rfl, rfl, rfl, rfl, rfl, rfl, rfl, rfl, rfl, rfl, rfl, rfl, rfl, rfl, rfl, rfl, rfl, rfl, rfl,
    fun _ => ⟨rfl, rfl, rfl, rfl⟩, rfl, rfl, rfl, rfl, rfl, rfl, fun _ => ⟨rfl, rfl, rfl, rfl, rfl⟩, rfl, rfl, rfl, rfl,
    rfl, rfl, rfl, rfl, rfl, rfl, rfl, rfl, rfl, rfl, rfl, rfl, rfl, rfl, rfl, rfl, rfl, rfl, rfl⟩

/-! ## Frames (R184, R186, R199 to R202) -/

/-- The check word after each digit of "123456789". -/
theorem crc16_digits :
    crc16 [0x31#8, 0x32#8, 0x33#8, 0x34#8, 0x35#8, 0x36#8, 0x37#8, 0x38#8, 0x39#8] = 0x29B1#16 := by
  have h1 : crcByte 0xFFFF#16 0x31#8 = 0xC782#16 := by decide
  have h2 : crcByte 0xC782#16 0x32#8 = 0x3DBA#16 := by decide
  have h3 : crcByte 0x3DBA#16 0x33#8 = 0x5BCE#16 := by decide
  have h4 : crcByte 0x5BCE#16 0x34#8 = 0x5349#16 := by decide
  have h5 : crcByte 0x5349#16 0x35#8 = 0x4560#16 := by decide
  have h6 : crcByte 0x4560#16 0x36#8 = 0x2EF4#16 := by decide
  have h7 : crcByte 0x2EF4#16 0x37#8 = 0x7718#16 := by decide
  have h8 : crcByte 0x7718#16 0x38#8 = 0xA12B#16 := by decide
  have h9 : crcByte 0xA12B#16 0x39#8 = 0x29B1#16 := by decide
  simp only [crc16, List.foldl_cons, List.foldl_nil, h1, h2, h3, h4, h5, h6, h7, h8, h9]

theorem settingItems_minusTwo :
    Desk.settingItems [1#8, 2#8, 0xFF#8, 0xFF#8, 0xFF#8, 0xFE#8] = some (.given [⟨2, -2⟩]) := by
  simp [Desk.settingItems, Desk.takeNat, Desk.takeMany, Desk.takeItem, Desk.takeInt, Desk.natOf, Desk.intOf,
    Desk.Parsed.bind, Desk.atEnd]

theorem decode_setSettings_minusTwo : Desk.decode ⟨3#8, 7#8, [13#8, 1#8, 2#8, 0xFF#8, 0xFF#8, 0xFF#8, 0xFE#8]⟩ =
    .setSettings 7#8 (.given [⟨2, -2⟩]) := by
  simp [Desk.decode, Desk.decodeManage, Desk.orDiscard, settingItems_minusTwo]

/-- Settles O10: fixed bytes, evaluated. -/
theorem framesReadAsTheirCommands : Obligations.FramesReadAsTheirCommands :=
  ⟨crc16_digits, rfl, rfl, rfl, rfl, rfl, decode_setSettings_minusTwo, rfl, rfl, rfl⟩

/-- Settles O15. -/
theorem unownedFrames : Obligations.UnownedFrames := by
  refine fun cls tag code s t => ⟨fun ht => ?_, fun ht => ?_, fun ht => .of_action rfl ht rfl⟩
  · exact congrArg _ (takeFrame_taken ht)
  · exact congrArg _ (takeFrame_taken ht)

end Sys2Proof.Machine
end


section
/-!
SUPPORT. How a MANAGE command starts (R167, R199, R200): what it answers past the check for BUSY, while RESETTING, and when
its fields do not agree with their layout; and the statement O16 put together from them.
-/

namespace Sys2Proof.Machine

variable {α : Type} {c : Instr} {tag : Byte} {code : Nat} {s t u : State} {r : Result} {d : ReplyData}

/-! ## Past the check for BUSY -/

/-- Past BUSY, a command that only replies answers what its body does. -/
theorem Answers.of_checked {x : α} {body : α → State → State}
    (hc : exec c s = .next (replyOnly c (checked tag code (.given x) body) s)) (ht : taken c s = some t)
    (hr : t.gate.engine ≠ .resetting) (h : body x t = answer tag code r d u) : Answers c tag code r d s u :=
  .of_action hc ht ((checked_given hr).trans h)

/-- Past BUSY, an account command answers what its body does. -/
theorem Answers.of_checkedNaming {x : α} {data : α → ReplyData} {body : α → State → State}
    (hc : exec c s = .next (replyOnly c (checkedNaming tag code (.given x) data body) s)) (ht : taken c s = some t)
    (hr : t.gate.engine ≠ .resetting) (h : body x t = answer tag code r d u) : Answers c tag code r d s u :=
  .of_action hc ht ((checkedNaming_given hr).trans h)

/-- A command that can change the stand does its action and settles. -/
theorem exec_deskAct {act : State → State} (hc : exec c s = .next (deskAct c act s)) (ht : taken c s = some t) :
    exec c s = .next (settle (act t)) := by
  rw [hc, deskAct, takeFrame_taken ht]

/-- Past BUSY, a command that can change the stand does what its body does, and settles. -/
theorem exec_checked {x : α} {body : α → State → State}
    (hc : exec c s = .next (deskAct c (checked tag code (.given x) body) s)) (ht : taken c s = some t)
    (hr : t.gate.engine ≠ .resetting) (h : body x t = u) : exec c s = .next (settle u) := by
  rw [exec_deskAct hc ht, checked_given hr, h]

/-! ## While RESETTING (R167) -/

/-- Taken while RESETTING, the command is answered BUSY, and nothing else happens but what settles. -/
def BusyWhileResetting (c : Instr) (tag : Byte) (code : Nat) : Prop :=
  ∀ s t, taken c s = some t → t.gate.engine = .resetting →
    ∃ data, exec c s = .next (manageReplied tag code (.refused .busy) data t) ∨
      exec c s = .next (settle (answer tag code (.refused .busy) data t))

theorem busy_of_replyOnly {f : Fields α} {body : α → State → State}
    (hc : ∀ s, exec c s = .next (replyOnly c (checked tag code f body) s)) : BusyWhileResetting c tag code :=
  fun s _ ht hr => ⟨.none, .inl (Answers.of_action (hc s) ht (checked_busy hr))⟩

theorem busy_of_deskAct {f : Fields α} {body : α → State → State}
    (hc : ∀ s, exec c s = .next (deskAct c (checked tag code f body) s)) : BusyWhileResetting c tag code :=
  fun s _ ht hr => ⟨.none, .inr (by rw [exec_deskAct (hc s) ht, checked_busy hr])⟩

theorem busy_of_naming {f : Fields α} {data : α → ReplyData} {body : α → State → State}
    (hc : ∀ s, exec c s = .next (replyOnly c (checkedNaming tag code f data body) s)) :
    BusyWhileResetting c tag code := fun s t ht hr => by
  cases f with
  | given x => exact ⟨data x, .inl (Answers.of_action (hc s) ht (checkedNaming_busy hr))⟩
  | mismatched =>
    exact ⟨.none, .inl (Answers.of_action (hc s) ht (checked_busy (f := .mismatched) (body := body) hr))⟩

/-- A MANAGE frame with a payload carries its command's code first. -/
theorem manage_eq_some {l rest : List Byte} {f : Frame} {b : Byte} (h : Desk.manage tag code l = some f)
    (hp : f.payload = b :: rest) : f.tag = tag ∧ b = BitVec.ofNat 8 code := by
  obtain rfl : _ = f := Option.some.inj h
  exact ⟨rfl, (List.cons.inj hp).1.symm⟩

/-- What a MANAGE frame's tag and first byte are, of a command that is BUSY with that tag and code. -/
theorem BusyWhileResetting.of_manage {l rest : List Byte} {f : Frame} {b : Byte}
    (busy : BusyWhileResetting c tag code) (hn : (BitVec.ofNat 8 code).toNat = code)
    (h : Desk.manage tag code l = some f) (hp : f.payload = b :: rest) :
    BusyWhileResetting c f.tag b.toNat := by
  obtain ⟨htag, hb⟩ := manage_eq_some h hp
  rwa [htag, hb, hn]

/-- A MANAGE command other than READ STATUS is BUSY while RESETTING. -/
theorem busy_of_encode {f : Frame} {b : Byte} {rest : List Byte} (he : Desk.encode c = some f) (hcls : f.cls = 3#8)
    (hp : f.payload = b :: rest) (hlo : 1 ≤ b.toNat) (hhi : b.toNat ≤ 31) (hs : b ≠ 9#8) (hw : c.wellFormed = true) :
    BusyWhileResetting c f.tag b.toNat := by
  cases c
  case run tag x | stopHold tag x | stopRelease tag x | clearFault tag x | linkReset tag x | setSettings tag x |
      loadRoll tag x | closeRoll tag x | cancelOrder tag x | discardLabels tag x =>
    exact (busy_of_deskAct fun _ => rfl).of_manage rfl he hp
  case stepOn tag x | stepOff tag x | readResume tag x | ackEvents tag x | setNoticeMask tag x | clearTraps tag x |
      readSettings tag x | loadEntryStockWrite tag x | loadEntryStockDelete tag x | loadEntryPatternWrite tag x |
      loadEntryPatternEmpty tag x | loadEntryTemplateWrite tag x | loadEntryTemplateEmpty tag x | loadEntryFee tag x |
      readEntryStock tag x | readEntryPattern tag x | readEntryTemplate tag x | readEntryFee tag x | resyncRoll tag x |
      readRollMap tag x | readOrder tag x =>
    exact (busy_of_replyOnly fun _ => rfl).of_manage rfl he hp
  case openAccount tag x | readAccount tag x | setCeiling tag x | suspendAccount tag x | reopenAccount tag x |
      credit tag x | clearCharged tag x | deleteAccount tag x =>
    exact (busy_of_naming fun _ => rfl).of_manage rfl he hp
  case loadEntryBadSelector tag reading sel =>
    exact (busy_of_replyOnly fun _ => rfl).of_manage (by cases reading <;> rfl) he hp
  case readStatus tag x => exact absurd (manage_eq_some he hp).2 hs
  case unknownManageCommand tag x =>
    obtain rfl : _ = f := Option.some.inj he
    obtain rfl : x = b := (List.cons.inj hp).1
    simp [Instr.wellFormed, knownManage, hlo, hhi] at hw
  case unknownClass cls tag | payloadLengthDiscard cls tag =>
    obtain rfl : _ = f := Option.some.inj he
    cases hp
  case orderFrame tag x | directLoad tag unit x | directReturn tag unit x | directScan tag unit x |
      directSpot tag unit x | directAdvance tag unit x | directReadCount tag unit x | directTestShutter tag unit x |
      directPrint tag unit x | directUnknownCommand tag unit x =>
    obtain rfl : _ = f := Option.some.inj he
    simp at hcls
  all_goals cases he

/-! ## Fields that do not agree with their layout (R199, R200) -/

/-- The reason a frame with mismatched fields is refused with. -/
def mismatchReason (code : Nat) (t : State) : Reason :=
  if t.gate.engine = .resetting ∧ code ≠ 9 then .busy else .badField

theorem checked_mismatched {body : α → State → State} (hn : code ≠ 9) :
    checked tag code .mismatched body t = answer tag code (.refused (mismatchReason code t)) .none t := by
  by_cases hr : t.gate.engine = .resetting <;> simp [checked, mismatchReason, hr, hn]

/-- The answer of a command to a frame whose fields are mismatched, the rows that can change the stand settling. -/
def AnswersMismatched (p : Instr × Nat × Bool) (tag : Byte) (s : State) : Prop :=
  ∀ t, taken p.1 s = some t → exec p.1 s = .next
    (if p.2.2 then settle (answer tag p.2.1 (.refused (mismatchReason p.2.1 t)) .none t)
      else manageReplied tag p.2.1 (.refused (mismatchReason p.2.1 t)) .none t)

theorem mismatched_settles {body : α → State → State}
    (hc : exec c s = .next (deskAct c (checked tag code .mismatched body) s)) (hn : code ≠ 9) :
    AnswersMismatched (c, code, true) tag s := fun t ht => by
  rw [exec_deskAct hc ht, checked_mismatched hn, if_pos rfl]

theorem mismatched_answers {body : α → State → State}
    (hc : exec c s = .next (replyOnly c (checked tag code .mismatched body) s)) (hn : code ≠ 9) :
    AnswersMismatched (c, code, false) tag s := fun _ ht =>
  Answers.of_action hc ht (checked_mismatched hn)

theorem mismatched_naming {data : α → ReplyData} {body : α → State → State}
    (hc : exec c s = .next (replyOnly c (checkedNaming tag code .mismatched data body) s)) (hn : code ≠ 9) :
    AnswersMismatched (c, code, false) tag s :=
  mismatched_answers (body := body) hc hn

/-- READ STATUS is BAD-FIELD in every engine state. -/
theorem readStatus_mismatched : AnswersMismatched (.readStatus tag .mismatched, 9, false) tag s := fun t ht =>
  Answers.of_action rfl ht (by simp [mismatchReason, readStatus, refuse]; rfl)

/-- Settles O16: the codes by their rows, and the rows of the mismatched frames. -/
theorem manageCommandsBusyOrMismatched : Obligations.ManageCommandsBusyOrMismatched := by
  refine ⟨fun c f code rest s t he hcls hp hlo hhi hs hw ht hr => busy_of_encode he hcls hp hlo hhi hs hw s t ht hr,
    fun c code stand tag s t hmem ht => ?_⟩
  suffices h : ∀ p ∈ _, AnswersMismatched p tag s by
    have := h _ hmem t ht
    revert this
    cases stand <;> exact id
  simp only [List.forall_mem_cons]
  exact ⟨mismatched_settles rfl (by decide), mismatched_settles rfl (by decide), mismatched_settles rfl (by decide),
    mismatched_answers rfl (by decide), mismatched_answers rfl (by decide), mismatched_settles rfl (by decide),
    mismatched_answers rfl (by decide), mismatched_settles rfl (by decide), readStatus_mismatched,
    mismatched_answers rfl (by decide), mismatched_answers rfl (by decide), mismatched_answers rfl (by decide),
    mismatched_settles rfl (by decide), mismatched_answers rfl (by decide), mismatched_answers rfl (by decide),
    mismatched_answers rfl (by decide), mismatched_answers rfl (by decide), mismatched_answers rfl (by decide),
    mismatched_answers rfl (by decide), mismatched_answers rfl (by decide), mismatched_answers rfl (by decide),
    mismatched_answers rfl (by decide), mismatched_answers rfl (by decide), mismatched_answers rfl (by decide),
    mismatched_answers rfl (by decide), mismatched_settles rfl (by decide), mismatched_settles rfl (by decide),
    mismatched_answers rfl (by decide), mismatched_answers rfl (by decide), mismatched_settles rfl (by decide),
    mismatched_answers rfl (by decide), mismatched_settles rfl (by decide), mismatched_naming rfl (by decide),
    mismatched_naming rfl (by decide), mismatched_naming rfl (by decide), mismatched_naming rfl (by decide),
    mismatched_naming rfl (by decide), mismatched_naming rfl (by decide), mismatched_naming rfl (by decide),
    mismatched_naming rfl (by decide), List.forall_mem_nil _⟩

end Sys2Proof.Machine
end


section
/-!
READ SETTINGS, READ STATUS and READ ORDER (R198, R194, R19), and the fees (R133, R134): the statements O20 and O24.
-/

namespace Sys2Proof.Machine

variable {tag : Byte} {s t : State}

/-! ## READ SETTINGS (R198) -/

/-- A real day reads back from its value. -/
theorem dateOf_dateValue {d : Date} (h : d.real = true) : dateOf (dateValue (some d)) = d := by
  obtain ⟨y, m, day⟩ := d
  simp only [Date.real, Machine.inRange, Bool.and_eq_true, decide_eq_true_eq] at h
  obtain ⟨⟨-, -, hm⟩, -, hd⟩ := h
  have hday : day ≤ 31 := hd.trans (by unfold daysIn; (repeat' split) <;> omega)
  have hv : (dateValue (some ⟨y, m, day⟩)).toNat = y * 10000 + m * 100 + day := by simp [dateValue]; omega
  simp only [dateOf, hv, Date.mk.injEq]
  omega

/-- Writing back what READ SETTINGS answers changes nothing. -/
theorem foldl_writeSetting_settingItems {x : Settings} (h : x.inRanges = true) :
    (settingItems x).foldl writeSetting x = x := by
  have hmode : (if x.leaderMode = .auto then LeaderMode.auto else .manual) = x.leaderMode := by
    cases x.leaderMode <;> rfl
  have hpolicy : (if x.labelPolicy = .hold then LabelPolicy.hold else .skip) = x.labelPolicy := by
    cases x.labelPolicy <;> rfl
  have hdate : (if dateValue x.jobDate = -1 then none else some (dateOf (dateValue x.jobDate))) = x.jobDate := by
    have hreal : x.jobDate.all Date.real = true := by
      simp only [Settings.inRanges, Bool.and_eq_true] at h
      exact h.1.1.1.1.1.2
    cases hd : x.jobDate with
    | none => rfl
    | some d =>
      rw [hd] at hreal
      rw [dateOf_dateValue (by simpa using hreal), if_neg]
      simp only [dateValue]
      omega
  simp [settingItems, writeSetting, hmode, hpolicy, hdate]

/-! ## READ ORDER (R19) -/

theorem readOrder_none {n : Nat} (h : t.order? n = none) :
    readOrder tag n t = answer tag 22 (.refused .noOrder) .none t := by
  simp [readOrder, h, refuse]

theorem readOrder_some {n : Nat} {o : Order} (h : t.order? n = some o) :
    readOrder tag n t = answer tag 22 .ok (.order o) t := by
  simp [readOrder, h]

/-! ## READ STATUS (R194) -/

/-- Whether a slot holds a command of an issuer, outstanding or waiting. -/
theorem issuers_contains (x : Slot) (i : Issuer) :
    x.issuers.contains i = (x.outstanding.any (fun o => o.issuer == i) || x.waiting.any (fun c => c.issuer == i)) := by
  rw [Bool.eq_iff_iff]
  cases h : x.outstanding <;> simp [Slot.issuers, h, eq_comm (a := i)]

/-- Settles O20. -/
theorem readingSettingsStatusAndOrders : Obligations.ReadingSettingsStatusAndOrders := by
  refine ⟨fun tag s t ht => ⟨fun hr => .of_action rfl ht (checked_busy hr), fun hr => .of_checked rfl ht hr rfl, rfl,
      foldl_writeSetting_settingItems⟩,
    fun tag s t ht => ⟨.of_action rfl ht rfl, ⟨rfl, rfl, rfl, rfl⟩, ⟨rfl, rfl, rfl, rfl, rfl, rfl, rfl⟩, rfl, rfl, rfl,
      fun k => ?rolls, ⟨rfl, rfl, rfl, rfl, rfl, rfl⟩, ?labels, rfl, rfl, rfl, rfl, rfl, rfl, ?ready, rfl⟩,
    fun tag n s t ht hr => ⟨fun h => .of_checked rfl ht hr (readOrder_none h),
      fun o h => .of_checked rfl ht hr (readOrder_some h)⟩⟩
  case rolls =>
    have hfree : ∀ f : Film, (t.roll k).film = some f → (t.roll k).free = f.frames + 1 - (t.roll k).counter :=
      fun f hf => by simp [Roll.free, Roll.frames, hf]
    cases k <;> simp only [statusOf, rollStatus, PerBack.get, Roll.stock?] <;>
      congr 1 <;> exact Option.map_congr hfree
  case labels => simp only [statusOf, labelStatus, State.printOutstanding, issuers_contains]; rfl
  case ready => exact decide_eq_true_iff

/-! ## The fees (R133, R134) -/

theorem feeOf_eq_none {k : Nat} (h : k = 0 ∨ 3 < k) : feeOf k = none := by
  unfold feeOf
  split
  iterate 3 omega
  rfl

/-- The fee a number names. -/
theorem feeOf_eq_some {k : Nat} {n : FeeName} (h : k = 1 ∧ n = .order ∨ k = 2 ∧ n = .rush ∨ k = 3 ∧ n = .label) :
    feeOf k = some n := by
  rcases h with ⟨rfl, rfl⟩ | ⟨rfl, rfl⟩ | ⟨rfl, rfl⟩ <;> rfl

theorem Fees.get_set_self (f : Fees) (n : FeeName) (v : Nat) : (f.set n v).get n = v := by cases n <;> rfl

theorem Fees.get_set_of_ne (f : Fees) {n m : FeeName} (v : Nat) (h : m ≠ n) : (f.set n v).get m = f.get m := by
  cases n <;> cases m <;> first | rfl | exact absurd rfl h

/-- The state with one fee set. -/
def withFee (n : FeeName) (v : Nat) (t : State) : State := t.setCharge { t.charge with fees := t.charge.fees.set n v }

theorem writeFee_some {f : FeeFields} {n : FeeName} (h : feeOf f.fee = some n) :
    writeFee tag f t = answer tag 15 .ok (.feeChange (t.charge.fees.get n) (f.value.getD 0))
      (withFee n (f.value.getD 0) t) := by
  simp [writeFee, h, withFee]

theorem writeFee_none {f : FeeFields} (h : feeOf f.fee = none) :
    writeFee tag f t = answer tag 15 (.refused .badField) .none t := by
  simp [writeFee, h, refuse]

theorem readFee_none {k : Nat} (h : feeOf k = none) :
    readFee tag (some k) t = answer tag 16 (.refused .badField) .none t := by
  simp [readFee, h, refuse]

theorem readFee_some {k : Nat} {n : FeeName} (h : feeOf k = some n) :
    readFee tag (some k) t = answer tag 16 .ok (.fee (t.charge.fees.get n)) t := by
  simp [readFee, h]

/-- Settles O24. -/
theorem feesAndSelectors : Obligations.FeesAndSelectors := by
  refine fun tag s t hr => ⟨fun f ht => ⟨fun h => ?_, fun n h => ?_⟩, fun key ht => ⟨?_, ?_, ?_⟩, fun reading sel ht => ?_⟩
  · exact .of_checked rfl ht hr (writeFee_none (feeOf_eq_none h))
  · exact ⟨withFee n (f.value.getD 0) t, .of_checked rfl ht hr (writeFee_some (feeOf_eq_some h)), rfl,
      Fees.get_set_self _ n _, fun m hm => Fees.get_set_of_ne _ _ hm⟩
  · rintro rfl; exact .of_checked rfl ht hr rfl
  · rintro k rfl h; exact .of_checked rfl ht hr (readFee_none (feeOf_eq_none h))
  · rintro k n rfl h; exact .of_checked rfl ht hr (readFee_some (feeOf_eq_some h))
  · exact .of_action rfl ht (by simp [checked, hr]; rfl)

end Sys2Proof.Machine
end


section
/-!
SUPPORT. The account commands (R142 to R146): the statements O41 and O42.
-/

namespace Sys2Proof.Machine

variable {tag : Byte} {code n : Nat} {s t : State} {act : Account → State → State} {a : Account}

/-! ## A command on an account -/

theorem onAccount_house : onAccount tag code 0 act t = answer tag code (.refused .houseRefused) (.accountNumber 0) t := rfl

theorem onAccount_none (h0 : n ≠ 0) (h : t.charge.account? n = none) :
    onAccount tag code n act t = answer tag code (.refused .noAccount) (.accountNumber n) t := by
  simp [onAccount, h0, h, refuseAccount]

theorem onAccount_some (h0 : n ≠ 0) (h : t.charge.account? n = some a) : onAccount tag code n act t = act a t := by
  simp [onAccount, h0, h]

/-! ## SET CEILING, SUSPEND and REOPEN (R142, R143) -/

theorem putCeiling_low {f : AccountSum} (h : f.amount < a.committed + a.charged) :
    putCeiling tag f a t = answer tag 26 (.refused .ceilingLow) (.ceilingLow f.number (a.committed + a.charged)) t := by
  rw [putCeiling, if_pos h]

theorem putCeiling_sets {f : AccountSum} (h : a.committed + a.charged ≤ f.amount) :
    putCeiling tag f a t =
      answer tag 26 .ok (.ceilingSet f.number f.amount (f.amount - a.committed - a.charged))
        (updAccount f.number (fun x => { x with ceiling := f.amount }) t) := by
  rw [putCeiling, if_neg (Nat.not_lt.mpr h)]

/-- Settles O41. -/
theorem ceilingAndState : Obligations.CeilingAndState := by
  refine fun tag n amount s t hr => ⟨fun ht => ⟨?_, fun h0 h => ?_, fun a h0 h => ⟨fun hl => ?_, fun hl => ?_⟩⟩, ?_⟩
  · rintro rfl; exact .of_checkedNaming rfl ht hr rfl
  · exact .of_checkedNaming rfl ht hr (onAccount_none h0 h)
  · exact .of_checkedNaming rfl ht hr ((onAccount_some h0 h).trans (putCeiling_low hl))
  · exact .of_checkedNaming rfl ht hr ((onAccount_some h0 h).trans (putCeiling_sets hl))
  · rintro c code o (⟨rfl, rfl, rfl⟩ | ⟨rfl, rfl, rfl⟩) ht
    all_goals
      refine ⟨?_, fun h0 h => .of_checkedNaming rfl ht hr (onAccount_none h0 h), fun h0 h => ?_⟩
      · rintro rfl; exact .of_checkedNaming rfl ht hr rfl
      · obtain ⟨a, ha⟩ := Option.isSome_iff_exists.mp h
        exact .of_checkedNaming rfl ht hr (onAccount_some h0 ha)

/-! ## CREDIT, CLEAR CHARGED and DELETE ACCOUNT (R144 to R146) -/

theorem credit_none {f : AccountSum} (h0 : f.number ≠ 0) (h : t.charge.account? f.number = none) :
    credit tag f t = answer tag 29 (.refused .noAccount) (.accountNumber f.number) t := by
  simp [credit, h0, h, refuseAccount]

theorem credit_some {f : AccountSum} (h0 : f.number ≠ 0) (h : t.charge.account? f.number = some a) :
    credit tag f t = answer tag 29 .ok (.credited f.number (min f.amount a.charged) (a.charged - f.amount))
      (updAccount f.number (fun x => { x with charged := x.charged - f.amount }) t) := by
  simp [credit, h0, h]

theorem clearCharged_none (h0 : n ≠ 0) (h : t.charge.account? n = none) :
    clearCharged tag n t = answer tag 30 (.refused .noAccount) (.accountNumber n) t := by
  simp [clearCharged, h0, h, refuseAccount]

theorem clearCharged_some (h0 : n ≠ 0) (h : t.charge.account? n = some a) :
    clearCharged tag n t = answer tag 30 .ok (.closedBooks n a.charged a.goodFrames a.settledOrders)
      (updAccount n (fun x => { x with charged := 0, goodFrames := 0, settledOrders := 0 }) t) := by
  simp [clearCharged, h0, h]

/-- An account has no orders when no order names it. -/
theorem ordersOf_eq_zero : t.ordersOf n = 0 ↔ ∀ o ∈ t.queue.orders, o.account ≠ n := by
  simp [State.ordersOf, State.countOrders, List.filter_eq_nil_iff]

theorem dropAccount_inUse (h : a.committed ≠ 0 ∨ ∃ o ∈ t.queue.orders, o.account = n) :
    dropAccount tag n a t = answer tag 31 (.refused .inUse) (.accountNumber n) t := by
  rw [dropAccount, if_pos (h.imp_right fun ⟨o, ho, hn⟩ h0 => ordersOf_eq_zero.mp h0 o ho hn), refuseAccount]

theorem dropAccount_drops (h : a.committed = 0) (ho : ∀ o ∈ t.queue.orders, o.account ≠ n) :
    dropAccount tag n a t = answer tag 31 .ok (.closedBooks n a.charged a.goodFrames a.settledOrders)
      (t.setCharge { t.charge with accounts := t.charge.accounts.filter (fun x => x.number != n) }) := by
  rw [dropAccount, if_neg (by simp [h, ordersOf_eq_zero.mpr ho])]

/-- Settles O42. -/
theorem creditClearDelete : Obligations.CreditClearDelete := by
  refine fun tag n amount s t hr => ⟨fun ht => ⟨?_, fun h0 h => ?_, fun a h0 h => ?_⟩,
    fun ht => ⟨?_, fun h0 h => ?_, fun a h0 h => ?_⟩, fun ht => ⟨?_, fun h0 h => ?_, fun a h0 h => ⟨fun hu => ?_, fun hc ho => ?_⟩⟩⟩
  · rintro rfl; exact .of_checkedNaming rfl ht hr rfl
  · exact .of_checkedNaming rfl ht hr (credit_none h0 h)
  · exact .of_checkedNaming rfl ht hr (credit_some h0 h)
  · rintro rfl; exact .of_checkedNaming rfl ht hr rfl
  · exact .of_checkedNaming rfl ht hr (clearCharged_none h0 h)
  · exact .of_checkedNaming rfl ht hr (clearCharged_some h0 h)
  · rintro rfl; exact .of_checkedNaming rfl ht hr rfl
  · exact .of_checkedNaming rfl ht hr (onAccount_none h0 h)
  · exact .of_checkedNaming rfl ht hr ((onAccount_some h0 h).trans (dropAccount_inUse hu))
  · exact .of_checkedNaming rfl ht hr ((onAccount_some h0 h).trans (dropAccount_drops hc ho))

end Sys2Proof.Machine
end


section
/-!
SUPPORT. The readings of the parts of a state, and LOAD ROLL, CLOSE ROLL, RESYNC ROLL and READ ROLL MAP (R89, R95, R96, R99,
R104): the statements O43, O44 and O45.
-/

namespace Sys2Proof.Machine

variable {tag : Byte} {s t u : State} {k : Back}

/-! ## Readings go by the part they read -/

theorem roll_congr (h : s.rolls = t.rolls) (k : Back) : s.roll k = t.roll k := by rw [State.roll, State.roll, h]

theorem slot_congr (h : s.bus = t.bus) (u : UnitSlot) : s.slot u = t.slot u := by rw [State.slot, State.slot, h]

theorem order?_congr (h : s.queue = t.queue) (n : Nat) : s.order? n = t.order? n := by rw [State.order?, State.order?, h]

theorem shot?_congr (h : s.timer = t.timer) (k : Back) : s.shot? k = t.shot? k := by rw [State.shot?, State.shot?, h]

theorem Back.other_ne (k : Back) : k.other ≠ k := by cases k <;> nofun

@[simp] theorem roll_updRoll_other (f : Roll → Roll) : (updRoll k f s).roll k.other = s.roll k.other :=
  updRoll_other s k k.other f (Back.other_ne k)

@[simp] theorem roll_raise (f : EventFlag) (j : Back) : (raise f s).roll j = s.roll j := roll_congr (by simp) j

@[simp] theorem roll_tick (j : Back) : (tick s).roll j = s.roll j := roll_congr (by simp) j

@[simp] theorem roll_dropList (j : Back) : (dropList k s).roll j = s.roll j := roll_congr (by simp) j

@[simp] theorem roll_clearOwed (j : Back) : (clearOwed k s).roll j = s.roll j := roll_congr (by simp) j

/-- A stock found under a code has that code. -/
theorem code_of_stock? {n : Nat} {e : StockEntry} (h : s.stock? n = some e) : e.code = n := by
  simpa using List.find?_some h

/-! ## LOAD ROLL (R89, R90) -/

section
variable {f : LoadRollFields} {e : StockEntry}

/-- The fields of LOAD ROLL in their ranges (R89). -/
def GoodRollFields (f : LoadRollFields) : Prop :=
  1 ≤ f.stock ∧ f.stock ≤ 255 ∧ f.rollId.length = 6 ∧ ∀ x ∈ f.rollId, 32 ≤ x ∧ x ≤ 126

theorem loadRoll_good_iff :
    (Machine.inRange 1 255 f.stock && decide (f.rollId.length = 6) && f.rollId.all printable) = true ↔ GoodRollFields f := by
  simp [Machine.inRange, printable, GoodRollFields, and_assoc]

theorem loadRoll_noBack (h : backOf f.back = none) :
    loadRoll tag f t = answer tag 17 (.refused .badField) .none t := by
  simp [loadRoll, h, refuse]

theorem loadRoll_badField (hb : backOf f.back = some k) (h : ¬GoodRollFields f) :
    loadRoll tag f t = answer tag 17 (.refused .badField) .none t := by
  rw [← loadRoll_good_iff, Bool.not_eq_true] at h
  simp [loadRoll, hb, h, refuse]

/-- Past the ranges of its fields, LOAD ROLL is refused for the reason its checks give. -/
theorem loadRoll_refused {r : Reason} (hb : backOf f.back = some k) (hg : GoodRollFields f)
    (h : loadRollRefusal k f.stock t = some r) : loadRoll tag f t = answer tag 17 (.refused r) .none t := by
  simp [loadRoll, hb, loadRoll_good_iff.mpr hg, h, refuse]

theorem loadRollRefusal_noUnit {n : Nat} (h : t.present k.slot = false) : loadRollRefusal k n t = some .noUnit := by
  simp [loadRollRefusal, h]

theorem loadRollRefusal_rollState {n : Nat} (hp : t.present k.slot = true)
    (h : ¬((t.roll k).state = .unloaded ∨ (t.roll k).state = .closed)) : loadRollRefusal k n t = some .rollState := by
  simp [loadRollRefusal, hp, not_or.mp h]

theorem loadRollRefusal_noStock {n : Nat} (hp : t.present k.slot = true)
    (ho : (t.roll k).state = .unloaded ∨ (t.roll k).state = .closed) (h : t.stock? n = none) :
    loadRollRefusal k n t = some .noStock := by
  simp [loadRollRefusal, hp, ← not_or, ho, State.hasStock, h]

theorem loadRollRefusal_of_stock {n : Nat} (hp : t.present k.slot = true)
    (ho : (t.roll k).state = .unloaded ∨ (t.roll k).state = .closed) (h : t.stock? n = some e) :
    loadRollRefusal k n t = if (t.roll k).report.isSome then some .busy else none := by
  simp [loadRollRefusal, hp, ← not_or, ho, State.hasStock, h]

/-- Past its checks LOAD ROLL loads the roll, answers, and sends the leader in AUTO mode. -/
theorem loadRoll_loads (hb : backOf f.back = some k) (hg : GoodRollFields f) (hc : loadRollRefusal k f.stock t = none)
    (he : t.stock? f.stock = some e) :
    loadRoll tag f t = sendLeader k (answer tag 17 .ok
      (.rollLoaded (loadedRoll f.rollId e t.settings (t.roll k)).state e.frames)
      (t.setRoll k (loadedRoll f.rollId e t.settings (t.roll k)))) := by
  simp only [loadRoll, hb, loadRoll_good_iff.mpr hg, hc, he, updRoll_same]
  rfl

/-- A new roll's leader is sent when there is one and the mode is AUTO (R90). -/
theorem sendLeader_loaded {id : Text} (h : s.roll k = loadedRoll id e t.settings (t.roll k)) :
    sendLeader k s = if t.settings.leaderFrames ≠ 0 ∧ t.settings.leaderMode = .auto then
      issue k.slot (.advance .leader t.settings.leaderFrames) .leader s else s := by
  by_cases h0 : t.settings.leaderFrames = 0 <;> simp [sendLeader, h, loadedRoll, newFilm, h0]

end

/-- Settles O43. -/
theorem loadRoll_holds : Obligations.LoadRoll := by
  intro tag f s t ht hr
  have act {u : State} (h : loadRoll tag f t = u) : exec (.loadRoll tag (.given f)) s = .next (settle u) :=
    exec_checked rfl ht hr h
  refine ⟨fun hb => act (loadRoll_noBack hb), fun k hb => ⟨fun hg => act (loadRoll_badField hb hg), fun hg hp => ?_,
    fun hg hp ho => ?_, fun hg hp ho hs => ?_, fun e hg hp ho hs => ⟨fun h => ?_, fun h => ?_⟩⟩⟩
  · exact act (loadRoll_refused hb hg (loadRollRefusal_noUnit hp))
  · exact act (loadRoll_refused hb hg (loadRollRefusal_rollState hp ho))
  · exact act (loadRoll_refused hb hg (loadRollRefusal_noStock hp ho hs))
  · exact act (loadRoll_refused hb hg (by rw [loadRollRefusal_of_stock hp ho hs, if_pos h]))
  · have hcheck : loadRollRefusal k f.stock t = none := by
      rw [loadRollRefusal_of_stock hp ho hs, if_neg (by simp [h])]
    refine ⟨loadedRoll f.rollId e t.settings (t.roll k), ?_, rfl, rfl, rfl, rfl, rfl, rfl, rfl,
      (act (loadRoll_loads hb hg hcheck hs)).trans ?_⟩
    · simp [loadedRoll, newFilm, code_of_stock? hs]
    · rw [sendLeader_loaded (t := t) (id := f.rollId) (e := e) (by simp [State.roll, State.setRoll])]

/-! ## CLOSE ROLL (R95, R96) -/

section
variable {b : Nat}

/-- A roll that can be closed (R96). -/
def Closable (r : Roll) : Prop := r.state = .leader ∨ r.state = .ready ∨ r.state = .suspect

theorem closeRoll_refused {r : Reason} (hb : backOf b = some k) (h : closeRollRefusal k t = some r) :
    closeRoll tag b t = answer tag 18 (.refused r) .none t := by
  simp [closeRoll, hb, h, refuse]

theorem closeRoll_closes (hb : backOf b = some k) (h : closeRollRefusal k t = none) :
    closeRoll tag b t = testReturning (answer tag 18 .ok (.backState .closing)
      (drainReports (closeRollFor k (if (t.roll k).state = .suspect then .suspect else .desk) t))) := by
  simp [closeRoll, hb, h]

theorem closeRollRefusal_of_closable (h : Closable (t.roll k)) :
    closeRollRefusal k t = if (t.shot? k).isSome || (t.timer.frames.get k).isSome ||
      (t.slot k.slot).outstanding.isSome then some .busy else none := by
  rcases h with h | h | h <;> simp [closeRollRefusal, h]

/-- Outside RESETTING a closing roll is CLOSING, with its cause and its report, and ROLL-CLOSED is raised (R95). -/
theorem closeRollFor_eq {c : CloseCause} (hr : t.gate.engine ≠ .resetting) :
    closeRollFor k c t = composeReport k c (enterClosing k c t) := by
  have hcause : ((enterClosing k c t).roll k).closeCause = some c := by
    simp [enterClosing]
  have hengine : (enterClosing k c t).gate.engine = t.gate.engine := by simp [enterClosing, clearOwed, dropList]
  simp [closeRollFor, finishClose, hengine, hr, hcause]

theorem roll_enterClosing (c : CloseCause) : (enterClosing k c t).roll k =
    { t.roll k with state := .closing, closeCause := some c, passThrough := .idle } := by
  simp [enterClosing]

theorem roll_enterClosing_other (c : CloseCause) : (enterClosing k c t).roll k.other = t.roll k.other := by
  simp [enterClosing]

theorem roll_composeReport (c : CloseCause) : (composeReport k c t).roll k =
    { t.roll k with report := some (t.link.clock, (t.roll k).rollReport k c) } := by
  simp [composeReport]

theorem roll_composeReport_other (c : CloseCause) : (composeReport k c t).roll k.other = t.roll k.other := by
  simp [composeReport]

theorem hasFlag_composeReport (c : CloseCause) : hasFlag (composeReport k c t).events.flags .rollClosed = true :=
  hasFlag_raise_self

end

/-! ## RESYNC ROLL (R99) -/

section
variable {b : Nat}

theorem resyncRoll_noBack (h : backOf b = none) :
    resyncRoll tag b t = answer tag 19 (.refused .badField) .none t := by
  simp [resyncRoll, h, refuse]

theorem resyncRoll_refused {r : Reason} (hb : backOf b = some k) (h : resyncRefusal k t = some r) :
    resyncRoll tag b t = answer tag 19 (.refused r) .none t := by
  simp [resyncRoll, hb, h, refuse]

theorem resyncRoll_issues (hb : backOf b = some k) (h : resyncRefusal k t = none) :
    resyncRoll tag b t = issue k.slot .readCount (.resync (some tag))
      (t.setLink { t.link with reserved := t.link.reserved + 1 }) := by
  simp [resyncRoll, hb, h, reserve]

end

/-- The backs of a desk frame (R199). -/
theorem backOf_cases (b : Nat) :
    (b = 0 → backOf b = some .a) ∧ (b = 1 → backOf b = some .b) ∧ (2 ≤ b → backOf b = none) := by
  refine ⟨?_, ?_, fun h => ?_⟩
  · rintro rfl; rfl
  · rintro rfl; rfl
  · simp [backOf, show b ≠ 0 by omega, show b ≠ 1 by omega]

/-- Settles O44. -/
theorem closeAndResyncRoll : Obligations.CloseAndResyncRoll := by
  refine ⟨fun tag b k s t ht hr => ⟨fun hb => ?_, fun hb hs => ?_, fun hb hs h => ?_, fun hb hs h1 h2 h3 => ?_⟩,
    fun tag b s t ht hr hb => .of_checked rfl ht hr (resyncRoll_noBack hb), backOf_cases,
    fun tag b k s t ht hr hb => ⟨fun hs => ?_, fun hs hl => ?_, fun hs hl hp => ?_, fun hs hl hp ho => ?_,
      fun hs hl hp ho => ?_⟩⟩
  · exact exec_checked rfl ht hr (by simp [closeRoll, hb, refuse])
  · exact exec_checked rfl ht hr (closeRoll_refused hb (by simp [closeRollRefusal, hs]))
  · exact exec_checked rfl ht hr (closeRoll_refused hb (by
      rw [closeRollRefusal_of_closable hs, if_pos (by simpa [or_assoc] using h)]))
  · intro cause u
    have hu : u = composeReport k cause (enterClosing k cause t) := closeRollFor_eq hr
    refine ⟨?_, ?_, ?_, ?_, ?_, exec_checked rfl ht hr (closeRoll_closes hb (by
      rw [closeRollRefusal_of_closable hs, if_neg (by simp [h1, h2, h3])]))⟩
    · simp [hu, roll_composeReport, roll_enterClosing]
    · simp [hu, roll_composeReport, roll_enterClosing]
    · simp [hu, roll_composeReport]
    · rw [hu, roll_composeReport_other, roll_enterClosing_other]
    · rw [hu, hasFlag_composeReport]
  · exact .of_checked rfl ht hr (resyncRoll_refused hb (by simp [resyncRefusal, hs]))
  · exact .of_checked rfl ht hr (resyncRoll_refused hb (by simp [resyncRefusal, hs, hl]))
  · exact .of_checked rfl ht hr (resyncRoll_refused hb (by simp [resyncRefusal, hs, hl, hp]))
  · exact .of_checked rfl ht hr (resyncRoll_refused hb (by simp [resyncRefusal, hs, hl, hp, ho]))
  · refine congrArg _ ((takeFrame_taken ht).trans ((checked_given hr).trans (resyncRoll_issues hb ?_)))
    simp [resyncRefusal, hs, hl, hp, ho]

/-! ## READ ROLL MAP (R104) -/

section
variable {f : RollMapFields} {x : Film}

theorem readRollMap_noBack (h : backOf f.back = none) :
    readRollMap tag f t = answer tag 20 (.refused .badField) .none t := by
  simp [readRollMap, h, refuse]

theorem readRollMap_noRoll (hb : backOf f.back = some k) (h : (t.roll k).film = none) :
    readRollMap tag f t = answer tag 20 (.refused .noRoll) .none t := by
  simp [readRollMap, hb, h, refuse]

theorem readRollMap_record (hb : backOf f.back = some k) (hx : (t.roll k).film = some x) (h : f.range = none) :
    readRollMap tag f t = answer tag 20 .ok (.rollMap k (t.roll k) none []) t := by
  simp [readRollMap, hb, hx, h]

theorem readRollMap_range {first count : Nat} (hb : backOf f.back = some k) (hx : (t.roll k).film = some x)
    (h : f.range = some (first, count)) :
    readRollMap tag f t = if 1 ≤ first ∧ first ≤ x.frames ∧ 1 ≤ count ∧ count ≤ 16 then
      answer tag 20 .ok (.rollMap k (t.roll k) (some first) ((x.map.drop (first - 1)).take count)) t
      else answer tag 20 (.refused .badField) .none t := by
  simp [readRollMap, hb, hx, h, refuse, Machine.inRange, Roll.frames, mapFrom, and_assoc]

end

/-- Settles O45. -/
theorem readRollMap_holds : Obligations.ReadRollMap := by
  refine fun tag f k s t ht hr => ⟨fun hb => .of_checked rfl ht hr (readRollMap_noBack hb),
    fun hb h => .of_checked rfl ht hr (readRollMap_noRoll hb h), fun x hb hx =>
      ⟨fun h => .of_checked rfl ht hr (readRollMap_record hb hx h), fun first count h => ⟨fun hin => ?_, fun hin => ?_⟩⟩⟩
  · exact .of_checked rfl ht hr ((readRollMap_range hb hx h).trans (if_pos hin))
  · exact .of_checked rfl ht hr ((readRollMap_range hb hx h).trans (if_neg hin))

end Sys2Proof.Machine
end


section
/-!
SUPPORT. The Stock Table (R42 to R46): what a code reads as after a write and a delete, LOAD ENTRY and READ ENTRY of a stock
check by check, and the statement O21 put together from them.
-/

namespace Sys2Proof.Machine

variable {tag : Byte} {s t u : State} {code : Nat} {e : StockEntry} {places : List (Option StockEntry)}

/-! ## Characters and their cleaning (R42, R107) -/

theorem printable_iff {c : Nat} : printable c = true ↔ 32 ≤ c ∧ c ≤ 126 := by simp [printable, Machine.inRange]

theorem cleanText_eq (n : Nat) (x : Text) :
    cleanText n x = (x.take n).map (fun c => if 32 ≤ c ∧ c ≤ 126 then c else 32) := by
  rw [cleanText]
  congr 1
  funext c
  simp only [cleanChar, printable_iff]

/-! ## A code's entry in the table -/

/-- The first entry with a code. -/
def stockIn (code : Nat) (places : List (Option StockEntry)) : Option StockEntry :=
  (places.filterMap id).find? (fun e => e.code == code)

theorem stock?_eq_stockIn : t.stock? code = stockIn code t.tables.stocks := rfl

theorem stockIn_append (l m : List (Option StockEntry)) :
    stockIn code (l ++ m) = (stockIn code l).or (stockIn code m) := by
  simp [stockIn, List.filterMap_append, List.find?_append]

theorem stockIn_cons (p : Option StockEntry) (l : List (Option StockEntry)) :
    stockIn code (p :: l) = (p.filter (fun e => e.code == code)).or (stockIn code l) := by
  cases p with
  | none => simp [stockIn]
  | some x => by_cases h : x.code = code <;> simp [stockIn, Option.filter, h]

/-- No place holds a code that the table does not have. -/
theorem stockIn_eq_none : stockIn code places = none ↔ ∀ x, some x ∈ places → x.code ≠ code := by
  rw [stockIn, List.find?_eq_none]
  simp

/-- Putting an entry into the first place it fits makes its code read as it, and leaves every other code. -/
theorem stockIn_set {i : Nat} (hi : i < places.length)
    (hbefore : ∀ x, some x ∈ places.take i → x.code ≠ e.code) (hat : ∀ x, places[i] = some x → x.code = e.code) :
    stockIn code (places.set i (some e)) = if code = e.code then some e else stockIn code places := by
  have hsplit : places = places.take i ++ places[i] :: places.drop (i + 1) := by simp
  rw [List.set_eq_take_append_cons_drop, if_pos hi, stockIn_append, stockIn_cons]
  split
  · rename_i h
    rw [stockIn_eq_none.mpr (by rwa [h]), h]
    simp
  · rename_i h
    have hother : (places[i]).filter (fun x => x.code == code) = none := by
      rw [Option.filter_eq_none_iff]
      intro x hx
      simp only [hat x hx, beq_iff_eq]
      exact fun hc => h hc.symm
    conv => rhs; rw [hsplit, stockIn_append, stockIn_cons, hother]
    simp [Option.filter, Ne.symm h]

/-- A stock put into a table with its code, or with a place free, reads under its code, and every other code as before. -/
theorem stockIn_putStock (h : (stockIn e.code places).isSome = true ∨ none ∈ places) :
    stockIn code (putStock e places) = if code = e.code then some e else stockIn code places := by
  unfold putStock
  split
  · rename_i i hf
    obtain ⟨hi, hat, hbefore⟩ := List.findIdx?_eq_some_iff_getElem.mp hf
    refine stockIn_set hi (fun x hx => ?_) (fun x hx => by simpa [hx] using hat)
    obtain ⟨j, hj, hget⟩ := List.mem_iff_getElem.mp hx
    simp only [List.length_take, Nat.lt_min] at hj
    have hnot := hbefore j hj.1
    rw [List.getElem_take] at hget
    simpa [hget] using hnot
  · rename_i hf
    have hnone : ∀ x, some x ∈ places → x.code ≠ e.code := fun x hx => by
      simpa using List.findIdx?_eq_none_iff.mp hf _ hx
    have hfree : none ∈ places := h.resolve_left (by rw [stockIn_eq_none.mpr hnone]; simp)
    split
    · rename_i i hg
      obtain ⟨hi, hat, -⟩ := List.findIdx?_eq_some_iff_getElem.mp hg
      refine stockIn_set hi (fun x hx => hnone x (List.mem_of_mem_take hx)) (fun x hx => ?_)
      simp [hx] at hat
    · rename_i hg
      exact absurd (List.findIdx?_eq_none_iff.mp hg _ hfree) (by simp)

/-- A code that is dropped reads as none, and every other code as before. -/
theorem stockIn_dropStock {other : Nat} :
    stockIn other (dropStock code places) = if other = code then none else stockIn other places := by
  induction places with
  | nil => simp [dropStock, stockIn]
  | cons p l ih =>
    rw [show dropStock code (p :: l) = (if p.any (fun x => x.code == code) then none else p) :: dropStock code l from rfl,
      stockIn_cons, stockIn_cons, ih]
    cases p with
    | none => simp
    | some x =>
      by_cases hx : x.code = code
      · by_cases ho : other = code
        · simp [hx, ho]
        · simp [hx, ho, Option.filter, Ne.symm ho]
      · by_cases ho : other = code
        · simp [hx, ho, Option.filter]
        · simp [hx, ho]

/-! ## Stocks in use (R44, R45) -/

theorem BackState.onFilm_iff (x : BackState) :
    x.onFilm = true ↔ x = .leader ∨ x = .ready ∨ x = .suspect ∨ x = .closing := by
  cases x <;> simp [BackState.onFilm]

theorem Back.exists {p : Back → Prop} : (∃ k, p k) ↔ p .a ∨ p .b :=
  ⟨fun ⟨k, h⟩ => by cases k; exacts [.inl h, .inr h], fun h => h.elim (fun h => ⟨_, h⟩) (fun h => ⟨_, h⟩)⟩

theorem carriesOnFilm_iff {r : Roll} : r.carriesOnFilm code = true ↔ r.stock? = some code ∧
    (r.state = .leader ∨ r.state = .ready ∨ r.state = .suspect ∨ r.state = .closing) := by
  simp [Roll.carriesOnFilm, BackState.onFilm_iff, and_comm]

theorem stockOnFilm_iff : t.stockOnFilm code = true ↔ ∃ k, (t.roll k).stock? = some code ∧ ((t.roll k).state = .leader ∨
    (t.roll k).state = .ready ∨ (t.roll k).state = .suspect ∨ (t.roll k).state = .closing) := by
  rw [Back.exists, State.stockOnFilm, Bool.or_eq_true, carriesOnFilm_iff, carriesOnFilm_iff]
  rfl

/-! ## LOAD ENTRY of a stock (R43) -/

section
variable {f : StockFields}

theorem stockFieldsGood_iff : stockFieldsGood f = true ↔ 1 ≤ f.code ∧ f.code ≤ 255 ∧ -60 ≤ f.speed ∧ f.speed ≤ 60 ∧
    12 ≤ f.frames ∧ f.frames ≤ 72 ∧ -100 ≤ f.knee ∧ f.knee ≤ 100 ∧ f.slope ≤ 50 := by
  simp [stockFieldsGood, Machine.inRange, inRangeInt, and_assoc]

theorem writeStock_refused {r : Reason} (h : stockWriteRefusal f t = some r) :
    writeStock tag f t = answer tag 15 (.refused r) .none t := by
  simp [writeStock, h, refuse]

/-- The state with the stock written. -/
def withStock (f : StockFields) (t : State) : State :=
  t.setTables { t.tables with stocks := putStock (stockEntryOf f) t.tables.stocks }

theorem writeStock_writes (h : stockWriteRefusal f t = none) :
    writeStock tag f t = answer tag 15 (if cleanText 8 f.name = f.name then .ok else .clamped) .none (withStock f t) := by
  by_cases hc : cleanText 8 f.name = f.name <;> simp [writeStock, h, textClamped, hc, withStock]

theorem stockWriteRefusal_badField (h : ¬stockFieldsGood f = true) : stockWriteRefusal f t = some .badField := by
  simp [stockWriteRefusal, h]

theorem stockWriteRefusal_inUse (hg : stockFieldsGood f = true) (h : t.stockOnFilm f.code = true) :
    stockWriteRefusal f t = some .inUse := by
  simp [stockWriteRefusal, hg, h]

theorem stockWriteRefusal_tableFull (hg : stockFieldsGood f = true) (hu : t.stockOnFilm f.code = false)
    (hn : t.stock? f.code = none) (h : none ∉ t.tables.stocks) : stockWriteRefusal f t = some .tableFull := by
  have hall : t.tables.stocks.all Option.isSome = true :=
    List.all_eq_true.mpr fun x hx => Option.isSome_iff_ne_none.mpr fun hx0 => h (hx0 ▸ hx)
  simp [stockWriteRefusal, hg, hu, State.hasStock, hn, hall]

theorem stockWriteRefusal_none (hg : stockFieldsGood f = true) (hu : t.stockOnFilm f.code = false)
    (h : (t.stock? f.code).isSome = true ∨ none ∈ t.tables.stocks) : stockWriteRefusal f t = none := by
  rcases h with h | h
  · simp [stockWriteRefusal, hg, hu, State.hasStock, h]
  · have hall : t.tables.stocks.all Option.isSome = false := List.all_eq_false.mpr ⟨none, h, by simp⟩
    simp [stockWriteRefusal, hg, hu, hall]

end

/-! ## Deleting a stock (R44) -/

theorem deleteStock_refused {r : Reason} (h : stockDeleteRefusal code t = some r) :
    deleteStock tag code t = answer tag 15 (.refused r) .none t := by
  simp [deleteStock, h, refuse]

/-- The state without the stock. -/
def withoutStock (code : Nat) (t : State) : State :=
  t.setTables { t.tables with stocks := dropStock code t.tables.stocks }

theorem deleteStock_deletes (h : stockDeleteRefusal code t = none) :
    deleteStock tag code t = answer tag 15 .ok .none (withoutStock code t) := by
  simp [deleteStock, h, withoutStock]

theorem stockDeleteRefusal_badField (h : code = 0 ∨ 255 < code) : stockDeleteRefusal code t = some .badField := by
  have : Machine.inRange 1 255 code = false := by simp [Machine.inRange]; omega
  simp [stockDeleteRefusal, this]

/-- Past the range of the code, the delete's checks. -/
theorem stockDeleteRefusal_of_range (h1 : 1 ≤ code) (h2 : code ≤ 255) : stockDeleteRefusal code t =
    if t.stock? code = none then some .noEntry
    else if t.stockOnFilm code = true ∨ ∃ o ∈ t.queue.orders, o.stock = code then some .inUse else none := by
  simp [stockDeleteRefusal, Machine.inRange, h1, h2, State.hasStock]

/-! ## READ ENTRY of a stock (R45, R46) -/

theorem readStock_noEntry (h : t.stock? code = none) :
    readStock tag (some code) t = answer tag 16 (.refused .noEntry) .none t := by
  simp [readStock, h, refuse]

theorem readStock_found (h : t.stock? code = some e) :
    readStock tag (some code) t = answer tag 16 .ok (.stockEntry e (stockUse t code)) t := by
  simp [readStock, h]

/-- Settles O21: each check of the three commands is one equation of its action, past the check for BUSY. -/
theorem stocks : Obligations.Stocks := by
  refine ⟨fun tag f s t ht hr => ?write, fun tag code s => ⟨fun t ht hr => ⟨fun hc => ?_, fun h1 h2 hn => ?_,
    fun h1 h2 he hu => ?_, fun h1 h2 he hf hu => ?_⟩, fun t => stockOnFilm_iff,
    fun t key ht hr => ⟨?_, ?_, ?_⟩⟩⟩
  case write =>
    intro good name
    have hname : cleanText 8 f.name = name := cleanText_eq 8 f.name
    have hgood : stockFieldsGood f = true ↔ good := stockFieldsGood_iff
    rw [← hgood, ← hname]
    refine ⟨fun h => .of_checked rfl ht hr (writeStock_refused (stockWriteRefusal_badField h)),
      fun hg h => .of_checked rfl ht hr (writeStock_refused (stockWriteRefusal_inUse hg h)),
      fun hg hu hn h => .of_checked rfl ht hr (writeStock_refused (stockWriteRefusal_tableFull hg hu hn h)),
      fun hg hu h => ⟨withStock f t, .of_checked rfl ht hr (writeStock_writes (stockWriteRefusal_none hg hu h)), rfl,
        ?_, fun code hc => ?_⟩⟩
    · exact (stockIn_putStock (e := stockEntryOf f) h).trans (if_pos rfl)
    · exact (stockIn_putStock (e := stockEntryOf f) h).trans (if_neg hc)
  · exact .of_checked rfl ht hr (deleteStock_refused (stockDeleteRefusal_badField hc))
  · exact .of_checked rfl ht hr (deleteStock_refused (by rw [stockDeleteRefusal_of_range h1 h2]; simp [hn]))
  · exact .of_checked rfl ht hr (deleteStock_refused (by
      rw [stockDeleteRefusal_of_range h1 h2, if_neg (Option.isSome_iff_ne_none.mp he), if_pos hu]))
  · refine ⟨withoutStock code t, .of_checked rfl ht hr (deleteStock_deletes ?_), rfl, ?_, fun other ho => ?_⟩
    · rw [stockDeleteRefusal_of_range h1 h2, if_neg (Option.isSome_iff_ne_none.mp he), if_neg (by simpa [hf] using hu)]
    · exact stockIn_dropStock.trans (if_pos rfl)
    · exact stockIn_dropStock.trans (if_neg ho)
  · rintro rfl; exact .of_checked rfl ht hr rfl
  · rintro rfl h; exact .of_checked rfl ht hr (readStock_noEntry h)
  · rintro e rfl h
    refine ⟨stockUse t code, .of_checked rfl ht hr (readStock_found h), rfl, fun k => ?_, rfl, ?_⟩
    · cases k <;> simp [stockUse, PerBack.get, Roll.carries, State.roll]
    · simp [stockUse]

end Sys2Proof.Machine
end


section
/-!
SUPPORT. The Bracket Pattern Table and the Label Template Table (R64 to R67, R107 to R110): places by number, the program a
template's bytes spell, LOAD ENTRY and READ ENTRY check by check, and the statements O22 and O23 put together from them.
-/

namespace Sys2Proof.Machine

variable {tag : Byte} {s t u : State}

/-! ## Numbered places -/

section
variable {α : Type} {places : List (Option α)} {n m : Nat} {x : Option α}

/-- A place that is written reads as what was written, and every other place as before. -/
theorem getD_set (h : n < places.length) :
    (((places.set n x)[m]?).getD none) = if m = n then x else (places[m]?).getD none := by
  by_cases hm : m = n
  · simp [hm, h]
  · simp [hm, Ne.symm hm]

theorem mem_loadedNumbers : n ∈ loadedNumbers places ↔ ((places[n]?).getD none).isSome = true := by
  simp only [loadedNumbers, List.mem_map, List.mem_filter, List.mem_zipIdx_iff_getElem?, Prod.exists, exists_eq_right]
  cases places[n]? <;> simp

/-- The numbers of the loaded places stand in ascending order. -/
theorem pairwise_loadedNumbers : (loadedNumbers places).Pairwise (· < ·) := by
  refine List.Pairwise.sublist (List.filter_sublist.map _) ?_
  rw [show (fun p : Option α × Nat => p.2) = Prod.snd from rfl, List.zipIdx_map_snd]
  exact List.pairwise_lt_range'

end

/-! ## Patterns (R65 to R67) -/

section
variable {f : PatternFields} {n : Nat} {p : Pattern}

/-- The state with one pattern place written. -/
def withPattern (n : Nat) (x : Option Pattern) (t : State) : State :=
  t.setTables { t.tables with patterns := t.tables.patterns.set n x }

theorem pattern?_withPattern {x : Option Pattern} {m : Nat} (h : n < t.tables.patterns.length) :
    (withPattern n x t).pattern? m = if m = n then x else t.pattern? m := getD_set h

theorem patternFieldsGood_iff : patternFieldsGood f = true ↔ 1 ≤ f.number ∧ f.number ≤ 15 ∧ 1 ≤ f.stepCount ∧
    f.stepCount ≤ 7 ∧ f.offsets.length = f.stepCount ∧ (∀ x ∈ f.offsets, -30 ≤ x ∧ x ≤ 30) ∧ 1 ≤ f.nominal ∧
    f.nominal ≤ f.stepCount := by
  simp [patternFieldsGood, Machine.inRange, inRangeInt, and_assoc]

theorem writePattern_eq : writePattern tag f t = if patternFieldsGood f = true then
    answer tag 15 .ok .none (withPattern f.number (some { offsets := f.offsets, nominal := f.nominal }) t)
    else answer tag 15 (.refused .badField) .none t := rfl

theorem emptyPattern_badField (h : n = 0 ∨ 15 < n) :
    emptyPattern tag n t = answer tag 15 (.refused .badField) .none t := by
  have : Machine.inRange 1 15 n = false := by simp [Machine.inRange]; omega
  simp [emptyPattern, this, refuse]

theorem emptyPattern_of_range (h1 : 1 ≤ n) (h2 : n ≤ 15) : emptyPattern tag n t =
    if t.pattern? n = none then answer tag 15 (.refused .noEntry) .none t
    else answer tag 15 .ok .none (withPattern n none t) := by
  simp [emptyPattern, Machine.inRange, h1, h2, refuse, withPattern]

theorem readPattern_badField (h : 15 < n) :
    readPattern tag (some n) t = answer tag 16 (.refused .badField) .none t := by
  simp [readPattern, h, refuse]

theorem readPattern_noEntry (hn : n ≤ 15) (h : t.pattern? n = none) :
    readPattern tag (some n) t = answer tag 16 (.refused .noEntry) .none t := by
  simp [readPattern, h, refuse, Nat.not_lt.mpr hn]

theorem readPattern_found (hn : n ≤ 15) (h : t.pattern? n = some p) :
    readPattern tag (some n) t = answer tag 16 .ok (.patternEntry p) t := by
  simp [readPattern, h, Nat.not_lt.mpr hn]

end

/-- Settles O22: each check of the three commands is one equation of its action, past the check for BUSY. -/
theorem patterns : Obligations.Patterns := by
  refine ⟨fun tag s t hr hl => ⟨fun f ht => ?write, fun n ht => ⟨fun h => ?_, fun h1 h2 h => ?_, fun h1 h2 h => ?_⟩⟩,
    fun tag key s t ht => ⟨fun hr => .of_action rfl ht (checked_busy hr), fun hr => ⟨?_, ?_, ?_, ?_⟩⟩⟩
  case write =>
    intro good
    have hgood : patternFieldsGood f = true ↔ good := patternFieldsGood_iff
    refine ⟨fun h => .of_checked rfl ht hr (writePattern_eq.trans (if_neg (mt hgood.mp h))), fun hg =>
      ⟨_, .of_checked rfl ht hr (writePattern_eq.trans (if_pos (hgood.mpr hg))), rfl, ?_, fun n hn => ?_⟩⟩
    all_goals
      obtain ⟨-, hnum, -⟩ := hg
      rw [pattern?_withPattern (by omega)]
    · rw [if_pos rfl]
    · rw [if_neg hn]
  · exact .of_checked rfl ht hr (emptyPattern_badField h)
  · exact .of_checked rfl ht hr ((emptyPattern_of_range h1 h2).trans (if_pos h))
  · refine ⟨_, .of_checked rfl ht hr ((emptyPattern_of_range h1 h2).trans (if_neg (Option.isSome_iff_ne_none.mp h))), rfl,
      ?_, fun m hm => ?_⟩
    all_goals rw [pattern?_withPattern (by omega)]
    · rw [if_pos rfl]
    · rw [if_neg hm]
  · rintro rfl
    exact ⟨loadedNumbers t.tables.patterns, .of_checked rfl ht hr rfl, pairwise_loadedNumbers, fun n => mem_loadedNumbers⟩
  · rintro n rfl h; exact .of_checked rfl ht hr (readPattern_badField h)
  · rintro n rfl hn h; exact .of_checked rfl ht hr (readPattern_noEntry hn h)
  · rintro n p rfl hn h; exact .of_checked rfl ht hr (readPattern_found hn h)

/-! ## The program of a template (R107) -/

/-- A step whose operand is in its range. -/
def LegalStep (st : TStep) : Prop :=
  (∀ n, st = .putLiteral n → n ≤ 3) ∧ (∀ n, st = .space n → 1 ≤ n ∧ n ≤ 8) ∧
  (∀ c n, st = .skipIf c n → 1 ≤ n ∧ n ≤ 4) ∧ ∀ n, st = .continueAt n → n ≤ 7

theorem skipCondOf_code (c : SkipCond) : skipCondOf c.code = some c := by cases c <;> rfl

theorem skipCondOf_eq_some {n : Nat} {c : SkipCond} : skipCondOf n = some c ↔ n = c.code := by
  refine ⟨fun h => ?_, fun h => h ▸ skipCondOf_code c⟩
  unfold skipCondOf at h
  split at h <;> first | (obtain rfl := Option.some.inj h; rfl) | cases h

theorem plainStep_eq_some {x st : TStep} {n : Nat} : plainStep x n = some st ↔ n = 0 ∧ st = x := by
  by_cases h : n = 0 <;> simp [plainStep, h, eq_comm]

/-- Every legal step is read back from its two bytes. -/
theorem rawStep?_raw {st : TStep} (h : LegalStep st) : rawStep? st.raw = some st := by
  obtain ⟨hlit, hspace, hskip, hcont⟩ := h
  cases st
  case putLiteral n => simp [TStep.raw, rawStep?, hlit n rfl]
  case space n => simp [TStep.raw, rawStep?, Machine.inRange, hspace n rfl]
  case continueAt n => simp [TStep.raw, rawStep?, hcont n rfl]
  case skipIf c n =>
    obtain ⟨h1, h2⟩ := hskip c n rfl
    have hmod : (c.code * 16 + n) % 16 = n := by omega
    have hdiv : (c.code * 16 + n) / 16 = c.code := by omega
    simp [TStep.raw, rawStep?, Machine.inRange, hmod, hdiv, h1, h2, skipCondOf_code]
  all_goals rfl

/-- Two bytes that read as a step are that step's, and the step is legal. -/
theorem eq_raw_of_rawStep? {w : RawStep} {st : TStep} (h : rawStep? w = some st) : w = st.raw ∧ LegalStep st := by
  obtain ⟨code, operand⟩ := w
  unfold rawStep? at h
  split at h
  case h_10 =>
    simp only [Option.ite_none_right_eq_some, Option.some.injEq] at h
    obtain ⟨hn, rfl⟩ := h
    simpa [TStep.raw, LegalStep] using ⟨by assumption, hn⟩
  case h_11 =>
    simp only [Option.ite_none_right_eq_some, Option.some.injEq, Machine.inRange, Bool.and_eq_true,
      decide_eq_true_eq] at h
    obtain ⟨hn, rfl⟩ := h
    simpa [TStep.raw, LegalStep] using ⟨by assumption, hn⟩
  case h_13 =>
    simp only [Option.ite_none_right_eq_some, Option.map_eq_some_iff, Machine.inRange, Bool.and_eq_true,
      decide_eq_true_eq, skipCondOf_eq_some] at h
    obtain ⟨hn, c, hc, rfl⟩ := h
    have hop : operand = c.code * 16 + operand % 16 := by omega
    simpa [TStep.raw, LegalStep, ← hop] using ⟨by assumption, hn⟩
  case h_14 =>
    simp only [Option.ite_none_right_eq_some, Option.some.injEq] at h
    obtain ⟨hn, rfl⟩ := h
    simpa [TStep.raw, LegalStep] using ⟨by assumption, hn⟩
  case h_17 => cases h
  all_goals
    obtain ⟨hn, rfl⟩ := plainStep_eq_some.mp h
    simpa [TStep.raw, LegalStep] using ⟨by assumption, hn⟩

/-- The bytes that read as steps are exactly those of legal steps. -/
theorem stepsOf_eq_some {l : List RawStep} {steps : List TStep} :
    stepsOf l = some steps ↔ l = steps.map TStep.raw ∧ ∀ st ∈ steps, LegalStep st := by
  induction l generalizing steps with
  | nil => cases steps <;> simp [stepsOf]
  | cons w rest ih =>
    cases steps with
    | nil => simp only [stepsOf]; split <;> simp
    | cons st more =>
      simp only [List.map_cons, List.cons.injEq, List.forall_mem_cons]
      constructor
      · intro h
        simp only [stepsOf] at h
        split at h
        · rename_i h1 h2
          obtain ⟨rfl, rfl⟩ := List.cons.inj (Option.some.inj h)
          obtain ⟨hraw, hlegal⟩ := eq_raw_of_rawStep? h1
          obtain ⟨hrest, hall⟩ := ih.mp h2
          exact ⟨⟨hraw, hrest⟩, hlegal, hall⟩
        · cases h
      · rintro ⟨⟨rfl, hrest⟩, hlegal, hall⟩
        simp [stepsOf, rawStep?_raw hlegal, ih.mpr ⟨hrest, hall⟩]

/-! ## LOAD ENTRY of a template (R108, R109) -/

section
variable {f : TemplateFields} {steps : List TStep} {p : Template} {n : Nat}

/-- The program the fields of a template spell. -/
def SpellsProgram (f : TemplateFields) (steps : List TStep) : Prop :=
  f.number ≤ 7 ∧ 1 ≤ f.steps.length ∧ f.steps.length ≤ 24 ∧ f.literals.length ≤ 4 ∧
  f.steps = steps.map TStep.raw ∧ ∀ st ∈ steps, LegalStep st

/-- The literals as they are held. -/
def heldLiterals (f : TemplateFields) : List Text := f.literals.map (cleanText 12)

theorem programOf_eq_some (h : SpellsProgram f steps) : programOf f = some
    { steps := steps, literals := heldLiterals f ++ List.replicate (4 - (heldLiterals f).length) [] } := by
  obtain ⟨hnum, hlo, hhi, hlit, hsteps⟩ := h
  simp [programOf, hnum, Machine.inRange, hlo, hhi, hlit, stepsOf_eq_some.mpr hsteps, heldLiterals]

theorem programOf_eq_none (h : ∀ steps, ¬SpellsProgram f steps) : programOf f = none := by
  unfold programOf
  split
  · rename_i hc
    simp only [Bool.and_eq_true, decide_eq_true_eq, Machine.inRange] at hc
    obtain ⟨⟨hnum, hlo, hhi⟩, hlit⟩ := hc
    rw [Option.map_eq_none_iff, Option.eq_none_iff_forall_ne_some]
    intro steps hs
    exact h steps ⟨hnum, hlo, hhi, hlit, stepsOf_eq_some.mp hs⟩
  · rfl

/-- The state with one template place written. -/
def withTemplate (n : Nat) (x : Option Template) (t : State) : State :=
  t.setLabels { t.labels with templates := t.labels.templates.set n x }

theorem template?_withTemplate {x : Option Template} {m : Nat} (h : n < t.labels.templates.length) :
    (withTemplate n x t).template? m = if m = n then x else t.template? m := getD_set h

/-- No order names a template when none of the queue does. -/
theorem ordersNaming_eq_zero : t.ordersNaming n = 0 ↔ ∀ o ∈ t.queue.orders, o.template ≠ some n := by
  simp [State.ordersNaming, State.countOrders, List.filter_eq_nil_iff]

theorem ordersNaming_ne_zero : t.ordersNaming n ≠ 0 ↔ ∃ o ∈ t.queue.orders, o.template = some n := by
  rw [Ne, ordersNaming_eq_zero]
  simp

theorem writeTemplate_badField (h : programOf f = none) :
    writeTemplate tag f t = answer tag 15 (.refused .badField) .none t := by
  simp [writeTemplate, h, refuse]

theorem writeTemplate_inUse (h : programOf f = some p) (hu : ∃ o ∈ t.queue.orders, o.template = some f.number) :
    writeTemplate tag f t = answer tag 15 (.refused .inUse) .none t := by
  simp [writeTemplate, h, refuse, ordersNaming_ne_zero.mpr hu]

theorem any_textClamped_iff {l : List Text} : l.any (textClamped 12) = true ↔ l.map (cleanText 12) ≠ l := by
  induction l with
  | nil => simp
  | cons x rest ih => by_cases hx : cleanText 12 x = x <;> simp [hx, textClamped, ← ih]

theorem writeTemplate_writes (h : programOf f = some p) (hu : ∀ o ∈ t.queue.orders, o.template ≠ some f.number) :
    writeTemplate tag f t = answer tag 15 (if heldLiterals f = f.literals then .ok else .clamped) .none
      (withTemplate f.number (some p) t) := by
  have hclamp : (if f.literals.any (textClamped 12) = true then Result.clamped else .ok) =
      if heldLiterals f = f.literals then .ok else .clamped := by
    simp only [any_textClamped_iff, ite_not, ne_eq]
    rfl
  rw [writeTemplate, h]
  simp only [ordersNaming_eq_zero.mpr hu, hclamp]
  rfl

theorem emptyTemplate_badField (h : 7 < n) :
    emptyTemplate tag n t = answer tag 15 (.refused .badField) .none t := by
  simp [emptyTemplate, h, refuse]

theorem emptyTemplate_of_range (h : n ≤ 7) : emptyTemplate tag n t =
    if t.template? n = none then answer tag 15 (.refused .noEntry) .none t
    else if ∃ o ∈ t.queue.orders, o.template = some n then answer tag 15 (.refused .inUse) .none t
    else answer tag 15 .ok .none (withTemplate n none t) := by
  simp only [emptyTemplate, if_neg (Nat.not_lt.mpr h), refuse, Option.isNone_iff_eq_none, ordersNaming_ne_zero]
  rfl

theorem readTemplate_badField (h : 7 < n) :
    readTemplate tag (some n) t = answer tag 16 (.refused .badField) .none t := by
  simp [readTemplate, h, refuse]

theorem readTemplate_noEntry (hn : n ≤ 7) (h : t.template? n = none) :
    readTemplate tag (some n) t = answer tag 16 (.refused .noEntry) .none t := by
  simp [readTemplate, h, refuse, Nat.not_lt.mpr hn]

theorem readTemplate_found (hn : n ≤ 7) (h : t.template? n = some p) :
    readTemplate tag (some n) t = answer tag 16 .ok (.templateEntry p (t.ordersNaming n)) t := by
  simp [readTemplate, h, Nat.not_lt.mpr hn]

end

/-- Settles O23: each check of the three commands is one equation of its action, past the check for BUSY. -/
theorem templates : Obligations.Templates := by
  refine ⟨fun tag s t hr hl => ⟨fun f ht => ?write, fun n ht => ⟨fun h => ?_, fun h1 h => ?_, fun h1 h hu => ?_,
    fun h1 h hu => ?_⟩⟩, fun tag key s t ht => ⟨fun hr => .of_action rfl ht (checked_busy hr), fun hr => ⟨?_, ?_, ?_, ?_⟩⟩⟩
  case write =>
    intro condition spelled legal program literals
    have hspelled : spelled = TStep.raw := by
      funext st
      cases st with
      | skipIf c n => cases c <;> rfl
      | _ => rfl
    have hprogram : ∀ steps, program steps ↔ SpellsProgram f steps := fun steps => by
      simp only [program, hspelled]; rfl
    have hliterals : literals = heldLiterals f :=
      List.map_congr_left fun l _ => (cleanText_eq 12 l).symm
    simp only [hprogram, hliterals]
    refine ⟨fun h => .of_checked rfl ht hr (writeTemplate_badField (programOf_eq_none h)),
      fun steps hp hu => .of_checked rfl ht hr (writeTemplate_inUse (programOf_eq_some hp) hu),
      fun steps hp hu => ⟨_, .of_checked rfl ht hr (writeTemplate_writes (programOf_eq_some hp) hu), rfl, ?_, fun n hn => ?_⟩⟩
    all_goals
      obtain ⟨hnum, -⟩ := hp
      rw [template?_withTemplate (by omega)]
    · rw [if_pos rfl]
    · rw [if_neg hn]
  · exact .of_checked rfl ht hr (emptyTemplate_badField h)
  · exact .of_checked rfl ht hr ((emptyTemplate_of_range h1).trans (if_pos h))
  · exact .of_checked rfl ht hr ((emptyTemplate_of_range h1).trans
      ((if_neg (Option.isSome_iff_ne_none.mp h)).trans (if_pos hu)))
  · refine ⟨_, .of_checked rfl ht hr ((emptyTemplate_of_range h1).trans
      ((if_neg (Option.isSome_iff_ne_none.mp h)).trans (if_neg (by simpa using hu)))), rfl, ?_, fun m hm => ?_⟩
    all_goals rw [template?_withTemplate (by omega)]
    · rw [if_pos rfl]
    · rw [if_neg hm]
  · rintro rfl
    exact ⟨loadedNumbers t.labels.templates, .of_checked rfl ht hr rfl, pairwise_loadedNumbers, fun n => mem_loadedNumbers⟩
  · rintro n rfl h; exact .of_checked rfl ht hr (readTemplate_badField h)
  · rintro n rfl hn h; exact .of_checked rfl ht hr (readTemplate_noEntry hn h)
  · rintro n p rfl hn h; exact .of_checked rfl ht hr (readTemplate_found hn h)

end Sys2Proof.Machine
end


section
/-!
SUPPORT. SET SETTINGS (R196, R197): when its items are good, what each item reads as after the write, its checks in their
order, and the statement O19 put together from them.
-/

namespace Sys2Proof.Machine

variable {tag : Byte} {s t : State} {items : List SettingItem} {x : Settings}

/-! ## Good items (R197, check 1) -/

/-- A day of the calendar, as the value of item 15. -/
def RealDay (v : Int) : Prop := ∃ y m d : Nat, v = (y * 10000 + m * 100 + d : Nat) ∧ 2000 ≤ y ∧ y ≤ 2099 ∧ 1 ≤ m ∧
  m ≤ 12 ∧ 1 ≤ d ∧ d ≤ daysIn y m

theorem daysIn_le (y m : Nat) : daysIn y m ≤ 31 := by
  unfold daysIn
  (repeat' split) <;> omega

theorem realDay_iff {v : Int} : RealDay v ↔ 0 ≤ v ∧ (dateOf v).real = true := by
  simp only [Date.real, Machine.inRange, Bool.and_eq_true, decide_eq_true_eq]
  simp only [dateOf]
  constructor
  · rintro ⟨y, m, d, rfl, hy, hy', hm, hm', hd, hd'⟩
    have := daysIn_le y m
    have hyear : ((y * 10000 + m * 100 + d : Nat) : Int).toNat / 10000 = y := by omega
    have hmonth : ((y * 10000 + m * 100 + d : Nat) : Int).toNat / 100 % 100 = m := by omega
    have hday : ((y * 10000 + m * 100 + d : Nat) : Int).toNat % 100 = d := by omega
    rw [hyear, hmonth, hday]
    omega
  · rintro ⟨h0, ⟨⟨hy, hy'⟩, hm, hm'⟩, hd, hd'⟩
    exact ⟨v.toNat / 10000, v.toNat / 100 % 100, v.toNat % 100, by omega, hy, hy', hm, hm', hd, hd'⟩

theorem settingGood_iff {i : SettingItem} : settingGood i = true ↔ 1 ≤ i.item ∧ i.item ≤ 21 ∧
    (10 ≤ i.item → i.item ≤ 13 → i.value = 0 ∨ i.value = 1) ∧ (i.item = 15 → i.value = -1 ∨ RealDay i.value) ∧
    (i.item = 21 → 0 ≤ i.value ∧ i.value ≤ 4095) := by
  simp only [settingGood, realDay_iff, Bool.and_eq_true, Machine.inRange, inRangeInt, decide_eq_true_eq]
  rw [and_assoc, and_congr_right]
  refine fun _ => and_congr_right fun _ => ?_
  split
  · rw [Bool.and_eq_true, decide_eq_true_eq, decide_eq_true_eq]
    omega
  · split
    · rename_i h15
      simp [h15]
    · split
      · rw [Bool.and_eq_true, decide_eq_true_eq, decide_eq_true_eq]
        omega
      · simp only [true_iff]
        omega

theorem itemsDistinct_iff : itemsDistinct items = true ↔ (items.map (fun i => i.item)).Nodup := by
  induction items with
  | nil => simp [itemsDistinct]
  | cons i rest ih => simp [itemsDistinct, ih]

/-! ## What a written item reads as (R196) -/

/-- The value is one that the setting of number `n` reads back as it is written. -/
def ReadsBack (n : Nat) (v : Int) : Prop :=
  (∀ lo hi, settingRange n = some (lo, hi) → lo ≤ v) ∧ (10 ≤ n → n ≤ 13 → v = 0 ∨ v = 1) ∧
  (n = 15 → v = -1 ∨ 0 ≤ v) ∧ (n = 21 → 0 ≤ v ∧ v ≤ 4095)

theorem readsBack_settingClamped {i : SettingItem} (h : settingGood i = true) :
    ReadsBack i.item (settingClamped i).value := by
  obtain ⟨-, -, hswitch, hday, hmask⟩ := settingGood_iff.mp h
  refine ⟨fun lo hi hr => ((valueFits_settingClamped h).1 lo hi hr).1, ?_⟩
  by_cases hn : settingRange i.item = none
  · rw [show settingClamped i = i from settingClamped_eq_self hn]
    exact ⟨hswitch, fun h15 => (hday h15).imp_right fun hd => (realDay_iff.mp hd).1, hmask⟩
  · have hne : i.item ≠ 10 ∧ i.item ≠ 11 ∧ i.item ≠ 12 ∧ i.item ≠ 13 ∧ i.item ≠ 15 ∧ i.item ≠ 21 := by
      refine ⟨?_, ?_, ?_, ?_, ?_, ?_⟩ <;> exact fun he => hn (by rw [he]; rfl)
    refine ⟨?_, ?_, ?_⟩ <;> omega

theorem dateValue_dateOf {v : Int} (h : v = -1 ∨ 0 ≤ v) :
    dateValue (if v = -1 then none else some (dateOf v)) = v := by
  split
  · rename_i h1
    rw [h1]
    rfl
  · simp only [dateValue, dateOf]
    omega

/-- A written item takes its place among the items, and every other item stands. -/
theorem settingItems_writeSetting {i : SettingItem} (h1 : 1 ≤ i.item) (h21 : i.item ≤ 21) (h : ReadsBack i.item i.value) :
    settingItems (writeSetting x i) = (settingItems x).set (i.item - 1) i := by
  obtain ⟨n, v⟩ := i
  obtain ⟨hrange, hswitch, hday, hmask⟩ := h
  dsimp only at *
  have hnat : ∀ lo hi, settingRange n = some (lo, hi) → 0 ≤ lo → max v 0 = v := fun lo hi hr h0 => by
    have := hrange lo hi hr
    omega
  obtain rfl | rfl | rfl | hnamed | ⟨lo, hi, hr, h0⟩ : n = 2 ∨ n = 15 ∨ n = 21 ∨ (n = 10 ∨ n = 11 ∨ n = 12 ∨ n = 13) ∨
      ∃ lo hi, settingRange n = some (lo, hi) ∧ 0 ≤ lo := by
    interval_cases n <;> simp [settingRange]
  · rfl
  · simp [writeSetting, settingItems, dateValue_dateOf (hday rfl)]
  · have hv := hmask rfl
    have : v.toNat % 4096 = v.toNat := Nat.mod_eq_of_lt (by omega)
    simp [writeSetting, settingItems, this]
    omega
  · obtain rfl | rfl : v = 0 ∨ v = 1 := hswitch (by omega) (by omega)
    all_goals obtain rfl | rfl | rfl | rfl := hnamed <;> rfl
  · have hv := hnat lo hi hr h0
    interval_cases n <;> simp [settingRange] at hr <;> simp [writeSetting, settingItems, hv]

/-- The item of number `n` as it is read. -/
def settingAt (n : Nat) (x : Settings) : Option SettingItem := (settingItems x)[n - 1]?

theorem settingAt_exists {n : Nat} (h1 : 1 ≤ n) (h21 : n ≤ 21) : ∃ y, settingAt n x = some y ∧ y.item = n := by
  interval_cases n <;> exact ⟨_, rfl, rfl⟩

theorem settingAt_writeSetting {i : SettingItem} {n : Nat} (hn : 1 ≤ n) (h : settingGood i = true) :
    settingAt n (writeSetting x (settingClamped i)) = if i.item = n then some (settingClamped i) else settingAt n x := by
  obtain ⟨h1, h21, -⟩ := settingGood_iff.mp h
  rw [settingAt, settingItems_writeSetting (by rwa [settingClamped_item]) (by rwa [settingClamped_item])
    (by rw [settingClamped_item]; exact readsBack_settingClamped h), settingClamped_item]
  split
  · rename_i hi
    rw [hi, List.getElem?_set_self (by simp [settingItems]; omega)]
  · rw [List.getElem?_set_ne (by omega)]
    rfl

theorem settingAt_writtenSettings_of_notMem {n : Nat} (hn : 1 ≤ n) (hg : ∀ i ∈ items, settingGood i = true)
    (h : ∀ i ∈ items, i.item ≠ n) : settingAt n (writtenSettings items x) = settingAt n x := by
  induction items generalizing x with
  | nil => rfl
  | cons i rest ih =>
    rw [List.forall_mem_cons] at hg h
    exact (ih hg.2 h.2).trans ((settingAt_writeSetting hn hg.1).trans (if_neg h.1))

/-- Of distinct items each reads at its clamped value after the write. -/
theorem settingAt_writtenSettings_of_mem {n : Nat} {i : SettingItem} (hn : 1 ≤ n) (hg : ∀ i ∈ items, settingGood i = true)
    (hd : (items.map (fun i => i.item)).Nodup) (hi : i ∈ items) (h : i.item = n) :
    settingAt n (writtenSettings items x) = some (settingClamped i) := by
  induction items generalizing x with
  | nil => cases hi
  | cons j rest ih =>
    rw [List.forall_mem_cons] at hg
    rw [List.map_cons, List.nodup_cons] at hd
    obtain ⟨hj, hrest⟩ := hd
    rcases List.mem_cons.mp hi with rfl | hi
    · have hnot : ∀ k ∈ rest, k.item ≠ n := fun k hk he => hj (List.mem_map.mpr ⟨k, hk, he.trans h.symm⟩)
      exact (settingAt_writtenSettings_of_notMem hn hg.2 hnot).trans
        ((settingAt_writeSetting hn hg.1).trans (if_pos h))
    · exact ih hg.2 hrest hi

/-! ## The clamps (R196) -/

theorem settingClamped_fourteen {i : SettingItem} (hi : i.item = 14) (h : i.value = 1 ∨ i.value = 2) :
    (settingClamped i).value = 3 := by
  simp [settingClamped, hi, settingRange, h]

theorem settingClamped_value {i : SettingItem} {lo hi : Int} (hr : settingRange i.item = some (lo, hi))
    (h : ¬(i.item = 14 ∧ (i.value = 1 ∨ i.value = 2))) : (settingClamped i).value = max lo (min hi i.value) := by
  rw [← clampInt_eq (settingRange_ordered hr)]
  simp only [settingClamped, hr, if_neg h]

/-! ## The checks of SET SETTINGS (R197) -/

theorem setSettings_refused {r : Reason} (h : settingsRefusal items t = some r) :
    setSettings tag items t = answer tag 13 (.refused r) .none t := by
  simp [setSettings, h, refuse]

/-- Past its checks SET SETTINGS writes every item, answers, and tests a firing when the label policy changed. -/
theorem setSettings_writes (h : settingsRefusal items t = none) : setSettings tag items t =
    let x := writtenSettings items t.settings
    let u := answer tag 13 (if clampedNumbers items = [] then .ok else .clamped)
      (.settings (settingItems x) (clampedNumbers items)) (t.setSettings x)
    if x.labelPolicy = t.settings.labelPolicy then u else testVisit u := by
  simp [setSettings, h, writeSettings]

theorem settingsRefusal_badField (h : ¬(items.all settingGood && itemsDistinct items) = true) :
    settingsRefusal items t = some .badField := by
  simp only [Bool.not_eq_true] at h
  simp [settingsRefusal, h]

/-- Past the check of the items, those of the floor and of group A. -/
theorem settingsRefusal_of_good (h : (items.all settingGood && itemsDistinct items) = true) : settingsRefusal items t =
    if carriedOr 3 t.settings.floor items < carriedOr 4 t.settings.ceiling items then
      if (∀ i ∈ items, i.item = 11 ∨ i.item = 13 ∨ i.item = 14 ∨ i.item = 21) ∨
          (t.gate.engine = .stopped ∧ t.gate.visit = none) then none else some .busy
    else some .floorCeiling := by
  have hallowed : (items.all (fun i => groupB i.item) || (t.gate.engine == .stopped && t.gate.visit.isNone)) = true ↔
      (∀ i ∈ items, i.item = 11 ∨ i.item = 13 ∨ i.item = 14 ∨ i.item = 21) ∨
        (t.gate.engine = .stopped ∧ t.gate.visit = none) := by
    simp [groupB, or_assoc]
  rw [settingsRefusal, h]
  simp only [← hallowed, Bool.not_true, Bool.false_eq_true, if_false, ← not_lt, ite_not]
  congr 1
  cases (items.all fun i => groupB i.item) || (t.gate.engine == .stopped && t.gate.visit.isNone) <;> rfl

/-- Settles O19: the checks of SET SETTINGS in their order, and each item after the write. -/
theorem setSettings_holds : Obligations.SetSettings := by
  intro tag items s t ht hr refusedWith realDay good value apart ranges allowed
  have hgood : (items.all settingGood && itemsDistinct items) = true ↔ good := by
    rw [Bool.and_eq_true, itemsDistinct_iff, and_comm, List.all_eq_true]
    exact and_congr_right fun _ => forall₂_congr fun i _ => settingGood_iff
  have act {u : State} (h : setSettings tag items t = u) : exec (.setSettings tag (.given items)) s = .next (settle u) :=
    exec_checked rfl ht hr h
  refine ⟨fun hg => act (setSettings_refused (settingsRefusal_badField (mt hgood.mp hg))),
    fun hg ha => act (setSettings_refused ?_), fun hg ha hl => act (setSettings_refused ?_),
    fun hg ha hl => ⟨act (setSettings_writes ?_), rfl, fun n hn hn' => ?_⟩,
    fun i => ⟨settingClamped_item i, settingClamped_fourteen, fun lo hi hm h => settingClamped_value ?_ h, fun hm => ?_⟩⟩
  · exact (settingsRefusal_of_good (hgood.mpr hg)).trans (if_neg ha)
  · exact (settingsRefusal_of_good (hgood.mpr hg)).trans ((if_pos ha).trans (if_neg hl))
  · exact (settingsRefusal_of_good (hgood.mpr hg)).trans ((if_pos ha).trans (if_pos hl))
  · have hall : ∀ i ∈ items, settingGood i = true := fun i hi => settingGood_iff.mpr (hg.2 i hi)
    obtain ⟨y, hy, hyn⟩ := settingAt_exists (x := writtenSettings items t.settings) hn hn'
    obtain ⟨z, hz, hzn⟩ := settingAt_exists (x := t.settings) hn hn'
    refine ⟨y, z, hy, hz, hyn, hzn, fun hno => ?_, fun i hi hin => ?_⟩
    · exact Option.some.inj (hy.symm.trans ((settingAt_writtenSettings_of_notMem hn hall hno).trans hz))
    · exact Option.some.inj (hy.symm.trans (settingAt_writtenSettings_of_mem hn hall hg.1 hi hin))
  · simp only [ranges, List.mem_cons, Prod.mk.injEq, List.not_mem_nil, or_false] at hm
    rcases hm with ⟨h, rfl, rfl⟩ | ⟨h, rfl, rfl⟩ | ⟨h, rfl, rfl⟩ | ⟨h, rfl, rfl⟩ | ⟨h, rfl, rfl⟩ | ⟨h, rfl, rfl⟩ |
      ⟨h, rfl, rfl⟩ | ⟨h, rfl, rfl⟩ | ⟨h, rfl, rfl⟩ | ⟨h, rfl, rfl⟩ | ⟨h, rfl, rfl⟩ | ⟨h, rfl, rfl⟩ | ⟨h, rfl, rfl⟩ |
      ⟨h, rfl, rfl⟩ | ⟨h, rfl, rfl⟩ <;> rw [h] <;> rfl
  · refine settingClamped_eq_self (Option.eq_none_iff_forall_ne_some.mpr fun ⟨lo, hi⟩ he => hm lo hi ?_)
    generalize i.item = n at he ⊢
    unfold settingRange at he
    split at he <;> cases he <;> simp [ranges]

end Sys2Proof.Machine
end


section
/-!
SUPPORT. The engine's commands (R148 to R155, R160, R161): how a visit goes on and takes its path, what a class A fault and
a hold leave, and the statements O25 to O30 put together from them.
-/

namespace Sys2Proof.Machine

variable {tag : Byte} {s t : State} {v : Visit} {k : Back}

/-! ## The visit's commands on the feeder -/

/-- A command of the visit is outstanding on the feeder or waits in its slot. -/
def VisitSent (s : State) : Prop :=
  (∃ o, (s.slot .feeder).outstanding = some o ∧ o.issuer = .visit) ∨ ∃ c ∈ (s.slot .feeder).waiting, c.issuer = .visit

theorem visitCommand_iff {u : UnitSlot} : s.visitCommand u = true ↔
    (∃ o, (s.slot u).outstanding = some o ∧ o.issuer = .visit) ∨ ∃ c ∈ (s.slot u).waiting, c.issuer = .visit := by
  rw [State.visitCommand, issuers_contains, Bool.or_eq_true, Option.any_eq_true, List.any_eq_true]
  simp

theorem visitCommand_of_sent (h : VisitSent s) : s.visitCommand .feeder = true := visitCommand_iff.mpr h

theorem visitCommand_of_not_sent (h : ¬VisitSent s) : s.visitCommand .feeder = false :=
  Bool.eq_false_iff.mpr (mt visitCommand_iff.mp h)

/-- UNIT-LOST of a unit the open visit needs (R156). -/
def lostFor (v : Visit) (u : FaultUnit) : FaultRec :=
  { kind := .unitLost, unit := u, order := none, back := none, position := some v.position, visit := some v.state }

theorem visitFault_unitLost (hv : s.gate.visit = some v) (u : FaultUnit) : visitFault s .unitLost u = lostFor v u := by
  simp [visitFault, faultRec, hv, lostFor]

/-- A change that leaves the open visit as it is leaves the state. -/
theorem updVisit_self {f : Visit → Visit} (hv : s.gate.visit = some v) (h : f v = v) : updVisit f s = s := by
  rw [updVisit, hv, Option.map_some, h, ← hv]
  rfl

theorem updVisit_some {f : Visit → Visit} (hv : s.gate.visit = some v) :
    updVisit f s = s.setGate { s.gate with visit := some (f v) } := by
  rw [updVisit, hv, Option.map_some]

/-! ## How a visit goes on (R29, R30, R39, R41) -/

theorem continueVisit_none (h : s.gate.visit = none) : continueVisit s = s := by simp [continueVisit, h]

theorem continueVisit_loading (hv : s.gate.visit = some v) (hs : v.state = .loading) :
    continueVisit s = if s.visitCommand .feeder then s else sendLoad s := by
  simp [continueVisit, hv, hs]

theorem continueVisit_metering (hv : s.gate.visit = some v) (hs : v.state = .metering) :
    continueVisit s = if v.metering then s else enterMetering s := by
  simp [continueVisit, hv, hs]

theorem continueVisit_exposing (hv : s.gate.visit = some v) (hs : v.state = .exposing) :
    continueVisit s = testVisit s := by
  simp [continueVisit, hv, hs]

theorem continueVisit_returning (hv : s.gate.visit = some v) (hs : v.state = .returning) :
    continueVisit s = if s.visitCommand .feeder then s else sendReturn s := by
  simp [continueVisit, hv, hs]

theorem sendLoad_eq (hv : s.gate.visit = some v) : sendLoad s =
    if s.present .feeder then issue .feeder (.load v.position) .visit s else raiseFault (lostFor v .feeder) s := by
  simp only [sendLoad, hv, visitFault_unitLost hv]

theorem sendReturn_eq (hv : s.gate.visit = some v) : sendReturn s =
    if s.present .feeder then issue .feeder .ret .visit s else raiseFault (lostFor v .feeder) s := by
  simp only [sendReturn, visitFault_unitLost hv]

/-- A visit in METERING that is not held begins its phase, or without a meter faults (R39, R53). -/
theorem enterMetering_eq (hv : s.gate.visit = some v) (hs : v.state = .metering) (hh : v.held = false) :
    enterMetering s = if s.present .meter then issue .meter .scan .visit
      ((s.setGate { s.gate with visit := some { v with metering := true, zones := [], rereads := [] } }).setTimer
        { s.timer with lamp := true })
      else raiseFault (lostFor v .meter) s := by
  have hself : updVisit (fun v => { v with state := .metering }) s = s := updVisit_self hv (by simp [← hs])
  have hbegin : updVisit (fun v => { v with metering := true, zones := [], rereads := [] })
      (s.setTimer { s.timer with lamp := true }) =
      (s.setGate { s.gate with visit := some { v with metering := true, zones := [], rereads := [] } }).setTimer
        { s.timer with lamp := true } := updVisit_some hv
  simp only [enterMetering, hself, beginMetering, hbegin, hv, Option.any_some, hh, visitFault_unitLost hv]
  cases s.present .meter <;> rfl

/-! ## RUN and the STEP mode (R148, R152) -/

/-- Settles O25. -/
theorem runAndStepMode : Obligations.RunAndStepMode := by
  refine ⟨fun tag s t ht => ?run, fun s => continueVisit_none, fun v s hv hh => ?goesOn,
    fun tag s t hr => ⟨fun ht => .of_checked rfl ht hr rfl, fun ht => .of_checked rfl ht hr rfl⟩⟩
  case run =>
    have act {u : State} {e : Engine} (he : t.gate.engine = e) (hne : e ≠ .resetting) (h : runEngine tag () t = u) :
        exec (.run tag (.given ())) s = .next (settle u) := exec_checked rfl ht (he ▸ hne) h
    refine ⟨fun h => act h (by decide) ?_, fun h => act h (by decide) ?_, fun h => act h (by decide) ?_,
      fun h => act h (by decide) ?_⟩
    all_goals simp only [runEngine, h]
    all_goals rfl
  case goesOn =>
    intro sent lost
    refine ⟨fun h hsent => ?_, fun h hsent hp => ?_, fun h hm => ?_, fun h hm hp => ?_, fun h hm hp => ?_,
      fun h => continueVisit_exposing hv h, fun h hsent => ?_, fun h hsent hp => ?_, fun h hsent hp => ?_⟩
    · rw [continueVisit_loading hv h, visitCommand_of_sent hsent, if_pos rfl]
    · rw [continueVisit_loading hv h, visitCommand_of_not_sent hsent, sendLoad_eq hv, hp]
      rfl
    · rw [continueVisit_metering hv h, hm, if_pos rfl]
    · rw [continueVisit_metering hv h, hm, enterMetering_eq hv h hh, hp]
      rfl
    · rw [continueVisit_metering hv h, hm, enterMetering_eq hv h hh, hp]
      rfl
    · rw [continueVisit_returning hv h, visitCommand_of_sent hsent, if_pos rfl]
    · rw [continueVisit_returning hv h, visitCommand_of_not_sent hsent, sendReturn_eq hv, hp]
      rfl
    · rcases h with h | h
      · rw [continueVisit_loading hv h, visitCommand_of_not_sent hsent, sendLoad_eq hv, hp]
        rfl
      · rw [continueVisit_returning hv h, visitCommand_of_not_sent hsent, sendReturn_eq hv, hp]
        rfl

/-! ## A firing that is not complete (R154) -/

/-- No firing and no frame record has the serial. -/
def serialDone (s : State) (m : Nat) : Bool :=
  s.timer.firing.all (fun f => f.serial != m) &&
    [Back.a, .b].all (fun k => (s.timer.frames.get k).all (fun f => f.serial != m))

theorem firingComplete_eq (m : Nat) : firingComplete s m = serialDone s m := by
  simp [firingComplete, serialDone, Bool.and_assoc]

theorem cutShot_eq (k : Back) : cutShot s k = (s.gate.fired.get k).find? (fun x => !serialDone s x.serial) := by
  simp only [cutShot, openShots, firingComplete_eq, List.head?_filter]

theorem cutShots_eq : cutShots s =
    [Back.a, .b].filterMap (fun k => (s.gate.fired.get k).find? (fun x => !serialDone s x.serial)) := by
  simp only [cutShots, cutShot_eq, List.filterMap_cons, List.filterMap_nil]
  cases (s.gate.fired.get .a).find? _ <;> cases (s.gate.fired.get .b).find? _ <;> rfl

/-! ## Holding a visit (R149, R153) -/

theorem holdVisit_some {c : HoldCause} (hv : s.gate.visit = some v) :
    holdVisit c s = setLabelWait false (s.setGate { s.gate with
      visit := some { v with held := true, release := if c = .fault then false else v.release }
      resume := some (heldResume c s) }) := by
  simp only [holdVisit, hv]

theorem holdVisit_none {c : HoldCause} (hv : s.gate.visit = none) : holdVisit c s = s := by simp only [holdVisit, hv]

theorem heldResume_none {c : HoldCause} (h : s.gate.resume = none) :
    heldResume c s = { cause := c, cutFiring := cutShots s } := by
  simp only [heldResume, h]

theorem heldResume_some {c : HoldCause} {r : Resume} (h : s.gate.resume = some r) :
    heldResume c s = { r with cause := if c = .fault then .fault else r.cause } := by
  simp only [heldResume, h]

/-! ## STOP HOLD (R149) -/

theorem restOrStop_rest (h : s.gate.visit = none ∨ s.atRest = true) : restOrStop s = enterStopped s := by
  rw [restOrStop, if_pos (by simpa using h)]

theorem restOrStop_stops (hv : s.gate.visit.isSome = true) (h : s.atRest = false) :
    restOrStop s = s.setGate { s.gate with engine := .stopping, stopKind := some .hold } := by
  rw [restOrStop, if_neg]
  simp [h, Option.isSome_iff_ne_none.mp hv]

theorem engine_enterStopped : (enterStopped s).gate.engine = .stopped := by simp [enterStopped]

/-- STOP HOLD of a RUNNING engine with a visit open holds it, and stops at once at rest. -/
theorem stopHold_running (he : t.gate.engine = .running) (hv : t.gate.visit.isSome = true) :
    stopHold tag () t = answer tag 2 .ok (.engine (restOrStop (holdVisit .stop t)).gate.engine none)
      (restOrStop (holdVisit .stop t)) := by
  obtain ⟨v, hv⟩ := Option.isSome_iff_exists.mp hv
  simp only [stopHold, he, hv]

/-- Settles O26. -/
theorem stopHold_holds : Obligations.StopHold := by
  intro tag s t ht
  have act {u : State} {e : Engine} (he : t.gate.engine = e) (hne : e ≠ .resetting) (h : stopHold tag () t = u) :
      exec (.stopHold tag (.given ())) s = .next (settle u) := exec_checked rfl ht (he ▸ hne) h
  refine ⟨fun he hv => act he (by decide) ?_, fun he hv => ?open_, fun he hk => act he (by decide) ?_,
    fun he hk => act he (by decide) ?_, fun he => act he (by decide) ?_, fun he => act he (by decide) ?_⟩
  case open_ =>
    intro h
    obtain ⟨v, hv'⟩ := Option.isSome_iff_exists.mp hv
    have hh : h = setLabelWait false (t.setGate { t.gate with
        visit := some { v with held := true }, resume := some (heldResume .stop t) }) := holdVisit_some hv'
    have hopen : h.gate.visit.isSome = true := by simp [hh]
    refine ⟨by simp [hh, State.held], by simp [hh], fun hn => ?_, fun r hr => ?_, fun hrest => ?_, fun hrest => ?_⟩
    · simp only [hh, setLabelWait_frame, State.setGate_gate, heldResume_none hn, cutShots_eq]
      rfl
    · simp [hh, heldResume_some hr]
    · refine act he (by decide) ((stopHold_running he hv).trans ?_)
      rw [restOrStop_rest (.inr hrest), engine_enterStopped]
    · refine act he (by decide) ((stopHold_running he hv).trans ?_)
      rw [restOrStop_stops hopen hrest]
      rfl
  · simp only [stopHold, he, hv]
  · simp only [stopHold, he, hk, if_pos]
  · simp only [stopHold, he, hk]
    rfl
  · simp only [stopHold, he]
  · simp only [stopHold, he]

/-! ## STOP RELEASE (R40, R150) -/

theorem releasePath_none (h : s.gate.visit = none) : releasePath s = s := by simp [releasePath, h]

theorem releasePath_loading (hv : s.gate.visit = some v) (hs : v.state = .loading) :
    releasePath s = if s.visitCommand .feeder then s else enterReturning s := by
  simp [releasePath, hv, hs]

theorem releasePath_metering (hv : s.gate.visit = some v) (hs : v.state = .metering) :
    releasePath s = if v.metering then s else enterReturning s := by
  simp [releasePath, hv, hs]

theorem releasePath_exposing (hv : s.gate.visit = some v) (hs : v.state = .exposing) :
    releasePath s = testReturning s := by
  simp [releasePath, hv, hs]

theorem releasePath_returning (hv : s.gate.visit = some v) (hs : v.state = .returning) :
    releasePath s = if s.visitCommand .feeder then s else sendReturn s := by
  simp [releasePath, hv, hs]

/-- When a visit leaves EXPOSING (R35). -/
theorem leavesExposing_iff : leavesExposing s v = true ↔ s.gate.engine ≠ .resetting ∧ v.state = .exposing ∧
    s.timer.firing = none ∧ v.owed = ⟨false, false⟩ ∧ ((v.lists.a = [] ∧ v.lists.b = []) ∨ v.release = true) := by
  rw [show v.owed = ⟨v.owed.a, v.owed.b⟩ from rfl, PerBack.mk.injEq]
  simp [leavesExposing, and_assoc]

theorem testReturning_of_leaves (hv : s.gate.visit = some v) (h : leavesExposing s v = true) :
    testReturning s = enterReturning s := by
  simp [testReturning, hv, h]

theorem testReturning_of_stays (hv : s.gate.visit = some v) (h : ¬leavesExposing s v = true) : testReturning s = s := by
  simp [testReturning, hv, h]

/-- Settles O27. -/
theorem stopRelease_holds : Obligations.StopRelease := by
  refine ⟨fun s => releasePath_none, fun v s hv hrel hr => ?path, fun tag s t ht => ?command⟩
  case path =>
    intro sent atRest
    have hleaves (hs : v.state = .exposing) : leavesExposing s v = true ↔ atRest := by
      simp [leavesExposing_iff, hs, hr, hrel, atRest]
    refine ⟨fun h hsent => ?_, fun h hsent => ?_, fun h hm => ?_, fun h hm => ?_, fun h ha => ?_, fun h ha => ?_,
      fun h hsent => ?_, fun h hsent hp => ?_, fun h hsent hp => ?_⟩
    · rw [releasePath_loading hv h, visitCommand_of_sent hsent, if_pos rfl]
    · rw [releasePath_loading hv h, visitCommand_of_not_sent hsent]
      rfl
    · rw [releasePath_metering hv h, hm, if_pos rfl]
    · rw [releasePath_metering hv h, hm]
      rfl
    · rw [releasePath_exposing hv h, testReturning_of_leaves hv ((hleaves h).mpr ha)]
    · rw [releasePath_exposing hv h, testReturning_of_stays hv (mt (hleaves h).mp ha)]
    · rw [releasePath_returning hv h, visitCommand_of_sent hsent, if_pos rfl]
    · rw [releasePath_returning hv h, visitCommand_of_not_sent hsent, sendReturn_eq hv, hp]
      rfl
    · rw [releasePath_returning hv h, visitCommand_of_not_sent hsent, sendReturn_eq hv, hp, lostFor, h]
      rfl
  case command =>
    have act {u : State} {e : Engine} (he : t.gate.engine = e) (hne : e ≠ .resetting) (h : stopRelease tag () t = u) :
        exec (.stopRelease tag (.given ())) s = .next (settle u) := exec_checked rfl ht (he ▸ hne) h
    refine ⟨?_, fun he hv => act he (by decide) ?_, fun he hv => act he (by decide) ?_,
      fun he hk => act he (by decide) ?_, fun he => act he (by decide) ?_⟩
    · intro he hv
      have hn : t.gate.visit.isNone = false := by simpa using hv
      have hrun : stopRelease tag () t = answer tag 3 .ok (.engine .stopping none) (release t) := by
        rcases he with he | he | ⟨he, hk⟩
        · simp only [stopRelease, he, hn]; rfl
        · simp only [stopRelease, he, hn]; rfl
        · simp only [stopRelease, he, hk]; rfl
      rcases he with he | he | ⟨he, -⟩ <;> exact act he (by decide) hrun
    · simp only [stopRelease, he, hv]; rfl
    · simp only [stopRelease, he, hv]; rfl
    · simp only [stopRelease, he, hk]; rfl
    · simp only [stopRelease, he]; rfl

end Sys2Proof.Machine
end


section
/-!
SUPPORT. A class A fault and its clearing, and READ RESUME (R153 to R161): the statements O28, O29 and O30.
-/

namespace Sys2Proof.Machine

variable {tag : Byte} {s t : State} {v : Visit} {k : Back} {f : FaultRec}

/-! ## Raising a class A fault (R156 to R159) -/

theorem raiseFault_resetting (h : s.gate.engine = .resetting) : raiseFault f s = s := by simp only [raiseFault, h]

theorem raiseFault_faulted (h : s.gate.engine = .faulted) : raiseFault f s =
    raise .deferred (s.setEvents { s.events with pendingFault := some (s.events.pendingFault.getD f) }) := by
  simp only [raiseFault, h]

/-- The state with the fault current and the engine FAULTED, both flags raised, before the visit is held. -/
def faulted (f : FaultRec) (s : State) : State :=
  raise .engineStopped (raise .fault
    ((s.setEvents { s.events with current := some f }).setGate { s.gate with engine := .faulted, stopKind := none }))

theorem raiseFault_eq_hold (hr : s.gate.engine ≠ .resetting) (hf : s.gate.engine ≠ .faulted) :
    raiseFault f s = holdVisit .fault (faulted f s) := by
  unfold raiseFault
  split
  · exact absurd ‹_› hr
  · exact absurd ‹_› hf
  · rfl

@[simp] theorem faulted_frame :
    (faulted f s).pending = s.pending ∧ (faulted f s).queue = s.queue ∧ (faulted f s).tables = s.tables ∧
    (faulted f s).timer = s.timer ∧ (faulted f s).rolls = s.rolls ∧ (faulted f s).labels = s.labels ∧
    (faulted f s).charge = s.charge ∧ (faulted f s).bus = s.bus ∧ (faulted f s).settings = s.settings ∧
    (faulted f s).gate = { s.gate with engine := .faulted, stopKind := none } := by
  simp [faulted]

/-- Both flags are raised and the other flags are as they were. -/
theorem hasFlag_faulted (g : EventFlag) : hasFlag (faulted f s).events.flags g =
    (decide (g = .fault ∨ g = .engineStopped) || hasFlag s.events.flags g) := by
  by_cases hs : g = .engineStopped
  · simp [faulted, hs, hasFlag_or_bit_self]
  · by_cases hf : g = .fault
    · simp [faulted, hf, hasFlag_or_bit_of_ne, hasFlag_or_bit_self]
    · simp [faulted, hs, hf, hasFlag_or_bit_of_ne]

theorem holdVisit_gate {c : HoldCause} : (holdVisit c s).gate = { s.gate with
    visit := s.gate.visit.map (fun v =>
      { v with held := true, release := if c = .fault then false else v.release })
    resume := if s.gate.visit.isSome then some (heldResume c s) else s.gate.resume } := by
  cases hv : s.gate.visit with
  | none =>
    rw [holdVisit_none hv, Option.map_none, Option.isSome_none, if_neg Bool.false_ne_true, ← hv]
  | some v => rw [holdVisit_some hv]; simp [setLabelWait]

theorem holdVisit_labels {c : HoldCause} : (holdVisit c s).labels =
    { s.labels with labelWait := s.labels.labelWait && s.gate.visit.isNone } := by
  cases hv : s.gate.visit with
  | none => rw [holdVisit_none hv]; simp
  | some v => rw [holdVisit_some hv]; simp [setLabelWait]

/-- Settles O28. -/
theorem faultsRaised : Obligations.FaultsRaised := by
  refine fun f s => ⟨raiseFault_resetting, raiseFault_faulted, fun hr hf => ?_⟩
  rw [raiseFault_eq_hold hr hf]
  have hevents : (holdVisit .fault (faulted f s)).events = (faulted f s).events := by simp
  have hgate : (holdVisit .fault (faulted f s)).gate = { s.gate with
      engine := .faulted, stopKind := none,
      visit := s.gate.visit.map (fun v => { v with held := true, release := false })
      resume := if s.gate.visit.isSome then some (heldResume .fault (faulted f s)) else s.gate.resume } := by
    rw [holdVisit_gate]
    simp
  have hshots : cutShots (faulted f s) = [Back.a, .b].filterMap (fun k =>
      (s.gate.fired.get k).find? (fun x => !serialDone s x.serial)) := by
    rw [cutShots_eq]
    simp only [serialDone, faulted_frame]
  rw [hevents, hgate]
  refine ⟨rfl, rfl, rfl, rfl, by simp [faulted], by simp [faulted], by simp [hasFlag_faulted],
    by simp [hasFlag_faulted], fun g h1 h2 => by simp [hasFlag_faulted, h1, h2], rfl, fun hv => ?_, fun r hv hres => ?_,
    fun hv hres => ?_, by simp, by simp, by simp, by simp, by simp, by simp, by simp, ?_⟩
  · simp only [if_pos hv, Option.map_some, heldResume]
    split <;> rfl
  · simp only [if_pos hv, Option.map_some, heldResume_some (s := faulted f s) (c := .fault) (r := r) (by simp [hres])]
  · simp only [if_pos hv, heldResume_none (s := faulted f s) (c := .fault) (by simp [hres]), hshots]
    rfl
  · rw [holdVisit_labels]
    simp

/-! ## CLEAR FAULT (R160, R161) -/

/-- The fault is one whose clearing closes the visit (R161). -/
theorem jamOfGate_iff {x : Option FaultRec} : jamOfGate x = true ↔
    ∃ g, x = some g ∧ g.kind = .gateJam ∧ (g.visit = some .loading ∨ g.visit = some .returning) := by
  cases x <;> simp [jamOfGate]

/-- The state with no fault, current or pending. -/
def withoutFaults (t : State) : State := t.setEvents { t.events with current := none, pendingFault := none }

/-- The state with no fault, and with the visit closed when the fault was a jam of the gate. -/
def faultCleared (t : State) : State :=
  if jamOfGate t.events.current then closeVisit (withoutFaults t) else withoutFaults t

theorem clearFault_notFaulted (h : t.gate.engine ≠ .faulted) :
    clearFault tag () t = answer tag 6 (.refused .notFaulted) .none t := by
  rw [clearFault, if_neg h, refuse]

theorem clearFault_promotes {p : FaultRec} (h : t.gate.engine = .faulted) (hp : t.events.pendingFault = some p) :
    clearFault tag () t = answer tag 6 .ok (.promoted .faulted p)
      (raise .fault ((faultCleared t).setEvents { (faultCleared t).events with current := some p })) := by
  rw [clearFault, if_pos h, removeFault]
  simp only [hp]
  rfl

theorem clearFault_ends (h : t.gate.engine = .faulted) (hp : t.events.pendingFault = none) :
    clearFault tag () t = answer tag 6 .ok (.engine (restOrStop (faultCleared t)).gate.engine none)
      (restOrStop (faultCleared t)) := by
  rw [clearFault, if_pos h, removeFault]
  simp only [hp]
  rfl

/-- Settles O29. -/
theorem clearFault_holds : Obligations.ClearFault := by
  intro tag s t ht hr
  have act {u : State} (h : clearFault tag () t = u) : exec (.clearFault tag (.given ())) s = .next (settle u) :=
    exec_checked rfl ht hr h
  refine ⟨fun h => act (clearFault_notFaulted h), fun h => ?_⟩
  intro cleared jam closed hjam hno
  have hclosed : closed = faultCleared t := by
    rw [faultCleared]
    split
    · rename_i hj
      by_cases hv : t.gate.visit.isSome = true
      · exact hjam ⟨hv, jamOfGate_iff.mp hj⟩
      · exact (hno fun hj' => hv hj'.1).trans (closeVisit_none (withoutFaults t) (by simpa [withoutFaults] using hv)).symm
    · rename_i hj
      exact hno fun hj' => hj (jamOfGate_iff.mpr hj'.2)
  subst hclosed
  refine ⟨fun p hp => act (clearFault_promotes h hp), fun hp hrest => act ((clearFault_ends h hp).trans ?_),
    fun hp hv hrest => act ((clearFault_ends h hp).trans ?_)⟩
  · rw [restOrStop_rest hrest, engine_enterStopped]
  · rw [restOrStop_stops hv hrest]
    rfl

/-! ## READ RESUME (R153 to R155) -/

theorem readResume_notHeld (h : t.gate.resume = none) :
    readResume tag () t = answer tag 7 (.refused .notHeld) .none t := by
  unfold readResume
  split
  · rename_i hres
    rw [h] at hres
    cases hres
  · rfl

theorem readResume_view {r : Resume} (hv : t.gate.visit = some v) (h : t.gate.resume = some r) :
    readResume tag () t = answer tag 7 .ok (.resume (resumeView t v r)) t := by
  simp only [readResume, hv, h]

/-- Settles O30. -/
theorem readResume_holds : Obligations.ReadResume := by
  intro tag s t hagrees ht
  obtain ⟨-, -, -, -, hresume, -⟩ := hagrees
  refine ⟨fun hr => .of_action rfl ht (checked_busy hr), fun hr hh => ?_, fun hr hh => ?_⟩
  · exact .of_checked rfl ht hr (readResume_notHeld (by simpa [hh] using hresume))
  · obtain ⟨v, hv⟩ : ∃ v, t.gate.visit = some v := Option.isSome_iff_exists.mp (by
      rw [State.held] at hh
      cases hx : t.gate.visit <;> simp_all)
    obtain ⟨r, hres⟩ := Option.isSome_iff_exists.mp (hresume.trans hh)
    refine ⟨v, r, pendingCommand t v, hv, hres, ?_, .of_checked rfl ht hr (readResume_view hv hres)⟩
    intro sent
    refine ⟨fun h hs => ?_, fun h hm => ?_, fun h hs => ?_, ?_⟩
    · simp [pendingCommand, h, visitCommand_of_not_sent hs]
    · simp [pendingCommand, h, hm]
    · simp [pendingCommand, h, visitCommand_of_not_sent hs]
    · rintro (h | ⟨h, hm⟩ | ⟨h | h, hs⟩)
      · simp [pendingCommand, h]
      · simp [pendingCommand, h, hm]
      · simp [pendingCommand, h, visitCommand_of_sent hs]
      · simp [pendingCommand, h, visitCommand_of_sent hs]

end Sys2Proof.Machine
end


section
/-!
SUPPORT. Order numbers and work items (R3, R10, R11, R27), and the ending and settlement of an order (R8, R9, R137, R162):
the statements O37 and O36.
-/

namespace Sys2Proof.Machine

/-! ## The plan of an order (R10) -/

/-- The planned exposure that stands at index `j` from copy `c`, in shooting order. -/
def exposureAt (steps c j : Nat) : Nat × Nat := (c + j / steps, j % steps + 1)

/-- The plan of the copies from `c` on, counted from 0. -/
theorem flatMap_steps_eq {steps : Nat} (h : 0 < steps) (c m : Nat) :
    ((List.range' c m).flatMap fun copy => (List.range' 1 steps).map fun step => (copy, step)) =
      (List.range (m * steps)).map (exposureAt steps c) := by
  induction m generalizing c with
  | zero => simp
  | succ m ih =>
    have hfirst : (List.range' 1 steps).map (fun step => (c, step)) = (List.range steps).map (exposureAt steps c) := by
      rw [List.range'_eq_map_range, List.map_map]
      refine List.map_congr_left fun j hj => ?_
      have hj := List.mem_range.mp hj
      simp [exposureAt, Nat.div_eq_of_lt hj, Nat.mod_eq_of_lt hj, Nat.add_comm]
    have hrest : (exposureAt steps c) ∘ (fun j => steps + j) = exposureAt steps (c + 1) := by
      funext j
      simp [exposureAt, Nat.add_div_left j h]
      omega
    rw [List.range'_succ, List.flatMap_cons, ih, hfirst,
      show (m + 1) * steps = steps + m * steps by rw [Nat.succ_mul, Nat.add_comm], List.range_add, List.map_append,
      List.map_map, hrest]

/-- What is left of the plan from the next set on. -/
theorem plannedFrom_some {steps copies c p : Nat} (h : 0 < steps) : plannedFrom steps copies (some (c, p)) =
    ((List.range ((copies + 1 - c) * steps)).map (exposureAt steps c)).drop (p - 1) := by
  rw [plannedFrom, flatMap_steps_eq h]

theorem exposureAt_injective {steps c : Nat} : Function.Injective (exposureAt steps c) := by
  intro i j hij
  simp only [exposureAt, Prod.mk.injEq] at hij
  rw [← Nat.div_add_mod i steps, ← Nat.div_add_mod j steps, show i / steps = j / steps by omega,
    show i % steps = j % steps by omega]

section
variable {o : Order} {c p : Nat}

theorem length_planned (hcopies : c ≤ o.copies) (hp : 1 ≤ p) (hsteps : p ≤ o.pattern.steps)
    (hn : o.next = some (c, p)) : (plannedFrom o.pattern.steps o.copies o.next).length =
      (o.copies - c) * o.pattern.steps + (o.pattern.steps + 1 - p) := by
  rw [hn, plannedFrom_some (by omega), List.length_drop, List.length_map, List.length_range,
    show o.copies + 1 - c = o.copies - c + 1 by omega, Nat.succ_mul]
  omega

/-- Counting the planned exposures from 0, those from the next set on. -/
theorem getElem?_planned (hc : 1 ≤ c) (hcopies : c ≤ o.copies) (hp : 1 ≤ p) (hsteps : p ≤ o.pattern.steps)
    (hn : o.next = some (c, p)) (j : Nat) :
    let n := (c - 1) * o.pattern.steps + (p - 1) + j
    (plannedFrom o.pattern.steps o.copies o.next)[j]? = if n < o.copies * o.pattern.steps then
      some (n / o.pattern.steps + 1, n % o.pattern.steps + 1) else none := by
  intro n
  have h0 : 0 < o.pattern.steps := by omega
  have hn' : n = (p - 1 + j) + (c - 1) * o.pattern.steps := by omega
  have htotal : o.copies * o.pattern.steps = (o.copies + 1 - c) * o.pattern.steps + (c - 1) * o.pattern.steps := by
    rw [← Nat.add_mul, show o.copies + 1 - c + (c - 1) = o.copies by omega]
  have hlt : n < o.copies * o.pattern.steps ↔ p - 1 + j < (o.copies + 1 - c) * o.pattern.steps := by omega
  rw [hn, plannedFrom_some h0, List.getElem?_drop, List.getElem?_map]
  split
  · rename_i h
    rw [List.getElem?_range (hlt.mp h), Option.map_some, exposureAt, hn', Nat.add_mul_div_right _ _ h0,
      Nat.add_mul_mod_self_right]
    congr 2
    omega
  · rename_i h
    rw [List.getElem?_eq_none (by simpa using mt hlt.mpr h), Option.map_none]

theorem nodup_planned (hp : 1 ≤ p) (hsteps : p ≤ o.pattern.steps) (hn : o.next = some (c, p)) :
    (plannedFrom o.pattern.steps o.copies o.next).Nodup := by
  rw [hn, plannedFrom_some (by omega)]
  exact (List.nodup_range.map exposureAt_injective).sublist (List.drop_sublist _ _)

/-- A planned item as a work item. -/
def plannedItem (o : Order) (i : Nat × Nat) : WorkItem :=
  { order := o.number, copy := i.1, step := i.2, kind := if i.2 = 1 then .setStart else .inSet }

/-- A redo item as a work item. -/
def redoItem (o : Order) (i : Nat × Nat) : WorkItem := { order := o.number, copy := i.1, step := i.2, kind := .redo }

theorem workItems_eq : o.workItems =
    o.redo.map (redoItem o) ++ (plannedFrom o.pattern.steps o.copies o.next).map (plannedItem o) := rfl

end

/-- Settles O37. -/
theorem orderNumbersAndWorkItems : Obligations.OrderNumbersAndWorkItems := by
  refine ⟨fun q hq h1 h2 => ?number, fun n hn => ?_, rfl, fun o c p hc hcopies hp hsteps hn => ?items, fun o hn => ?_⟩
  case number =>
    obtain ⟨i, hi, he, hbefore, hfree⟩ := queue_freeNumber_spec hq h1 h2
    have hrange := numberAfter_range q.nextNumber i
    rw [← he] at hrange
    refine ⟨hrange.1, hrange.2, fun o ho hno => hfree (List.mem_map.mpr ⟨o, ho, hno⟩), fun hfirst => ?_, i, hi, he,
      fun j hj => List.mem_map.mp (hbefore j hj)⟩
    cases i with
    | zero => rw [he, numberAfter_zero h1 h2]
    | succ i =>
      obtain ⟨o, ho, hno⟩ := List.mem_map.mp (hbefore 0 (Nat.succ_pos i))
      rw [numberAfter_zero h1 h2] at hno
      exact absurd hno (hfirst o ho)
  case items =>
    have hget := getElem?_planned hc hcopies hp hsteps hn
    have hplan (j : Nat) : o.workItems[o.redo.length + j]? =
        ((plannedFrom o.pattern.steps o.copies o.next)[j]?).map (plannedItem o) := by
      rw [workItems_eq, List.getElem?_append_right (by simp), List.length_map, Nat.add_sub_cancel_left,
        List.getElem?_map]
    refine ⟨?_, ?_, fun i hi => ?_, fun j => ?_, nodup_planned hp hsteps hn⟩
    · rw [workItems_eq, List.length_append, List.length_map, List.length_map,
        length_planned hcopies hp hsteps hn, Nat.add_assoc]
    · have hlt : (c - 1) * o.pattern.steps + (p - 1) + 0 < o.copies * o.pattern.steps := by
        calc (c - 1) * o.pattern.steps + (p - 1) + 0 < (c - 1) * o.pattern.steps + o.pattern.steps := by omega
          _ = (c - 1 + 1) * o.pattern.steps := (Nat.succ_mul _ _).symm
          _ ≤ o.copies * o.pattern.steps := Nat.mul_le_mul_right _ (by omega)
      have hdiv : ((c - 1) * o.pattern.steps + (p - 1)) / o.pattern.steps = c - 1 := by
        rw [Nat.add_comm, Nat.add_mul_div_right _ _ (by omega), Nat.div_eq_of_lt (by omega), Nat.zero_add]
      have hmod : ((c - 1) * o.pattern.steps + (p - 1)) % o.pattern.steps = p - 1 := by
        rw [Nat.add_comm, Nat.add_mul_mod_self_right, Nat.mod_eq_of_lt (by omega)]
      have h := (hplan 0).trans (congrArg (Option.map (plannedItem o)) ((hget 0).trans (if_pos hlt)))
      simp only [Nat.add_zero] at h
      rw [hdiv, hmod, Nat.sub_add_cancel hc, Nat.sub_add_cancel hp] at h
      exact h
    · rw [workItems_eq, List.getElem?_append_left (by simpa using hi), List.getElem?_map]
      rfl
    · intro n
      rw [hplan, hget]
      split
      · simp [plannedItem, n, *]
      · simp [*]
  · rw [nextNumber, if_neg (by omega)]
  · rw [workItems_eq, hn]
    simp [plannedFrom, redoItem]

/-! ## The ending and the settlement of an order (R8, R9, R137) -/

section
variable {s : State} {n m : Nat} {o : Order} {f : Order → Order}

theorem order?_updOrder (hf : ∀ o, (f o).number = o.number) (n m : Nat) (s : State) :
    (updOrder n f s).order? m = (s.order? m).map fun o => if o.number = n then f o else o := by
  have hsame (o : Order) : (if o.number = n then f o else o).number = o.number := by split <;> simp [hf]
  simp [State.order?, updOrder, List.find?_map, hsame]

theorem order?_updOrder_same (hf : ∀ o, (f o).number = o.number) (n : Nat) (s : State) :
    (updOrder n f s).order? n = (s.order? n).map f := by
  rw [order?_updOrder hf]
  refine Option.map_congr fun o ho => ?_
  rw [if_pos (mem_of_order? ho).2]

theorem order?_updOrder_other (hf : ∀ o, (f o).number = o.number) (h : m ≠ n) (s : State) :
    (updOrder n f s).order? m = s.order? m := by
  rw [order?_updOrder hf]
  refine (Option.map_congr fun o ho => ?_).trans Option.map_id'
  rw [if_neg ((mem_of_order? ho).2 ▸ h)]

theorem live?_of_ending (h : s.order? n = some o) (he : o.state = .ending) : s.live? n = none := by
  simp [State.live?, h, Order.live, he]

theorem live?_of_live (h : s.order? n = some o) (he : o.state ≠ .ending) : s.live? n = some o :=
  live?_eq_some.mpr ⟨h, he⟩

theorem live?_of_unknown (h : s.order? n = none) : s.live? n = none := by simp [State.live?, h]

/-- An order settled at an amount, with nothing held any more (R137). -/
def Order.settledAt (amount : Nat) (o : Order) : Order := { o with held := 0, settled := some amount }

/-- An order entered into ENDING (R8). -/
def Order.ended (kind : EndKind) (o : Order) : Order :=
  { o with state := .ending, endKind := some kind, waiting := .none }

/-- An order's entry in the ending list, with its report as it ends. -/
def endingEntry (kind : EndKind) (n clock : Nat) (o : Order) : Ending :=
  { number := n, stamp := clock, report := Order.report { o with settled := some (settledAmount o) } kind }

theorem endOrder_of_none (kind : EndKind) (h : s.live? n = none) : endOrder kind n s = s := by simp [endOrder, h]

/-- An order's entry to ENDING: it leaves the visit, is settled and charged, and its report joins the ending list. -/
theorem endOrder_of_live (kind : EndKind) (h : s.order? n = some o) (hlive : o.state ≠ .ending) :
    endOrder kind n s =
      let settled := updOrder n (Order.settledAt (settledAmount o))
        (updAccount o.account (fun a => a.settle o) (removeMember n (removeItems n s)))
      let ended := updOrder n (Order.ended kind) settled
      tick (ended.setQueue { ended.queue with
        ending := s.queue.ending ++ [endingEntry kind n s.link.clock o] }) := by
  have hset : (removeMember n (removeItems n s)).order? n = some o := h
  simp only [endOrder, live?_of_live h hlive, settleOrder, hset]
  rfl

theorem endOrder_order? (kind : EndKind) (h : s.order? n = some o) (hlive : o.state ≠ .ending) (m : Nat) :
    (endOrder kind n s).order? m =
      if m = n then some (Order.ended kind (Order.settledAt (settledAmount o) o)) else s.order? m := by
  have hq : (endOrder kind n s).order? m =
      (updOrder n (Order.ended kind) (updOrder n (Order.settledAt (settledAmount o)) s)).order? m := by
    rw [endOrder_of_live kind h hlive]
    rfl
  have hended (x : Order) : (Order.ended kind x).number = x.number := rfl
  have hsettled (x : Order) : (Order.settledAt (settledAmount o) x).number = x.number := rfl
  rw [hq]
  split
  · next hm => rw [hm, order?_updOrder_same hended, order?_updOrder_same hsettled, h, Option.map_some, Option.map_some]
  · next hm => rw [order?_updOrder_other hended hm, order?_updOrder_other hsettled hm]

theorem endOrder_charge (kind : EndKind) (h : s.order? n = some o) (hlive : o.state ≠ .ending) :
    (endOrder kind n s).charge = { s.charge with
      accounts := s.charge.accounts.map fun a => if a.number = o.account then a.settle o else a } := by
  rw [endOrder_of_live kind h hlive]
  simp [updAccount, updOrder]

theorem endOrder_ending (kind : EndKind) (h : s.order? n = some o) (hlive : o.state ≠ .ending) :
    (endOrder kind n s).queue.ending = s.queue.ending ++ [endingEntry kind n s.link.clock o] := by
  rw [endOrder_of_live kind h hlive]
  simp

theorem endOrder_visit (kind : EndKind) (h : s.order? n = some o) (hlive : o.state ≠ .ending) :
    (endOrder kind n s).gate.visit = s.gate.visit.map fun v => { v with
      members := v.members.filter (fun m => m.order != n)
      lists := ⟨v.lists.a.filter (fun w => w.order != n), v.lists.b.filter (fun w => w.order != n)⟩ } := by
  rw [endOrder_of_live kind h hlive]
  simp [updOrder, removeMember, removeItems, Function.comp_def]

theorem failOrder_of_none (kind : ClassB) (h : s.live? n = none) : failOrder kind n s = s := by
  obtain ⟨_, he⟩ | ⟨o, ho, _⟩ := failOrder_cases (s := s) kind n
  exacts [he, absurd h (by simp [ho])]

theorem failOrder_of_live (kind : ClassB) (h : s.live? n = some o) :
    failOrder kind n s = raise .orderFault (drainReports (endOrder (.faulted kind) n s)) := by
  obtain ⟨hn, _⟩ | ⟨_, _, he⟩ := failOrder_cases (s := s) kind n
  exacts [absurd h (by simp [hn]), he]

end

/-- Settles O36. -/
theorem endingAndSettlementOfAnOrder : Obligations.EndingAndSettlementOfAnOrder := by
  refine ⟨fun kind n o s h => ⟨fun he => endOrder_of_none kind (live?_of_ending h he), fun hlive => ?_⟩,
    fun kind n s h => endOrder_of_none kind (live?_of_unknown h), fun kind n rest s => ?_, fun o hg hl ht => ?_⟩
  · have horder (m : Nat) := endOrder_order? kind h hlive m
    refine ⟨by rw [horder, if_pos rfl]; rfl, fun m hm => by rw [horder, if_neg hm], ?_⟩
    obtain ⟨-, -, htimer, hrolls, hlabels, hbus, -⟩ := endOrder_frame (s := s) kind n
    refine ⟨(endOrder_charge kind h hlive).trans ?_, (endOrder_ending kind h hlive).trans ?_,
      endOrder_visit kind h hlive, by rw [endOrder_of_live kind h hlive]; simp, htimer, hrolls, hlabels, hbus⟩
    · simp only [Account.settle, satAdd, Config.maxSum, Config.maxCount, settledAmount]
    · simp only [endingEntry, Order.report, Option.getD_some, (mem_of_order? h).2, settledAmount]
  · exact ⟨fun o h hlive => failOrder_of_live kind (live?_of_live h hlive),
      fun o h he => failOrder_of_none kind (live?_of_ending h he),
      fun h => failOrder_of_none kind (live?_of_unknown h), rfl, rfl⟩
  · have hframes := Nat.mul_le_mul_right o.prices.frame hg
    have hlabels : o.goodLabels * o.prices.labelFee ≤
        if o.template.isSome then o.copies * o.pattern.steps * o.prices.labelFee else 0 := by
      cases htem : o.template with
      | none => simp [ht htem]
      | some t => exact Nat.mul_le_mul_right _ (hl.trans hg)
    unfold settledAmount reservation
    omega

end Sys2Proof.Machine
end


section
/-!
SUPPORT. The admission and the refusal of an ORDER frame (R3 to R6, R135, R136) and CANCEL ORDER (R17): the statements O33,
O34 and O35.
-/

namespace Sys2Proof.Machine

variable {tag : Byte} {s t : State}

/-! ## A reply on the link (R187, R193) -/

/-- The link as a reply joins its queue: the head begins to be sent when the transmitter may begin. -/
def repliedLink (r : Reply) (l : Link) : Link :=
  if l.mayBegin then
    { l with replies := (l.replies ++ [r]).tail, sending := ((l.replies ++ [r]).head?).map .reply }
  else { l with replies := l.replies ++ [r] }

theorem addReply_eq_setLink (r : Reply) (s : State) : addReply r s = s.setLink (repliedLink r s.link) := by
  obtain ⟨hm, h⟩ | ⟨hm, x, rest, hx, h⟩ := addReply_cases s r
  · rw [h, repliedLink, if_neg (by simp [hm])]
  · rw [h, repliedLink, if_pos hm, hx]
    rfl

/-! ## The fields of an ORDER frame (R1, R201) -/

section
variable {f : OrderFields}

/-- Check 1 of R4. -/
def OrderGood (f : OrderFields) : Prop :=
  1 ≤ f.magazine ∧ f.magazine ≤ 250 ∧ 1 ≤ f.position ∧ f.position ≤ 120 ∧ 1 ≤ f.copies ∧ f.copies ≤ 9 ∧
  f.pattern ≤ 15 ∧ (∀ n, f.template = some n → n ≤ 7) ∧ f.mode ≤ 3 ∧ (f.mode = 3 → f.fixedDensity.isSome = true) ∧
  f.strayFlags = 0

theorem orderFieldsGood_iff : orderFieldsGood f = true ↔ OrderGood f := by
  simp only [orderFieldsGood, OrderGood, inRange, Bool.and_eq_true, decide_eq_true_eq, Option.all_eq_true,
    Bool.or_eq_true, bne_iff_ne, ne_eq, imp_iff_not_or, and_assoc]

theorem modeOf_eq_some (h : f.mode ≤ 3) : modeOf f.mode =
    some (if f.mode = 0 then .average else if f.mode = 1 then .centre else if f.mode = 2 then .spot else .fixed) := by
  generalize f.mode = m at h
  interval_cases m <;> rfl

theorem clampInt_eq_max_min {lo hi v : Int} (h : lo ≤ hi) : clampInt lo hi v = max lo (min hi v) := by
  unfold clampInt
  split
  · omega
  · split <;> omega

theorem templateGood_iff {x : Option Nat} :
    templateGood t x = true ↔ ∀ n, x = some n → (t.template? n).isSome = true := by
  cases x <;> simp [templateGood]

/-! ## The checks of R4, one equation each -/

theorem orderTerms_badField (h : ¬OrderGood f) : orderTerms f t = .error .badField := by
  simp [orderTerms, mt orderFieldsGood_iff.mp h]

theorem orderTerms_houseRefused (hg : OrderGood f) (h : f.account = 0) : orderTerms f t = .error .houseRefused := by
  simp [orderTerms, orderFieldsGood_iff.mpr hg, h]

theorem orderTerms_noAccount (hg : OrderGood f) (h0 : f.account ≠ 0) (h : t.charge.account? f.account = none) :
    orderTerms f t = .error .noAccount := by
  simp [orderTerms, orderFieldsGood_iff.mpr hg, h0, h]

section
variable {a : Account} {e : StockEntry} {p : Pattern}

theorem orderTerms_suspended (hg : OrderGood f) (h0 : f.account ≠ 0) (ha : t.charge.account? f.account = some a)
    (h : a.isOpen = false) : orderTerms f t = .error .suspended := by
  simp [orderTerms, orderFieldsGood_iff.mpr hg, h0, ha, h]

theorem orderTerms_noStock (hg : OrderGood f) (h0 : f.account ≠ 0) (ha : t.charge.account? f.account = some a)
    (ho : a.isOpen = true) (h : t.stock? f.stock = none) : orderTerms f t = .error .noStock := by
  simp [orderTerms, orderFieldsGood_iff.mpr hg, h0, ha, ho, h]

theorem orderTerms_noPattern (hg : OrderGood f) (h0 : f.account ≠ 0) (ha : t.charge.account? f.account = some a)
    (ho : a.isOpen = true) (he : t.stock? f.stock = some e) (h : t.pattern? f.pattern = none) :
    orderTerms f t = .error .noPattern := by
  simp [orderTerms, orderFieldsGood_iff.mpr hg, h0, ha, ho, he, h]

theorem orderTerms_noTemplate (hg : OrderGood f) (h0 : f.account ≠ 0) (ha : t.charge.account? f.account = some a)
    (ho : a.isOpen = true) (he : t.stock? f.stock = some e) (hp : t.pattern? f.pattern = some p)
    (h : templateGood t f.template = false) : orderTerms f t = .error .noTemplate := by
  simp [orderTerms, orderFieldsGood_iff.mpr hg, h0, ha, ho, he, hp, h]

/-- The terms of an order that passes the checks before the queue's (R4, R6). -/
def termsOf (f : OrderFields) (t : State) (a : Account) (e : StockEntry) (p : Pattern) : OrderTerms where
  account := a
  pattern := p
  prices := pricesOf t e
  mode := if f.mode = 0 then .average else if f.mode = 1 then .centre else if f.mode = 2 then .spot else .fixed

theorem orderTerms_ok (hg : OrderGood f) (h0 : f.account ≠ 0) (ha : t.charge.account? f.account = some a)
    (ho : a.isOpen = true) (he : t.stock? f.stock = some e) (hp : t.pattern? f.pattern = some p)
    (ht : templateGood t f.template = true) : orderTerms f t = .ok (termsOf f t a e p) := by
  have hmode : f.mode ≤ 3 := hg.2.2.2.2.2.2.2.2.1
  simp [orderTerms, orderFieldsGood_iff.mpr hg, h0, ha, ho, he, hp, ht, modeOf_eq_some hmode, termsOf]

end

/-! ## The taking of the frame (R4, R5, R136) -/

section
variable {x : OrderTerms}

theorem exec_orderFrame (ht : taken (.orderFrame tag f) s = some t) :
    exec (.orderFrame tag f) s = .next (takeOrder tag f t) :=
  congrArg _ (takeFrame_taken ht)

theorem takeOrder_error {r : Reason} (h : orderTerms f t = .error r) :
    takeOrder tag f t = answerOrder tag (.refused r) .none t := by simp [takeOrder, h]

theorem takeOrder_queueFull (h : orderTerms f t = .ok x) (hq : 32 ≤ t.queue.orders.length) :
    takeOrder tag f t = answerOrder tag (.refused .queueFull) .none t := by
  simp only [takeOrder, h]
  exact if_pos hq

theorem not_full (hq : t.queue.orders.length < 32) : ¬Config.orderCapacity ≤ t.queue.orders.length := Nat.not_le.mpr hq

theorem takeOrder_overCeiling (h : orderTerms f t = .ok x) (hq : t.queue.orders.length < 32)
    (ha : x.account.allows (frameReservation f x) = false) : takeOrder tag f t =
      answerOrder tag (.refused .overCeiling) (.overCeiling (frameReservation f x) x.account.headroom) t := by
  simp only [takeOrder, h]
  rw [if_neg (not_full hq), if_pos (by simp [ha])]

theorem takeOrder_busy (h : orderTerms f t = .ok x) (hq : t.queue.orders.length < 32)
    (ha : x.account.allows (frameReservation f x) = true) (hr : t.gate.engine = .resetting) :
    takeOrder tag f t = answerOrder tag (.refused .busy) .none t := by
  simp only [takeOrder, h]
  rw [if_neg (not_full hq), if_neg (by simp [ha]), if_pos hr]

theorem takeOrder_admits (h : orderTerms f t = .ok x) (hq : t.queue.orders.length < 32)
    (ha : x.account.allows (frameReservation f x) = true) (hr : t.gate.engine ≠ .resetting) :
    takeOrder tag f t = settle (admitOrder tag f x t) := by
  simp only [takeOrder, h]
  rw [if_neg (not_full hq), if_neg (by simp [ha]), if_neg hr]

theorem allows_iff {a : Account} {n : Nat} : a.allows n = true ↔ a.committed + a.charged + n ≤ a.ceiling :=
  decide_eq_true_iff

end

/-- The reply and the texts as the admission holds them (R1 notes 2 and 3). -/
theorem optionalText_getD_ne {max : Nat} {x : Text} :
    textClamped max x = true ↔ (optionalText max x).getD [] ≠ x := by
  cases x with
  | nil => simp [textClamped, optionalText, cleanText]
  | cons c x => simp [textClamped, optionalText]

end

/-- Settles O34: a refusal per check, in their order. -/
theorem orderRefused : Obligations.OrderRefused := by
  intro tag f s t ht refusedWith good
  have hexec := exec_orderFrame ht
  have hrefuse {r : Reason} (h : orderTerms f t = .error r) : refusedWith r .none :=
    hexec.trans (congrArg _ (takeOrder_error h))
  refine ⟨fun h => hrefuse (orderTerms_badField h), fun hg h => hrefuse (orderTerms_houseRefused hg h),
    fun hg h0 h => hrefuse (orderTerms_noAccount hg h0 h), fun a hg h0 ha =>
    ⟨fun h => hrefuse (orderTerms_suspended hg h0 ha h), fun ho h => hrefuse (orderTerms_noStock hg h0 ha ho h),
     fun e ho he => ⟨fun h => hrefuse (orderTerms_noPattern hg h0 ha ho he h), fun p hp => ⟨fun n hn h => ?template,
      fun htem => ?_⟩⟩⟩⟩
  case template =>
    refine hrefuse (orderTerms_noTemplate hg h0 ha ho he hp (Bool.eq_false_iff.mpr fun htem => ?_))
    have := templateGood_iff.mp htem n hn
    simp [h] at this
  have hterms := orderTerms_ok hg h0 ha ho he hp (templateGood_iff.mpr htem)
  refine ⟨fun hq => hexec.trans (congrArg _ (takeOrder_queueFull hterms hq)), ?_⟩
  intro amount
  refine ⟨fun hq hover => hexec.trans (congrArg _ (takeOrder_overCeiling hterms hq ?_)),
    fun hq hin hr => hexec.trans (congrArg _ (takeOrder_busy hterms hq (allows_iff.mpr hin) hr))⟩
  exact Bool.eq_false_iff.mpr fun h => absurd (allows_iff.mp h) (Nat.not_le.mpr hover)

/-- Settles O33: the record, the sums, the reply and the clamps of an order admitted. -/
theorem orderAdmitted : Obligations.OrderAdmitted := by
  intro tag f s t a e p ht h1 h2 h3 h4 h5 h6 h7 h8 h9 h10 h11 h0 ha ho he hp htem hq m amount heldText hin hr
  have hg : OrderGood f := ⟨h1, h2, h3, h4, h5, h6, h7, h8, h9, h10, h11⟩
  have hterms := orderTerms_ok hg h0 ha ho he hp (templateGood_iff.mpr htem)
  have hadmit := takeOrder_admits (tag := tag) hterms hq (allows_iff.mpr hin) hr
  have hheld (max : Nat) (x : Text) : optionalText max x = heldText max x := by
    cases x with
    | nil => rfl
    | cons c x => exact congrArg some (cleanText_eq _ _)
  refine ⟨newOrder t.queue.freeNumber tag f (termsOf f t a e p), admitOrder tag f (termsOf f t a e p) t, orderClamps f,
    (exec_orderFrame ht).trans (congrArg _ hadmit), ?_⟩
  have hadm : admitOrder tag f (termsOf f t a e p) t = _ := addReply_eq_setLink _ _
  rw [hadm]
  refine ⟨rfl, rfl, rfl, rfl, rfl, rfl, rfl, rfl, rfl, rfl, rfl, rfl, rfl, rfl, rfl,
    clampInt_eq_max_min (by decide), hheld _ _, hheld _ _, hheld _ _, rfl, rfl, rfl, rfl, rfl, rfl, rfl, rfl, rfl, rfl,
    rfl, ?_, ?_, ?_, optionalText_getD_ne, optionalText_getD_ne, optionalText_getD_ne, rfl⟩
  · rw [replied, addReply_eq_setLink]
    rfl
  · cases hd : f.fixedDensity <;> simp [orderClamps, hd]
  · simp [orderClamps, newOrder]

/-! ## CANCEL ORDER (R17, R18, R38) -/

section
variable {n : Nat} {o : Order}

theorem cancelOrder_none (h : t.order? n = none) :
    cancelOrder tag n t = answer tag 21 (.refused .noOrder) .none t := by simp [cancelOrder, h, refuse]

theorem cancelOrder_ending (h : t.order? n = some o) (hs : o.state = .ending) :
    cancelOrder tag n t = answer tag 21 (.refused .ending) .none t := by simp [cancelOrder, h, hs, refuse]

theorem cancelOrder_queued (h : t.order? n = some o) (hs : o.state = .queued) : cancelOrder tag n t =
    answer tag 21 .ok (.cancelled .ending false) (drainReports (endOrder .cancelled n t)) := by
  simp [cancelOrder, h, hs]

theorem cancelOrder_again (h : t.order? n = some o) (hs : o.state = .active) (hc : o.cancelRequested = true) :
    cancelOrder tag n t = answer tag 21 .ok (.cancelled .active true) t := by simp [cancelOrder, h, hs, hc]

theorem cancelOrder_active (h : t.order? n = some o) (hs : o.state = .active) (hc : o.cancelRequested = false) :
    cancelOrder tag n t = testReturning (answer tag 21 .ok
      (.cancelled (stateAfter (markCancelled n t) n) true) (markCancelled n t)) := by
  simp [cancelOrder, h, hs, hc]

/-- A part of an order is in flight in the firing or in a frame record (R18, R38). -/
theorem inFlight_iff : inFlight t n = true ↔ ∃ k, (∃ x, t.shot? k = some x ∧ x.item.order = n) ∨
    ∃ f, t.timer.frames.get k = some f ∧ f.item.order = n := by
  simp only [inFlight, List.any_eq_true, Bool.or_eq_true, Option.any_eq_true, beq_iff_eq]
  exact ⟨fun ⟨k, _, h⟩ => ⟨k, h⟩, fun ⟨k, h⟩ => ⟨k, by cases k <;> decide, h⟩⟩

theorem mem_cancelsDone : n ∈ cancelsDone t ↔ inFlight t n = false ∧
    ∃ p ∈ t.queue.orders, p.number = n ∧ p.state = .active ∧ p.cancelRequested = true := by
  simp only [cancelsDone, List.mem_map, List.mem_filter, Bool.and_eq_true, beq_iff_eq, Bool.not_eq_true']
  constructor
  · rintro ⟨p, ⟨hp, ⟨hs, hc⟩, hf⟩, rfl⟩
    exact ⟨hf, p, hp, rfl, hs, hc⟩
  · rintro ⟨hf, p, hp, rfl, hs, hc⟩
    exact ⟨p, ⟨hp, ⟨hs, hc⟩, hf⟩, rfl⟩

end

/-- Settles O35. -/
theorem cancelOrder_holds : Obligations.CancelOrder := by
  intro tag n s t ht hr
  refine ⟨fun h => exec_checked rfl ht hr (cancelOrder_none h), fun o h =>
    ⟨fun hs => exec_checked rfl ht hr (cancelOrder_ending h hs), fun hs => exec_checked rfl ht hr (cancelOrder_queued h hs),
     fun hs hc => exec_checked rfl ht hr (cancelOrder_again h hs hc), fun hs hc => ?_⟩⟩
  intro flying marked
  have hflying (m : Nat) : inFlight marked m = false ↔ ¬flying m :=
    Bool.eq_false_iff.trans (not_congr (inFlight_iff (t := marked)))
  obtain ⟨hmem, hn⟩ := mem_of_order? h
  have hmarked : ∃ p ∈ marked.queue.orders, p.number = n ∧ p.state = .active ∧ p.cancelRequested = true :=
    ⟨_, List.mem_map_of_mem hmem, by rw [if_pos hn]; exact ⟨hn, hs, rfl⟩⟩
  refine ⟨cancelsDone marked, markCancelled n t, rfl, fun m => mem_cancelsDone.trans (and_congr_left' (hflying m)),
    mem_cancelsDone.trans ⟨fun hm => (hflying n).mp hm.1, fun hm => ⟨(hflying n).mpr hm, hmarked⟩⟩,
    exec_checked rfl ht hr (cancelOrder_active h hs hc)⟩

end Sys2Proof.Machine
end


section
/-!
SUPPORT. DIRECT frames and the commands of the stand bus (R173 to R182): the statements O48, O49, O51 and O52.
-/

namespace Sys2Proof.Machine

variable {tag unit : Byte} {s t : State} {u : UnitSlot} {c : Instr} {cmd : UnitCmd} {k : Back}

/-! ## Completions that answer nothing (R174, R175) -/

theorem answered_none {x : Nat} (h : ∀ o, (s.slot u).outstanding = some o → o.exchange ≠ x) : answered s u x = none := by
  unfold answered
  rw [Option.filter_eq_none_iff]
  exact fun o ho => by simp [h o ho]

theorem completion_unmatched {x : Nat} {accepts : Outstanding → Bool} {handle : Outstanding → State → State}
    (h : ∀ o, (s.slot u).outstanding = some o → o.exchange ≠ x) : completion u x accepts handle s = .next s := by
  simp [completion, answered_none h]

theorem detachingAnswer_unmatched {x : Nat} (h : ∀ o, (s.slot k.slot).outstanding = some o → o.exchange ≠ x) :
    exec (.detachingAnswer k x) s = .next s := by
  show execDetachingAnswer k x s = _
  simp [execDetachingAnswer, answered_none h]

theorem unitCommandTimeout_none (h : (s.slot u).outstanding = none) : exec (.unitCommandTimeout u) s = .next s := by
  show execUnitCommandTimeout u s = _
  simp [execUnitCommandTimeout, h]

/-- Settles O52: every completion looks for the outstanding command of its exchange number first. -/
theorem unmatchedCompletionsAreIgnored : Obligations.UnmatchedCompletionsAreIgnored := by
  intro c u x s hc h
  refine ⟨?_, unitCommandTimeout_none⟩
  obtain ⟨_, rfl, rfl⟩ | ⟨_, rfl, rfl⟩ | ⟨_, rfl, rfl⟩ | ⟨_, rfl, rfl⟩ | ⟨k, _, _, _, rfl, rfl⟩ | ⟨k, _, _, rfl, rfl⟩ |
    ⟨k, _, _, rfl, rfl⟩ | ⟨k, _, _, rfl, rfl⟩ | ⟨k, _, rfl, rfl⟩ | ⟨_, rfl⟩ | ⟨_, rfl, rfl⟩ | ⟨k, rfl, rfl⟩ := hc
  case inr.inr.inr.inr.inr.inr.inr.inr.inr.inr.inr => exact detachingAnswer_unmatched h
  all_goals exact completion_unmatched h

/-! ## Issuing and sending (R169, R173, R175) -/

theorem issue_eq_setBus (u : UnitSlot) (cmd : UnitCmd) (i : Issuer) (s : State) :
    issue u cmd i s = s.setBus (issue u cmd i s).bus := by
  simp only [issue, sendCommand, State.setSlot]
  split <;> rfl

theorem period_setSlot (u : UnitSlot) (x : Slot) (s : State) : (s.setSlot u x).bus.period = s.bus.period := by
  cases u <;> rfl

theorem issue_period (u : UnitSlot) (cmd : UnitCmd) (i : Issuer) (s : State) :
    (issue u cmd i s).bus.period = s.bus.period := by
  simp only [issue, sendCommand]
  split <;> exact period_setSlot _ _ _

theorem setSlot_setSlot (u : UnitSlot) (x y : Slot) (s : State) : (s.setSlot u x).setSlot u y = s.setSlot u y := by
  cases u <;> rfl

theorem sendNext_idle (h : (s.slot u).outstanding.isSome = true ∨ (s.slot u).waiting = []) : sendNext u s = s := by
  unfold sendNext
  obtain h | h := h
  · obtain ⟨o, ho⟩ := Option.isSome_iff_exists.mp h
    simp [ho]
  · simp [h]

theorem sendNext_sends {d : Issued} {rest : List Issued} (ho : (s.slot u).outstanding = none)
    (hw : (s.slot u).waiting = d :: rest) : sendNext u s = s.setSlot u { s.slot u with
      exchange := ((s.slot u).exchange + 1) % 256, poll := none, waiting := rest,
      outstanding := some { cmd := d.cmd, issuer := d.issuer, exchange := ((s.slot u).exchange + 1) % 256,
                            timeout := unitTimeout s.settings u + d.cmd.extraTimeout } } := by
  simp [sendNext, ho, hw, sendCommand, setSlot_setSlot, nextExchange]

theorem extraTimeout_other (h : ∀ n, cmd ≠ .testShutter n) : cmd.extraTimeout = 0 := by
  cases cmd with
  | testShutter n => exact absurd rfl (h n)
  | _ => rfl

/-- Settles O51. -/
theorem issuingACommand : Obligations.IssuingACommand := by
  refine ⟨fun u s => ⟨sendNext_idle, fun d rest => sendNext_sends⟩,
    fun x cmd => ⟨rfl, rfl, rfl, rfl, rfl, by rintro n rfl; rfl, extraTimeout_other⟩,
    fun u cmd i s => ⟨issue_eq_setBus u cmd i s, issue_period u cmd i s, fun w hw => issue_other s u w cmd i hw,
      fun ho hw => ?_, fun h => ?_⟩⟩
  · obtain ⟨_, _, he⟩ | ⟨h, _⟩ := issue_slot s u cmd i
    · exact he
    · exact absurd h (by simp [ho, hw])
  · obtain ⟨ho, hw, _⟩ | ⟨_, he⟩ := issue_slot s u cmd i
    · exact absurd h (by simp [ho, hw])
    · exact he

/-! ## DIRECT frames: what each spells (R173, R177, R204) -/

/-- The frame is judged as the command it spells, if it spells one, under its name. -/
def JudgedAs (c : Instr) (tag unit : Byte) (name : CmdName) (spelt : Option UnitCmd) : Prop :=
  (∀ s, exec c s = directFrame c tag unit name.code spelt s) ∧ ∀ cmd, spelt = some cmd → cmd.name = name

theorem judgedAs_name {name : CmdName} {α : Type} {f : Fields α} {read : α → Option UnitCmd}
    (hc : ∀ s, exec c s = directFrame c tag unit name.code (spelled f read) s)
    (hread : ∀ x cmd, read x = some cmd → cmd.name = name) : JudgedAs c tag unit name (spelled f read) := by
  refine ⟨hc, fun cmd h => ?_⟩
  cases f with
  | given x => exact hread x cmd h
  | mismatched => simp [spelled] at h

theorem loadOf_eq_some {p : Nat} : loadOf p = some cmd ↔ (1 ≤ p ∧ p ≤ 120) ∧ cmd = .load p := by
  simp only [loadOf, inRange, Option.ite_none_right_eq_some, Bool.and_eq_true, decide_eq_true_eq, Option.some.injEq,
    @eq_comm _ _ cmd]

theorem spotOf_eq_some {z : Nat} : spotOf z = some cmd ↔ (1 ≤ z ∧ z ≤ 9) ∧ cmd = .spot z := by
  simp only [spotOf, inRange, Option.ite_none_right_eq_some, Bool.and_eq_true, decide_eq_true_eq, Option.some.injEq,
    @eq_comm _ _ cmd]

theorem advanceOf_eq_some {f : AdvanceFields} :
    advanceOf f = some cmd ↔ (f.form ≤ 1 ∧ 1 ≤ f.count ∧ f.count ≤ 72) ∧ cmd = .advance .leader f.count := by
  simp only [advanceOf, inRange, Option.ite_none_right_eq_some, Bool.and_eq_true, decide_eq_true_eq, Option.some.injEq,
    @eq_comm _ _ cmd]

theorem testShutterOf_eq_some {n : Nat} :
    testShutterOf n = some cmd ↔ (10 ≤ n ∧ n ≤ 250000) ∧ cmd = .testShutter n := by
  simp only [testShutterOf, inRange, Option.ite_none_right_eq_some, Bool.and_eq_true, decide_eq_true_eq, Option.some.injEq,
    @eq_comm _ _ cmd]

theorem labelKindOf_isSome {n : Nat} : (labelKindOf n).isSome = true ↔ 1 ≤ n ∧ n ≤ 3 := by
  unfold labelKindOf
  split <;> simp_all
  omega

/-- The layout of a PRINT (R204, assumption 33). -/
def PrintGood (f : PrintFields) : Prop :=
  1 ≤ f.kind ∧ f.kind ≤ 3 ∧ f.flags ≤ 3 ∧ 1 ≤ f.lines.length ∧ f.lines.length ≤ 3 ∧
    ∀ l ∈ f.lines, l.length ≤ 24 ∧ ∀ ch ∈ l, 32 ≤ ch ∧ ch ≤ 126

theorem printOf_isSome {f : PrintFields} : (printOf f).isSome = true ↔ PrintGood f := by
  have hkind := labelKindOf_isSome (n := f.kind)
  have hlines : f.lines.all (fun l => decide (l.length ≤ 24) && l.all printable) = true ↔
      ∀ l ∈ f.lines, l.length ≤ 24 ∧ ∀ ch ∈ l, 32 ≤ ch ∧ ch ≤ 126 := by
    simp only [List.all_eq_true, Bool.and_eq_true, decide_eq_true_eq, printable_iff]
  unfold printOf PrintGood
  split
  · next h =>
    simp only [Bool.and_eq_true, decide_eq_true_eq, inRange, hlines] at h
    rw [Option.isSome_map, hkind]
    tauto
  · next h =>
    simp only [Bool.and_eq_true, decide_eq_true_eq, inRange, hlines] at h
    simp only [Option.isSome_none, Bool.false_eq_true, false_iff]
    tauto

theorem printOf_name {f : PrintFields} (h : printOf f = some cmd) : cmd.name = .print := by
  unfold printOf at h
  split at h
  · obtain ⟨kind, _, rfl⟩ := Option.map_eq_some_iff.mp h
    rfl
  · cases h

theorem isSome_of_eq_some {α : Type} {o : Option α} {P : Prop} {a : α} (h : ∀ x, o = some x ↔ P ∧ x = a) :
    o.isSome = true ↔ P := by
  rw [Option.isSome_iff_exists]
  exact ⟨fun ⟨x, hx⟩ => ((h x).mp hx).1, fun hp => ⟨a, (h a).mpr ⟨hp, rfl⟩⟩⟩

theorem spelled_isSome {α : Type} {f : Fields α} {read : α → Option UnitCmd} {P : α → Prop}
    (h : ∀ x, (read x).isSome = true ↔ P x) : (spelled f read).isSome = true ↔ ∃ x, f = .given x ∧ P x := by
  cases f <;> simp [spelled, h]

theorem spelled_unit {f : Fields Unit} : (spelled f fun _ => some cmd).isSome = true ↔ f = .given () := by
  cases f <;> simp [spelled]

/-! ## The judging of a DIRECT frame (R177, R178) -/

section
variable {code : Nat}

theorem judgeDirect_busy {spelt : Option UnitCmd} (h : t.gate.engine = .resetting) :
    judgeDirect tag unit code spelt t = answerDirect tag code (.refused .busy) .none t := by simp [judgeDirect, h]

theorem judgeDirect_badField {spelt : Option UnitCmd} (hr : t.gate.engine ≠ .resetting)
    (h : ∀ u cmd, slotOf unit = some u → spelt = some cmd → u.expects ≠ cmd.name.unit) :
    judgeDirect tag unit code spelt t = answerDirect tag code (.refused .badField) .none t := by
  unfold judgeDirect
  rw [if_neg hr]
  cases hu : slotOf unit with
  | none => rfl
  | some u => cases spelt with
    | none => rfl
    | some cmd => exact if_neg (h u cmd hu rfl)

theorem judgeDirect_judged (hr : t.gate.engine ≠ .resetting) (hu : slotOf unit = some u)
    (he : u.expects = cmd.name.unit) : judgeDirect tag unit code (some cmd) t = judgeSlot tag u cmd t := by
  simp [judgeDirect, hr, hu, he]

theorem judgeSlot_absent (h : t.present u = false) :
    judgeSlot tag u cmd t = answerDirect tag cmd.name.code .absent .none t := by simp [judgeSlot, h]

theorem judgeSlot_trapped {r : Reason} (h : t.present u = true)
    (hr : trapReason t u cmd = some r ∨ trapReason t u cmd = none ∧ (t.slot u).hasDirect = true ∧ r = .busy) :
    judgeSlot tag u cmd t = trap tag u cmd r t := by
  obtain hr | ⟨hr, hd, rfl⟩ := hr
  · simp [judgeSlot, h, hr]
  · simp [judgeSlot, h, hr, hd]

theorem judgeSlot_forwarded (h : t.present u = true) (hr : trapReason t u cmd = none)
    (hd : (t.slot u).hasDirect = false) : judgeSlot tag u cmd t = forward tag u cmd t := by
  simp [judgeSlot, h, hr, hd]

theorem Back.slot_back (k : Back) : k.slot.back = some k := by cases k <;> rfl

theorem UnitSlot.back_eq_some : u.back = some k ↔ u = k.slot := by cases u <;> cases k <;> simp [UnitSlot.back, Back.slot]

theorem beginSequence_eq_setRolls (u : UnitSlot) (cmd : UnitCmd) (s : State) :
    beginSequence u cmd s = s.setRolls (beginSequence u cmd s).rolls := by
  unfold beginSequence
  split <;> rfl

/-- A leader advance puts the roll of its back IN-SEQUENCE (R182). -/
theorem beginSequence_roll (u : UnitSlot) (cmd : UnitCmd) (s : State) (k : Back) : (beginSequence u cmd s).roll k =
    if u = k.slot ∧ cmd.name = .advance then { s.roll k with passThrough := .inSequence } else s.roll k := by
  cases cmd with
  | advance form n =>
    cases hu : u.back with
    | none =>
      have hk : ¬u = k.slot := fun h => by simp [UnitSlot.back_eq_some.mpr h] at hu
      simp [beginSequence, hu, hk]
    | some j =>
      obtain rfl := UnitSlot.back_eq_some.mp hu
      by_cases hk : k = j
      · subst hk
        simp [beginSequence, hu, UnitCmd.name]
      · have hslot : ¬j.slot = k.slot := fun h => hk (Option.some.inj (by rw [← Back.slot_back, ← h, Back.slot_back]))
        simp [beginSequence, hu, hk, hslot]
  | _ => cases u.back <;> simp [beginSequence, UnitCmd.name]

end

/-- Settles O48. -/
theorem directFramesAreForwardedOrTrapped : Obligations.DirectFramesAreForwardedOrTrapped := by
  intro tag unit u cmd c s t hc ht hr hu he
  have hjudged : ∀ s, exec c s = directFrame c tag unit cmd.name.code (some cmd) s := by
    obtain ⟨p, h1, h2, rfl, rfl⟩ | ⟨rfl, rfl⟩ | ⟨rfl, rfl⟩ | ⟨z, h1, h2, rfl, rfl⟩ | ⟨f, h1, h2, h3, rfl, rfl⟩ |
      ⟨rfl, rfl⟩ | ⟨x, h1, h2, rfl, rfl⟩ | ⟨f, rfl, hf⟩ := hc
    · exact fun s => congrArg (directFrame _ _ _ _ · s) (loadOf_eq_some.mpr ⟨⟨h1, h2⟩, rfl⟩)
    · exact fun s => rfl
    · exact fun s => rfl
    · exact fun s => congrArg (directFrame _ _ _ _ · s) (spotOf_eq_some.mpr ⟨⟨h1, h2⟩, rfl⟩)
    · exact fun s => congrArg (directFrame _ _ _ _ · s) (advanceOf_eq_some.mpr ⟨⟨h1, h2, h3⟩, rfl⟩)
    · exact fun s => rfl
    · exact fun s => congrArg (directFrame _ _ _ _ · s) (testShutterOf_eq_some.mpr ⟨⟨h1, h2⟩, rfl⟩)
    · rw [printOf_name hf]
      exact fun s => congrArg (directFrame _ _ _ _ · s) hf
  have hexec {v : State} (h : judgeSlot tag u cmd t = v) : exec c s = .next v := by
    rw [hjudged, directFrame, takeFrame_taken ht, judgeDirect_judged hr hu he, h]
  refine ⟨fun h => hexec (judgeSlot_absent h), fun r h htrap => hexec (judgeSlot_trapped h htrap),
    fun h htrap hd => ⟨beginSequence u cmd (reserve t), hexec (judgeSlot_forwarded h htrap hd), ?_, ?_, fun k =>
      beginSequence_roll u cmd (reserve t) k⟩⟩
  · rw [beginSequence_eq_setRolls]
    rfl
  · rw [beginSequence_eq_setRolls]
    rfl

/-! ## The trap conditions (R178, R182) -/

section
variable {n : Nat}

theorem trapReason_feeder : trapReason s .feeder cmd = none ↔ s.gate.engine = .stopped ∧ s.gate.visit = none := by
  simp only [trapReason]
  split <;> simp_all

theorem trapReason_meter : trapReason s .meter cmd = none ↔
    ∀ v, s.gate.visit = some v → v.held = true ∧ v.metering = false := by
  cases hv : s.gate.visit <;> simp [trapReason, hv]

theorem trapReason_printer : trapReason s .printer cmd = none ↔ s.labels.queue = [] ∧ s.printOutstanding = false := by
  simp [trapReason]

theorem trapReason_busy (hu : u = .feeder ∨ u = .meter ∨ u = .printer) (h : trapReason s u cmd ≠ none) :
    trapReason s u cmd = some .busy := by
  obtain rfl | rfl | rfl := hu <;> simp only [trapReason] at h ⊢ <;> split at h <;> simp_all

theorem trapReason_back (k : Back) : trapReason s k.slot cmd = trapReason.backReason s cmd k := by cases k <;> rfl

theorem passThroughAllowed_iff : passThroughAllowed s k n = true ↔
    (∃ f, (s.roll k).film = some f ∧ f.leaderMode = .manual) ∧ s.settings.passThrough = true ∧
      (s.roll k).state = .leader ∧ n ≤ (s.roll k).leaderRemaining := by
  simp [passThroughAllowed, Option.map_eq_some_iff, and_assoc]

theorem trapReason_advance : trapReason s k.slot (.advance .leader n) =
    if passThroughAllowed s k n then none else some .film := by rw [trapReason_back]; rfl

end

/-- Settles O49. -/
theorem directFramesRefusedOrTrapped : Obligations.DirectFramesRefusedOrTrapped := by
  refine ⟨fun tag unit c name inLayout s t hc ht => ?frames, fun tag unit kind s t ht => ?unknown,
    fun s cmd k n x => ⟨trapReason_feeder, trapReason_meter, trapReason_printer, fun u => trapReason_busy,
      by rw [trapReason_back]; rfl, by rw [trapReason_back]; rfl, ?allowed, ?film⟩⟩
  case frames =>
    have hjudged : ∃ spelt, JudgedAs c tag unit name spelt ∧ (spelt.isSome = true ↔ inLayout) := by
      obtain ⟨f, rfl, rfl, hl⟩ | ⟨f, rfl, rfl, hl⟩ | ⟨f, rfl, rfl, hl⟩ | ⟨f, rfl, rfl, hl⟩ | ⟨f, rfl, rfl, hl⟩ |
        ⟨f, rfl, rfl, hl⟩ | ⟨f, rfl, rfl, hl⟩ | ⟨f, rfl, rfl, hl⟩ := hc
      · refine ⟨_, judgedAs_name (read := loadOf) (fun _ => rfl) fun x cmd h => ?_, ?_⟩
        · rw [(loadOf_eq_some.mp h).2]; rfl
        · exact (spelled_isSome fun x => isSome_of_eq_some fun _ => loadOf_eq_some).trans hl.symm
      · exact ⟨_, judgedAs_name (read := fun _ => some .ret) (fun _ => rfl) (by rintro _ _ ⟨⟩; rfl), spelled_unit.trans hl.symm⟩
      · exact ⟨_, judgedAs_name (read := fun _ => some .scan) (fun _ => rfl) (by rintro _ _ ⟨⟩; rfl), spelled_unit.trans hl.symm⟩
      · refine ⟨_, judgedAs_name (read := spotOf) (fun _ => rfl) fun x cmd h => ?_, ?_⟩
        · rw [(spotOf_eq_some.mp h).2]; rfl
        · exact (spelled_isSome fun x => isSome_of_eq_some fun _ => spotOf_eq_some).trans hl.symm
      · refine ⟨_, judgedAs_name (read := advanceOf) (fun _ => rfl) fun x cmd h => ?_, ?_⟩
        · rw [(advanceOf_eq_some.mp h).2]; rfl
        · exact (spelled_isSome fun x => isSome_of_eq_some fun _ => advanceOf_eq_some).trans hl.symm
      · exact ⟨_, judgedAs_name (read := fun _ => some .readCount) (fun _ => rfl) (by rintro _ _ ⟨⟩; rfl),
          spelled_unit.trans hl.symm⟩
      · refine ⟨_, judgedAs_name (read := testShutterOf) (fun _ => rfl) fun x cmd h => ?_, ?_⟩
        · rw [(testShutterOf_eq_some.mp h).2]; rfl
        · exact (spelled_isSome fun x => isSome_of_eq_some fun _ => testShutterOf_eq_some).trans hl.symm
      · refine ⟨_, judgedAs_name (read := printOf) (fun _ => rfl) fun x cmd h => printOf_name h, ?_⟩
        exact (spelled_isSome fun x => printOf_isSome).trans hl.symm
    obtain ⟨spelt, ⟨hexec, hname⟩, hlayout⟩ := hjudged
    refine ⟨fun h => ?_, fun hr h => ?_⟩
    · rw [hexec, directFrame, takeFrame_taken ht, judgeDirect_busy h]
      rfl
    · rw [hexec, directFrame, takeFrame_taken ht, judgeDirect_badField hr fun u cmd hu hcmd hexp => ?_]
      · rfl
      · obtain h | ⟨w, hw, hne⟩ | h := h
        · simp [h] at hu
        · obtain rfl := Option.some.inj (hu.symm.trans hw)
          exact hne (hname cmd hcmd ▸ hexp)
        · exact h (hlayout.mp (by simp [hcmd]))
  case unknown =>
    refine congrArg _ ((takeFrame_taken ht).trans ?_)
    split
    · next h => exact judgeDirect_busy h
    · next h => exact judgeDirect_badField h fun u cmd _ hcmd => by cases hcmd
  case allowed =>
    rw [trapReason_advance, ← passThroughAllowed_iff]
    split <;> simp_all
  case film =>
    rw [trapReason_advance]
    split <;> simp

end Sys2Proof.Machine
end


section
/-!
SUPPORT. The leader advance and the blanking advance complete (R90, R95, R97, R98, R106): the statement O56.
-/

namespace Sys2Proof.Machine

variable {s t : State} {u : UnitSlot} {k : Back} {f : FaultRec}

/-! ## A matched completion (R174) -/

theorem completion_matched {x : Nat} {o : Outstanding} {accepts : Outstanding → Bool}
    {handle : Outstanding → State → State} (h : (s.slot u).outstanding = some o) (hx : o.exchange = x)
    (ha : accepts o = true) : completion u x accepts handle s =
      .next (settle (sendNext u (handle o (s.setSlot u { s.slot u with outstanding := none })))) := by
  have hanswered : answered s u x = some o := by simp [answered, h, hx]
  simp only [completion, hanswered, Option.filter_some, ha]
  rfl

theorem isFor_iff {name : CmdName} {i : Issuer} {o : Outstanding} :
    isFor name i o = true ↔ o.cmd.name = name ∧ o.issuer = i := by simp [isFor]

theorem fitsCount_iff {c : Nat} : fitsCount c = true ↔ 1 ≤ c ∧ c ≤ 255 := by simp [fitsCount]

/-! ## A class A fault, seen in the fault records (R157, R158) -/

theorem raiseFault_current (hr : s.gate.engine ≠ .resetting) (hf : s.gate.engine ≠ .faulted) :
    (raiseFault f s).events.current = some f := by
  rw [raiseFault_eq_hold hr hf]
  simp [faulted]

theorem raiseFault_pending (h : s.gate.engine = .faulted) :
    (raiseFault f s).events.pendingFault = some (s.events.pendingFault.getD f) := by
  rw [raiseFault_faulted h]
  simp

/-! ## Rolls -/

theorem updRoll_updRoll (f g : Roll → Roll) : updRoll k f (updRoll k g s) = updRoll k (fun r => f (g r)) s := by
  cases k <;> rfl

theorem roll_congr_setSlot (u : UnitSlot) (x : Slot) (k : Back) : (s.setSlot u x).roll k = s.roll k :=
  roll_congr (by simp) k

theorem roll_enterSuspect (k : Back) (s : State) :
    (enterSuspect k s).roll k = { s.roll k with state := .suspect, passThrough := .idle } := by
  unfold enterSuspect
  split <;> simp

theorem roll_enterSuspect_other (k : Back) (s : State) : (enterSuspect k s).roll k.other = s.roll k.other := by
  unfold enterSuspect
  split <;> simp

theorem engine_enterSuspect (k : Back) (s : State) : (enterSuspect k s).gate.engine = s.gate.engine := by
  unfold enterSuspect
  split <;> simp [dropList]

theorem engine_enterClosing (k : Back) (c : CloseCause) (s : State) :
    (enterClosing k c s).gate.engine = s.gate.engine := by simp [enterClosing, clearOwed, dropList]

theorem finishClose_resetting (h : s.gate.engine = .resetting) :
    finishClose k s = updRoll k (fun r => { r with state := .closed }) s := by simp [finishClose, h]

theorem finishClose_composes {c : CloseCause} (h : s.gate.engine ≠ .resetting) (hc : (s.roll k).closeCause = some c) :
    finishClose k s = composeReport k c s := by simp [finishClose, h, hc]

theorem roll_finishClose_other (k : Back) (s : State) : (finishClose k s).roll k.other = s.roll k.other := by
  unfold finishClose
  split
  · simp
  · exact roll_composeReport_other _

theorem roll_raiseFault (f : FaultRec) (k : Back) (s : State) : (raiseFault f s).roll k = s.roll k :=
  roll_congr (by simp) k

/-! ## The leader advance (R90, R98) -/

/-- The roll with its leader wound and the count recorded. -/
def leaderWound (k : Back) (count : Nat) (s : State) : State :=
  updRoll k (fun r => { r with leaderRemaining := 0, lastCount := some count }) s

theorem leaderDone_eq (r : AdvanceResult) (count : Nat) : leaderDone k r count s =
    if r = .filmEnd then closeRollFor k .filmEnd (leaderWound k count s)
    else if count = 1 then updRoll k (fun x => { x with state := .ready }) (leaderWound k count s)
    else leaderMismatch k (leaderWound k count s) := by
  have hwound : recordCount k count (updRoll k (fun x => { x with leaderRemaining := 0 }) s) = leaderWound k count s :=
    updRoll_updRoll _ _
  simp only [leaderDone, hwound]

theorem roll_leaderWound (k : Back) (count : Nat) (s : State) :
    (leaderWound k count s).roll k = { s.roll k with leaderRemaining := 0, lastCount := some count } := by
  simp [leaderWound]

theorem roll_leaderDone_other (r : AdvanceResult) (count : Nat) :
    (leaderDone k r count s).roll k.other = s.roll k.other := by
  have hwound : (leaderWound k count s).roll k.other = s.roll k.other := by simp [leaderWound]
  rw [leaderDone_eq]
  split
  · rw [closeRollFor, roll_finishClose_other, roll_enterClosing_other, hwound]
  · split
    · rw [roll_updRoll_other, hwound]
    · rw [leaderMismatch, roll_raiseFault, roll_enterSuspect_other, hwound]

theorem closeRollFor_resetting {c : CloseCause} (h : s.gate.engine = .resetting) :
    closeRollFor k c s = updRoll k (fun r => { r with state := .closed }) (enterClosing k c s) :=
  finishClose_resetting ((engine_enterClosing k c s).trans h)

/-- The count mismatch of a leader names its back, and no order or position (R98). -/
theorem leaderMismatch_fault (k : Back) (s : State) : ∃ g, leaderMismatch k s = raiseFault g (enterSuspect k s) ∧
    g.kind = .countMismatch ∧ g.unit = faultUnit k.slot ∧ g.back = some k ∧ g.order = none ∧ g.position = none :=
  ⟨_, rfl, rfl, rfl, rfl, rfl, rfl⟩

/-- Settles O56. -/
theorem leaderAndBlankingCompletions : Obligations.LeaderAndBlankingCompletions := by
  intro k x count r o s ho hx hname h1 h2 t
  have hroll : ∀ j, t.roll j = s.roll j := roll_congr_setSlot _ _
  have haccepts {i : Issuer} (hi : o.issuer = i) : (isFor .advance i o && fitsCount count) = true := by
    rw [Bool.and_eq_true, isFor_iff, fitsCount_iff]
    exact ⟨⟨hname, hi⟩, h1, h2⟩
  refine ⟨fun hi => ⟨completion_matched ho hx (haccepts hi), ?_, ?_, ?_, ?_⟩, fun hi => ?_,
    fun y film cause hfilm => ?_⟩
  · rintro rfl rfl
    rw [leaderDone_eq, if_neg (by simp), if_pos rfl, leaderWound, updRoll_updRoll, updRoll, hroll]
  · rw [roll_leaderDone_other, hroll]
  · rintro rfl
    intro closed
    have hdone : leaderDone k .filmEnd count t = closeRollFor k .filmEnd (leaderWound k count t) := by
      rw [leaderDone_eq, if_pos rfl]
    have hclosing : (enterClosing k .filmEnd (leaderWound k count t)).roll k = closed := by
      rw [roll_enterClosing, roll_leaderWound, hroll]
    rw [hdone]
    refine ⟨fun hr => ?_, fun hr => ?_⟩
    · rw [closeRollFor_eq (by exact hr)]
      refine ⟨hasFlag_composeReport _, ?_⟩
      rw [roll_composeReport, hclosing]
      congr 3
    · rw [closeRollFor_resetting (by exact hr)]
      refine ⟨by simp [leaderWound, t], ?_⟩
      rw [updRoll_same, hclosing]
  · rintro rfl hc
    have hdone : leaderDone k .ok count t = leaderMismatch k (leaderWound k count t) := by
      rw [leaderDone_eq, if_neg (by simp), if_neg hc]
    obtain ⟨g, hg, hkind, hunit, hback, horder, hposition⟩ := leaderMismatch_fault k (leaderWound k count t)
    have hengine : (enterSuspect k (leaderWound k count t)).gate.engine = s.gate.engine := engine_enterSuspect _ _
    rw [hdone, hg]
    refine ⟨?_, fun hf hr => ⟨g, raiseFault_current (hengine ▸ hr) (hengine ▸ hf), hkind, hunit, hback, horder, hposition⟩,
      fun hf hp => ⟨g, ?_, hkind, hback⟩⟩
    · rw [roll_raiseFault, roll_enterSuspect, roll_leaderWound, hroll]
    · rw [raiseFault_pending (hengine.trans hf)]
      have hnone : (enterSuspect k (leaderWound k count t)).events.pendingFault = none := by simp [leaderWound, t, hp]
      rw [hnone, Option.getD_none]
  · intro counted v
    have hcounted : (t.setRoll k counted).roll k = counted := by simp [State.roll, State.setRoll]
    have hlink : (t.setRoll k counted).link = s.link := by simp [t]
    refine ⟨completion_matched ho hx (haccepts hi), ?_, fun cause hr hcause => ?_, fun hr => ?_⟩
    · rw [roll_finishClose_other, ← hroll]
      simp [State.roll, State.setRoll, Back.other_ne]
    · have hv : v = composeReport k cause (t.setRoll k counted) :=
        finishClose_composes hr (by rw [hcounted]; exact hcause)
      rw [hv]
      refine ⟨hasFlag_composeReport _, ?_⟩
      rw [roll_composeReport, hcounted, hlink]
    · have hv : v = updRoll k (fun r => { r with state := .closed }) (t.setRoll k counted) := finishClose_resetting hr
      rw [hv]
      exact ⟨by simp [t], by rw [updRoll_same, hcounted]⟩
  · simp [Roll.rollReport, Roll.id, Roll.stock?, Roll.frames, Roll.count, hfilm]

end Sys2Proof.Machine
end


section
/-!
SUPPORT. The exposure arithmetic (R48, R54, R56 to R62): the statement O60.
-/

namespace Sys2Proof.Machine

/-! ## Times (R58 to R62) -/

/-- The time of an index, by its stops and tenths (R58 to R60). -/
theorem unclampedTime_of_stops (tref : Nat) {x q : Int} {f : Nat} (hf : f < 10) (hx : x = 10 * q + f) :
    unclampedTime tref x =
      if 7 < q then none
      else if 0 ≤ q then some (baseTime tref f * 2 ^ q.toNat)
      else if -16 ≤ q then some ((baseTime tref f + 2 ^ ((-q).toNat - 1)) / 2 ^ (-q).toNat)
      else some 0 := by
  have hq : x / 10 = q := by omega
  have hf' : (x - 10 * q).toNat = f := by omega
  simp only [unclampedTime, hq, hf']

theorem clampTime_none {floor ceiling : Nat} : clampTime floor ceiling none = (ceiling, .long) := rfl

theorem clampTime_eq (floor ceiling n : Nat) : clampTime floor ceiling (some n) =
    if n < floor then (floor, .short) else if ceiling < n then (ceiling, .long) else (n, .none) := rfl

theorem clampTime_some {floor ceiling n : Nat} (h : floor ≤ ceiling) :
    (n < floor → clampTime floor ceiling (some n) = (floor, .short)) ∧
    (ceiling < n → clampTime floor ceiling (some n) = (ceiling, .long)) ∧
    (floor ≤ n → n ≤ ceiling → clampTime floor ceiling (some n) = (n, .none)) := by
  rw [clampTime_eq]
  refine ⟨fun h1 => if_pos h1, fun h1 => ?_, fun h1 h2 => ?_⟩
  · rw [if_neg (by omega), if_pos h1]
  · rw [if_neg (by omega), if_neg (by omega)]

theorem clampTime_between {floor ceiling : Nat} {x : Option Nat} (h : floor ≤ ceiling) :
    floor ≤ (clampTime floor ceiling x).1 ∧ (clampTime floor ceiling x).1 ≤ ceiling := by
  cases x with
  | none => exact ⟨h, le_rfl⟩
  | some n =>
    rw [clampTime_eq]
    split
    · exact ⟨le_rfl, h⟩
    · split
      · exact ⟨h, le_rfl⟩
      · exact ⟨by omega, by omega⟩

/-- Halving with halves up, seen in whole numbers (R60). -/
theorem halved_bounds (base : Nat) {n : Nat} (h : 1 ≤ n) :
    let t := (base + 2 ^ (n - 1)) / 2 ^ n
    2 * base < 2 * t * 2 ^ n + 2 ^ n ∧ 2 * t * 2 ^ n ≤ 2 * base + 2 ^ n := by
  obtain ⟨m, rfl⟩ : ∃ m, n = m + 1 := ⟨n - 1, by omega⟩
  intro t
  have hpow : 2 ^ (m + 1) = 2 * 2 ^ m := by rw [Nat.pow_succ, Nat.mul_comm]
  have hpos : 0 < 2 ^ (m + 1) := Nat.two_pow_pos _
  have hlow : t * 2 ^ (m + 1) ≤ base + 2 ^ m := Nat.div_mul_le_self _ _
  have hhigh : base + 2 ^ m < (t + 1) * 2 ^ (m + 1) := by
    rw [Nat.mul_comm]
    exact Nat.lt_mul_div_succ _ hpos
  rw [Nat.succ_mul] at hhigh
  rw [Nat.mul_assoc]
  omega

/-! ## Densities (R48, R54) -/

/-- A mean rounded half up lies between the bounds of what it is a mean of. -/
theorem mean_between {sum w lo hi : Nat} (hw : 0 < w) (h1 : w * lo ≤ sum) (h2 : sum ≤ w * hi) :
    lo ≤ (sum + w / 2) / w ∧ (sum + w / 2) / w ≤ hi := by
  refine ⟨(Nat.le_div_iff_mul_le hw).mpr ?_, Nat.le_of_lt_succ ((Nat.div_lt_iff_lt_mul hw).mpr ?_)⟩
  · rw [Nat.mul_comm]
    omega
  · rw [Nat.succ_mul, Nat.mul_comm]
    omega

section
variable {zones : List Zone} {lo hi : Nat}

theorem sum_between {vs : List Nat} (h : ∀ v ∈ vs, lo ≤ v ∧ v ≤ hi) : vs.length * lo ≤ vs.sum ∧ vs.sum ≤ vs.length * hi :=
  ⟨List.card_nsmul_le_sum vs lo fun v hv => (h v hv).1, List.sum_le_card_nsmul vs hi fun v hv => (h v hv).2⟩

theorem averageDensity_eq (h : validValues zones ≠ []) : averageDensity zones =
    some (((validValues zones).sum + (validValues zones).length / 2) / (validValues zones).length) := by
  simp [averageDensity, h]

theorem averageDensity_between (h : validValues zones ≠ []) (hv : ∀ v ∈ validValues zones, lo ≤ v ∧ v ≤ hi) :
    ∃ d, averageDensity zones = some d ∧ lo ≤ d ∧ d ≤ hi := by
  obtain ⟨h1, h2⟩ := sum_between hv
  exact ⟨_, averageDensity_eq h, mean_between (List.length_pos_of_ne_nil h) h1 h2⟩

theorem centreDensity_none (h : centreValue zones = none) : centreDensity zones = averageDensity zones := by
  simp only [centreDensity, h]

theorem centreDensity_some {v : Nat} (h : centreValue zones = some v) : centreDensity zones =
    some ((4 * v + (validValues (zones.eraseIdx 4)).sum + (4 + (validValues (zones.eraseIdx 4)).length) / 2) /
      (4 + (validValues (zones.eraseIdx 4)).length)) := by simp only [centreDensity, h]

theorem mem_validValues_of_centre {v : Nat} (h : centreValue zones = some v) : v ∈ validValues zones := by
  obtain ⟨z, hz, hv⟩ := Option.bind_eq_some_iff.mp h
  exact List.mem_filterMap.mpr ⟨z, List.mem_of_getElem? hz, hv⟩

theorem centreDensity_between (h : validValues zones ≠ []) (hv : ∀ v ∈ validValues zones, lo ≤ v ∧ v ≤ hi) :
    ∃ d, centreDensity zones = some d ∧ lo ≤ d ∧ d ≤ hi := by
  cases hc : centreValue zones with
  | none => rw [centreDensity_none hc]; exact averageDensity_between h hv
  | some v =>
    have hothers : ∀ x ∈ validValues (zones.eraseIdx 4), lo ≤ x ∧ x ≤ hi := fun x hx =>
      hv x (((List.eraseIdx_sublist zones 4).filterMap _).subset hx)
    obtain ⟨h1, h2⟩ := sum_between hothers
    obtain ⟨h3, h4⟩ := hv v (mem_validValues_of_centre hc)
    refine ⟨_, centreDensity_some hc, mean_between (by omega) ?_ ?_⟩ <;> rw [Nat.add_mul] <;> omega

end

/-- Settles O60. -/
theorem exposureArithmetic : Obligations.ExposureArithmetic := by
  refine ⟨fun x e de offset correction hc => ?clamped, fun tref f n slope x knee hf => ?index,
    fun zones lo hi h hv => ⟨averageDensity_between h hv, centreDensity_between h hv⟩,
    fun de speed offset correction calibration => ⟨densityStops de, ?stops, ?stops', rfl⟩, fun o zones z hz => ?modes,
    fun k o step d offset film e s hfilm he hd hstep ho => ?item⟩
  case clamped =>
    intro index t
    obtain ⟨hlo, hhi⟩ := clampTime_between (x := unclampedTime x.tref index) hc
    refine ⟨hlo, hhi, fun h => ?_, fun n h => ?_⟩
    · exact (congrArg (clampTime x.floor x.ceiling) h).trans clampTime_none
    · have ht : t = clampTime x.floor x.ceiling (some n) := congrArg (clampTime x.floor x.ceiling) h
      rw [ht]
      exact clampTime_some hc
  case index =>
    intro base
    refine ⟨fun h => ?_, fun h => ?_, fun h1 h2 => ⟨(base + 2 ^ (n - 1)) / 2 ^ n, ?_, halved_bounds base h1⟩, fun h => ?_,
      fun h => if_neg (by omega), fun h => ?_⟩
    · rw [unclampedTime_of_stops tref hf rfl, if_neg (by omega), if_pos (by omega), Int.toNat_natCast]
      rfl
    · rw [unclampedTime_of_stops tref hf rfl, if_pos (by omega)]
    · rw [unclampedTime_of_stops tref (q := -n) hf (by omega), if_neg (by omega), if_neg (by omega), if_pos (by omega),
        Int.neg_neg, Int.toNat_natCast]
      rfl
    · rw [unclampedTime_of_stops tref (q := -n) hf (by omega), if_neg (by omega), if_neg (by omega), if_neg (by omega)]
    · rw [correctedIndex, if_pos h]
      generalize (x - knee) * (slope : Int) = y
      omega
  case stops => unfold densityStops; omega
  case stops' => unfold densityStops; omega
  case modes =>
    intro vs mean others w
    have hcentre : centreValue zones = z.value? := by simp [centreValue, hz]
    have hothers : validValues (zones.eraseIdx 4) = others := by
      rw [List.eraseIdx_eq_take_drop_succ]
      rfl
    refine ⟨fun hm hne => ?_, fun v hm hv => ?_, fun hm hv hne => ?_, fun v hm hv => ?_, fun d hm hd => ?_⟩
    · simp only [effectiveDensity, hm, averageDensity_eq hne, Option.getD_some]
      rfl
    · simp only [effectiveDensity, hm, centreDensity_some (hcentre.trans hv), hothers, Option.getD_some]
      rfl
    · simp only [effectiveDensity, hm, centreDensity_none (hcentre.trans hv), averageDensity_eq hne, Option.getD_some]
      rfl
    · simp only [effectiveDensity, hm, hcentre, hv, Option.getD_some]
    · simp only [effectiveDensity, hm, hd, Option.getD_some]
  case item =>
    have hstock : s.rollStock k = e := by simp [State.rollStock, Roll.stock?, hfilm, he]
    have hoffset : o.offset step = offset := by rw [Order.offset, if_neg (by omega), ho, Option.getD_some]
    rw [itemTime, hstock, hd, hoffset, Option.getD_some]

end Sys2Proof.Machine
end


section
/-!
SUPPORT. Desk frames read back as the commands they were laid out from (R184, R199 to R204): the statement O11.
-/

namespace Sys2Proof.Desk

/-! ## Numbers, integers and texts read back (R200) -/

theorem foldl_natBytes (n v acc : Nat) :
    (natBytes n v).foldl (fun n b => n * 256 + b.toNat) acc = acc * 256 ^ n + v % 256 ^ n := by
  induction n generalizing acc with
  | zero => simp [natBytes, Nat.mod_one]
  | succ n ih =>
    have hmod : v % (256 ^ n * 256) = v % 256 ^ n + 256 ^ n * (v / 256 ^ n % 256) := Nat.mod_mul
    rw [natBytes, List.foldl_cons, ih, BitVec.toNat_ofNat, Nat.pow_succ (n := 256) (m := n), hmod]
    ring

theorem natOf_natBytes {n v : Nat} (h : v < 256 ^ n) : natOf (natBytes n v) = v := by
  rw [natOf, foldl_natBytes, Nat.zero_mul, Nat.zero_add, Nat.mod_eq_of_lt h]

@[simp] theorem length_natBytes (n v : Nat) : (natBytes n v).length = n := by
  induction n with
  | zero => rfl
  | succ n ih => rw [natBytes, List.length_cons, ih]

theorem takeNat_natBytes {n v : Nat} (hn : 0 < n) (h : v < 256 ^ n) (rest : List Byte) :
    takeNat n (natBytes n v ++ rest) = .done v rest := by
  have hlen := length_natBytes n v
  have hne : (natBytes n v ++ rest).isEmpty = false := by
    rw [List.isEmpty_eq_false_iff, ne_eq, ← List.length_eq_zero_iff, List.length_append]
    omega
  rw [takeNat, hne, if_neg Bool.false_ne_true, if_neg (by rw [List.length_append]; omega), List.take_left' hlen,
    List.drop_left' hlen, natOf_natBytes h]

theorem takeNat_one {v : Nat} (h : fitsByte v = true) (rest : List Byte) :
    takeNat 1 (BitVec.ofNat 8 v :: rest) = .done v rest := by
  have hv : v < 256 ^ 1 := by simpa [fitsByte] using h
  simpa [natBytes] using takeNat_natBytes Nat.one_pos hv rest

theorem takeNat_two {v : Nat} (h : fitsTwo v = true) (rest : List Byte) : takeNat 2 (natBytes 2 v ++ rest) = .done v rest :=
  takeNat_natBytes (by decide) (by simpa [fitsTwo] using h) rest

theorem takeNat_three {v : Nat} (h : fitsThree v = true) (rest : List Byte) :
    takeNat 3 (natBytes 3 v ++ rest) = .done v rest :=
  takeNat_natBytes (by decide) (by simpa [fitsThree] using h) rest

theorem takeInt_intBytes {n : Nat} {i : Int} (hn : 0 < n) (hi : intOf n (i % (2 ^ (8 * n) : Nat)).toNat = i)
    (rest : List Byte) : takeInt n (intBytes n i ++ rest) = .done i rest := by
  have hpow : 256 ^ n = 2 ^ (8 * n) := by rw [Nat.pow_mul]
  have hlt : (i % (2 ^ (8 * n) : Nat)).toNat < 256 ^ n := by
    have hpos : (0 : Int) < (2 ^ (8 * n) : Nat) := by exact_mod_cast Nat.two_pow_pos _
    have := Int.emod_lt_of_pos i hpos
    have := Int.emod_nonneg i hpos.ne'
    omega
  rw [takeInt, intBytes, takeNat_natBytes hn hlt]
  simp only [hi]

theorem takeInt_one {i : Int} (h : fitsSignedByte i = true) (rest : List Byte) :
    takeInt 1 (intBytes 1 i ++ rest) = .done i rest := by
  refine takeInt_intBytes Nat.one_pos ?_ rest
  simp only [fitsSignedByte, Bool.and_eq_true, decide_eq_true_eq] at h
  simp only [intOf]
  split <;> omega

theorem takeInt_four {i : Int} (h : fitsSignedFour i = true) (rest : List Byte) :
    takeInt 4 (intBytes 4 i ++ rest) = .done i rest := by
  refine takeInt_intBytes (by decide) ?_ rest
  simp only [fitsSignedFour, Bool.and_eq_true, decide_eq_true_eq] at h
  simp only [intOf]
  split <;> omega

theorem map_toNat_charBytes {t : Text} (h : t.all fitsByte = true) : (charBytes t).map BitVec.toNat = t := by
  rw [charBytes, List.map_map]
  refine (List.map_congr_left fun c hc => ?_).trans (List.map_id t)
  have hc : c < 256 := by simpa [fitsByte] using List.all_eq_true.mp h c hc
  simp [Nat.mod_eq_of_lt hc]

@[simp] theorem length_charBytes (t : Text) : (charBytes t).length = t.length := List.length_map _

theorem takeText_textWithLength {t : Text} (h : fitsText t = true) (rest : List Byte) :
    takeText (textWithLength t ++ rest) = .done t rest := by
  obtain ⟨hlen, hchars⟩ : t.length < 256 ∧ t.all fitsByte = true := by simpa [fitsText] using h
  have hn : (BitVec.ofNat 8 t.length).toNat = (charBytes t).length := by simp [Nat.mod_eq_of_lt hlen]
  rw [textWithLength, List.cons_append, takeText, hn, if_neg (by simp), List.take_left' rfl, List.drop_left' rfl,
    map_toNat_charBytes hchars]

theorem takeMany_flatMap {α : Type} {one : List Byte → Parsed α} {bytes : α → List Byte} {l : List α}
    (h : ∀ x ∈ l, ∀ rest, one (bytes x ++ rest) = .done x rest) (rest : List Byte) :
    takeMany one l.length (l.flatMap bytes ++ rest) = .done l rest := by
  induction l with
  | nil => rfl
  | cons x l ih =>
    have hrest := ih fun y hy => h y (.tail x hy)
    rw [List.length_cons, List.flatMap_cons, List.append_assoc, takeMany, h x (.head l)]
    simp only [hrest]

/-! ## Fields read back from their layouts (R199 to R204) -/

/-- What is laid out reads back, in no more bytes than a frame has room for beside two of its head; the mismatch stands
for a frame of a wrong layout. -/
structure ReadsBack {α : Type} (parse : List Byte → Option (Fields α)) (bytes : α → List Byte) (mismatch : List Byte)
    (holds : α → Bool) : Prop where
  given : ∀ a, holds a = true → parse (bytes a) = some (.given a)
  short : ∀ a, holds a = true → (bytes a).length ≤ 248
  mismatched : parse mismatch = some .mismatched
  shortMismatch : mismatch.length ≤ 248

theorem atEnd_nil {α : Type} (a : α) : atEnd a [] = some (.given a) := rfl

theorem unit_readsBack : ReadsBack noFields (fun _ => []) [0#8] (fun _ => true) where
  given _ _ := rfl
  short _ _ := by simp
  mismatched := rfl
  shortMismatch := by simp

theorem oneNat_readsBack {n : Nat} {fits : Nat → Bool} (hn : 0 < n ∧ n ≤ 248) (h : ∀ v, fits v = true → v < 256 ^ n) :
    ReadsBack (oneNat n) (natBytes n) [] fits where
  given v hv := by
    have htake := takeNat_natBytes hn.1 (h v hv) []
    rw [List.append_nil] at htake
    rw [oneNat, htake]
    rfl
  short v _ := by rw [length_natBytes]; exact hn.2
  mismatched := rfl
  shortMismatch := by simp

theorem oneByte_readsBack : ReadsBack (oneNat 1) (natBytes 1) [] fitsByte :=
  oneNat_readsBack (by decide) fun v hv => by simpa [fitsByte] using hv

theorem twoBytes_readsBack : ReadsBack (oneNat 2) (natBytes 2) [] fitsTwo :=
  oneNat_readsBack (by decide) fun v hv => by simpa [fitsTwo] using hv

theorem threeBytes_readsBack : ReadsBack (oneNat 3) (natBytes 3) [] fitsThree :=
  oneNat_readsBack (by decide) fun v hv => by simpa [fitsThree] using hv

theorem optNat_readsBack {n : Nat} {fits : Nat → Bool} {mismatch : List Byte} (hn : 0 < n ∧ n ≤ 248)
    (h : ∀ v, fits v = true → v < 256 ^ n) (hm : optNat n mismatch = some .mismatched) (hs : mismatch.length ≤ 248) :
    ReadsBack (optNat n) (optBytes n) mismatch (fun k => k.all fits) where
  given o ho := by
    cases o with
    | none => rfl
    | some v =>
      have htake := takeNat_natBytes hn.1 (h v ho) []
      rw [List.append_nil] at htake
      have hne : (natBytes n v).isEmpty = false := by
        rw [List.isEmpty_eq_false_iff, ne_eq, ← List.length_eq_zero_iff, length_natBytes]
        omega
      rw [optBytes, Option.map_some, Option.getD_some, optNat, hne, if_neg Bool.false_ne_true, htake]
      rfl
  short o _ := by cases o <;> simp [optBytes, hn.2]
  mismatched := hm
  shortMismatch := hs

theorem optByte_readsBack : ReadsBack (optNat 1) (optBytes 1) [0#8, 0#8] (fun k => k.all fitsByte) :=
  optNat_readsBack (by decide) (fun v hv => by simpa [fitsByte] using hv) rfl (by simp)

theorem optTwo_readsBack : ReadsBack (optNat 2) (optBytes 2) [0#8, 0#8, 0#8] (fun k => k.all fitsTwo) :=
  optNat_readsBack (by decide) (fun v hv => by simpa [fitsTwo] using hv) rfl (by simp)

theorem eventSet_readsBack : ReadsBack oneEventSet (fun e : EventSet => natBytes 2 e.toNat) [] (fun _ => true) where
  given e _ := by
    have hlt : e.toNat < 4096 := e.isLt
    have htake := takeNat_natBytes (n := 2) (by decide) (show e.toNat < 256 ^ 2 by omega) []
    rw [List.append_nil] at htake
    rw [oneEventSet, htake]
    simp only [Parsed.bind, if_pos hlt, atEnd_nil, BitVec.ofNat_toNat, BitVec.setWidth_eq]
  short e _ := by simp
  mismatched := rfl
  shortMismatch := by simp

theorem accountSum_readsBack : ReadsBack accountSum accountSumBytes [] AccountSum.fits where
  given f hf := by
    obtain ⟨h2, h3⟩ : fitsTwo f.number = true ∧ fitsThree f.amount = true := by simpa [AccountSum.fits] using hf
    have htake := takeNat_three h3 []
    rw [List.append_nil] at htake
    rw [accountSum, accountSumBytes, takeNat_two h2]
    simp only [Parsed.bind, htake, atEnd_nil]
  short f _ := by simp [accountSumBytes]
  mismatched := rfl
  shortMismatch := by simp

theorem takeItem_settingItemBytes {i : SettingItem} (h : i.fits = true) (rest : List Byte) :
    takeItem (settingItemBytes i ++ rest) = .done i rest := by
  obtain ⟨h1, h4⟩ : fitsByte i.item = true ∧ fitsSignedFour i.value = true := by simpa [SettingItem.fits] using h
  have h1 : i.item < 256 := by simpa [fitsByte] using h1
  rw [settingItemBytes, List.cons_append, takeItem, takeInt_four h4]
  simp [Nat.mod_eq_of_lt h1]

theorem length_flatMap_const {α : Type} {bytes : α → List Byte} {n : Nat} (h : ∀ x, (bytes x).length = n) (l : List α) :
    (l.flatMap bytes).length = n * l.length := by
  simp [List.length_flatMap, h, Nat.mul_comm]

@[simp] theorem length_intBytes (n : Nat) (i : Int) : (intBytes n i).length = n := length_natBytes _ _

theorem settingItems_readsBack : ReadsBack Desk.settingItems
    (fun l => BitVec.ofNat 8 l.length :: l.flatMap settingItemBytes) []
    (fun l => l.all SettingItem.fits && decide (2 + 5 * l.length ≤ 250)) where
  given l hl := by
    obtain ⟨hfits, hlen⟩ : (∀ i ∈ l, i.fits = true) ∧ 2 + 5 * l.length ≤ 250 := by simpa using hl
    have hmany := takeMany_flatMap (one := takeItem) (bytes := settingItemBytes)
      (fun i hi => takeItem_settingItemBytes (hfits i hi)) []
    rw [List.append_nil] at hmany
    rw [Desk.settingItems, takeNat_one (by simp [fitsByte]; omega)]
    simp only [Parsed.bind, hmany, atEnd_nil]
  short l hl := by
    have hlen : 2 + 5 * l.length ≤ 250 := by
      rw [Bool.and_eq_true, decide_eq_true_eq] at hl
      exact hl.2
    rw [List.length_cons, length_flatMap_const (n := 5) (by simp [settingItemBytes])]
    omega
  mismatched := rfl
  shortMismatch := by simp

theorem loadRoll_readsBack : ReadsBack loadRollFields loadRollBytes [] LoadRollFields.fits where
  given f hf := by
    simp only [LoadRollFields.fits, Bool.and_eq_true, decide_eq_true_eq] at hf
    obtain ⟨⟨⟨hback, hstock⟩, hlen⟩, hchars⟩ := hf
    have hfixed : takeFixed 6 (charBytes f.rollId) = .done f.rollId [] := by
      have hlen' : (charBytes f.rollId).length = 6 := by rw [length_charBytes, hlen]
      have hne : (charBytes f.rollId).isEmpty = false := by
        rw [List.isEmpty_eq_false_iff, ne_eq, ← List.length_eq_zero_iff]
        omega
      rw [takeFixed, hne, if_neg Bool.false_ne_true, if_neg (by omega), List.take_of_length_le (by omega),
        List.drop_of_length_le (by omega), map_toNat_charBytes hchars]
    rw [loadRollFields, loadRollBytes, List.cons_append, takeNat_one hback]
    simp only [Parsed.bind, List.cons_append, takeNat_one hstock, List.nil_append, hfixed, atEnd_nil]
  short f hf := by
    simp only [LoadRollFields.fits, Bool.and_eq_true, decide_eq_true_eq] at hf
    simp [loadRollBytes, hf.1.2]
  mismatched := rfl
  shortMismatch := by simp

theorem rollMap_readsBack : ReadsBack rollMapFields rollMapBytes [] RollMapFields.fits where
  given f hf := by
    obtain ⟨back, range⟩ := f
    simp only [RollMapFields.fits, Bool.and_eq_true] at hf
    rw [rollMapFields, rollMapBytes, takeNat_one hf.1]
    cases range with
    | none => rfl
    | some r =>
      obtain ⟨first, count⟩ := r
      have hr : fitsByte first = true ∧ fitsByte count = true := by simpa using hf.2
      simp only [Parsed.bind, Option.map_some, Option.getD_some, List.isEmpty_cons, Bool.false_eq_true, ↓reduceIte,
        takeNat_one hr.1, takeNat_one hr.2, atEnd_nil]
  short f _ := by
    obtain ⟨back, range⟩ := f
    cases range <;> simp [rollMapBytes]
  mismatched := rfl
  shortMismatch := by simp

theorem advance_readsBack :
    ReadsBack advanceFields (fun a => natBytes 1 a.form ++ natBytes 1 a.count) [] AdvanceFields.fits where
  given f hf := by
    obtain ⟨h1, h2⟩ : fitsByte f.form = true ∧ fitsByte f.count = true := by simpa [AdvanceFields.fits] using hf
    have h1 : f.form < 256 ^ 1 := by simpa [fitsByte] using h1
    have h2 : f.count < 256 ^ 1 := by simpa [fitsByte] using h2
    have htake := takeNat_natBytes Nat.one_pos h2 []
    rw [List.append_nil] at htake
    rw [advanceFields, takeNat_natBytes Nat.one_pos h1]
    simp only [Parsed.bind, htake, atEnd_nil]
  short f _ := by simp
  mismatched := rfl
  shortMismatch := by simp

theorem length_texts (ts : List Text) : (ts.flatMap textWithLength).length = textBytes ts := by
  simp [List.length_flatMap, textBytes, textWithLength]

theorem length_le_textBytes (ts : List Text) : ts.length ≤ textBytes ts := by
  induction ts with
  | nil => simp
  | cons t ts ih =>
    simp only [textBytes, List.map_cons, List.sum_cons, List.length_cons] at ih ⊢
    omega

theorem takeTexts {ts : List Text} (h : ts.all fitsText = true) :
    takeMany takeText ts.length (ts.flatMap textWithLength) = .done ts [] := by
  have hmany := takeMany_flatMap (one := takeText) (bytes := textWithLength)
    (fun t ht => takeText_textWithLength (List.all_eq_true.mp h t ht)) []
  rwa [List.append_nil] at hmany

theorem print_readsBack : ReadsBack printFields printBytes [] PrintFields.fits where
  given f hf := by
    simp only [PrintFields.fits, Bool.and_eq_true, decide_eq_true_eq] at hf
    obtain ⟨⟨⟨hkind, hflags⟩, hlines⟩, hlen⟩ := hf
    have hcount : fitsByte f.lines.length = true := by
      have := length_le_textBytes f.lines
      simp [fitsByte]
      omega
    rw [printFields, printBytes, List.cons_append, takeNat_one hkind]
    simp only [Parsed.bind, List.cons_append, takeNat_one hflags, takeNat_one hcount, List.nil_append, takeTexts hlines,
      atEnd_nil]
  short f hf := by
    simp only [PrintFields.fits, Bool.and_eq_true, decide_eq_true_eq] at hf
    rw [printBytes, List.length_append, length_texts]
    simp only [List.length_cons, List.length_nil]
    omega
  mismatched := rfl
  shortMismatch := by simp

/-! ## Entries of the tables (R45, R66, R109, R134) -/

theorem toNat_ofNat_byte {n : Nat} (h : fitsByte n = true) : (BitVec.ofNat 8 n).toNat = n := by
  have h : n < 256 := by simpa [fitsByte] using h
  simp [Nat.mod_eq_of_lt h]

theorem stockFields_given {f : StockFields} (hf : f.fits = true) : stockFields f.code (textWithLength f.name ++
    intBytes 1 f.speed ++ natBytes 1 f.frames ++ intBytes 1 f.knee ++ natBytes 1 f.slope ++ natBytes 2 f.price) =
      some (.given f) := by
  simp only [StockFields.fits, Bool.and_eq_true, decide_eq_true_eq] at hf
  obtain ⟨⟨⟨⟨⟨⟨⟨hcode, hname⟩, hspeed⟩, hframes⟩, hknee⟩, hslope⟩, hprice⟩, hlen⟩ := hf
  have hframes : f.frames < 256 ^ 1 := by simpa [fitsByte] using hframes
  have hslope : f.slope < 256 ^ 1 := by simpa [fitsByte] using hslope
  have htake := takeNat_two hprice []
  rw [List.append_nil] at htake
  simp only [stockFields, List.append_assoc, takeText_textWithLength hname, Parsed.bind, takeInt_one hspeed,
    takeNat_natBytes Nat.one_pos hframes, takeInt_one hknee, takeNat_natBytes Nat.one_pos hslope, htake, atEnd_nil]

theorem patternFields_given {f : PatternFields} (hf : f.fits = true) : patternFields f.number
    (BitVec.ofNat 8 f.stepCount :: BitVec.ofNat 8 f.nominal :: f.offsets.flatMap (intBytes 1)) = some (.given f) := by
  simp only [PatternFields.fits, Bool.and_eq_true, decide_eq_true_eq] at hf
  obtain ⟨⟨⟨⟨hnumber, hcount⟩, hnominal⟩, hoffsets⟩, hlen⟩ := hf
  have hmany := takeMany_flatMap (one := takeInt 1) (bytes := intBytes 1)
    (fun i hi => takeInt_one (List.all_eq_true.mp hoffsets i hi)) []
  rw [List.append_nil] at hmany
  have hbytes : (f.offsets.flatMap (intBytes 1)).length = f.offsets.length := by
    rw [length_flatMap_const (n := 1) (by simp), Nat.one_mul]
  simp only [patternFields, takeNat_one hcount, Parsed.bind, takeNat_one hnominal, hbytes, hmany, atEnd_nil]

theorem templateFields_given {f : TemplateFields} (hf : f.fits = true) : templateFields f.number
    (BitVec.ofNat 8 f.steps.length ::
      (f.steps.flatMap (fun st => [BitVec.ofNat 8 st.code, BitVec.ofNat 8 st.operand]) ++
        BitVec.ofNat 8 f.literals.length :: f.literals.flatMap textWithLength)) = some (.given f) := by
  simp only [TemplateFields.fits, Bool.and_eq_true, decide_eq_true_eq] at hf
  obtain ⟨⟨⟨hnumber, hsteps⟩, hliterals⟩, hlen⟩ := hf
  have hcount : fitsByte f.steps.length = true := by
    simp [fitsByte]
    omega
  have hliteralCount : fitsByte f.literals.length = true := by
    have := length_le_textBytes f.literals
    simp [fitsByte]
    omega
  have hstep (st : RawStep) (hst : st ∈ f.steps) (rest : List Byte) :
      takeStep ([BitVec.ofNat 8 st.code, BitVec.ofNat 8 st.operand] ++ rest) = .done st rest := by
    have hfit := List.all_eq_true.mp hsteps st hst
    rw [Bool.and_eq_true] at hfit
    simp only [List.cons_append, List.nil_append, takeStep, toNat_ofNat_byte hfit.1, toNat_ofNat_byte hfit.2]
  have hmany := takeMany_flatMap hstep (BitVec.ofNat 8 f.literals.length :: f.literals.flatMap textWithLength)
  simp only [templateFields, takeNat_one hcount, Parsed.bind, hmany, takeNat_one hliteralCount, takeTexts hliterals,
    atEnd_nil]

theorem feeFields_given {f : FeeFields} (hf : f.fits = true) :
    feeFields f.fee (optBytes 2 f.value) = some (.given f) := by
  obtain ⟨fee, value⟩ := f
  cases value with
  | none => rfl
  | some v =>
    have hv : fitsTwo v = true := by simpa [FeeFields.fits] using (Bool.and_eq_true _ _ ▸ hf).2
    have htake := takeNat_two hv []
    rw [List.append_nil] at htake
    have hne : (natBytes 2 v).isEmpty = false := rfl
    simp only [feeFields, optBytes, Option.map_some, Option.getD_some, hne, Bool.false_eq_true, ↓reduceIte, htake,
      Parsed.bind, atEnd_nil]

end Sys2Proof.Desk
end


section
/-!
SUPPORT. Each desk command is read back from the frame it is laid out as (R199 to R204): the statement O11.
-/

namespace Sys2Proof.Desk

variable {tag unit : Byte}

/-- The command's frame reads back as the command, and its payload fits a frame. -/
def Restored (c : Instr) : Prop := ∀ f, encode c = some f → decode f = c ∧ f.payload.length ≤ 250

section
variable {α : Type} {f : Fields α} {mk : Fields α → Instr} {parse : List Byte → Option (Fields α)} {bytes : α → List Byte}
  {mismatch : List Byte} {holds : α → Bool}

theorem orDiscard_fieldBytes (h : ReadsBack parse bytes mismatch holds) (hf : f.check holds = true) (cls tag : Byte) :
    orDiscard cls tag (parse (fieldBytes f bytes mismatch)) mk = mk f := by
  cases f with
  | given a => rw [fieldBytes, h.given a hf, orDiscard]
  | mismatched => rw [fieldBytes, h.mismatched, orDiscard]

theorem length_fieldBytes (h : ReadsBack parse bytes mismatch holds) (hf : f.check holds = true) :
    (fieldBytes f bytes mismatch).length ≤ 248 := by
  cases f with
  | given a => exact h.short a hf
  | mismatched => exact h.shortMismatch

/-- A MANAGE command whose fields stand behind its code and at most a selector. -/
theorem manage_restored {code : Nat} (pre : List Byte) (h : ReadsBack parse bytes mismatch holds) (hf : f.check holds = true)
    (hpre : pre.length ≤ 1)
    (hdec : ∀ rest, decodeManage tag (BitVec.ofNat 8 code :: (pre ++ rest)) = orDiscard 3#8 tag (parse rest) mk)
    (henc : encode (mk f) = manage tag code (pre ++ fieldBytes f bytes mismatch)) : Restored (mk f) := by
  intro x hx
  obtain rfl := Option.some.inj (henc.symm.trans hx)
  refine ⟨(hdec _).trans (orDiscard_fieldBytes h hf 3#8 tag), ?_⟩
  have := length_fieldBytes h hf
  rw [List.length_cons, List.length_append]
  omega

theorem direct_restored {kind : Nat} (h : ReadsBack parse bytes mismatch holds) (hf : f.check holds = true)
    (hdec : ∀ rest, decodeDirect tag (unit :: BitVec.ofNat 8 kind :: rest) = orDiscard 2#8 tag (parse rest) mk)
    (henc : encode (mk f) = direct tag unit kind (fieldBytes f bytes mismatch)) : Restored (mk f) := by
  intro x hx
  obtain rfl := Option.some.inj (henc.symm.trans hx)
  refine ⟨(hdec _).trans (orDiscard_fieldBytes h hf 2#8 tag), ?_⟩
  have := length_fieldBytes h hf
  rw [List.length_cons, List.length_cons]
  omega

theorem check_true (f : Fields Unit) : f.check (fun _ => true) = true := by cases f <;> rfl

theorem checkSet_true (f : Fields EventSet) : f.check (fun _ => true) = true := by cases f <;> rfl

end

/-! ## Entries of the tables -/

/-- A frame of LOAD ENTRY with a selector byte, by what it reads as and its length. -/
theorem loadEntry_restored {c : Instr} {l : List Byte} (henc : encode c = manage tag 15 l)
    (hdec : decodeLoadEntry tag l = c) (hlen : l.length ≤ 249) : Restored c := by
  intro x hx
  obtain rfl := Option.some.inj (henc.symm.trans hx)
  refine ⟨hdec, ?_⟩
  rw [List.length_cons]
  omega

theorem stockWrite_restored {f : Fields StockFields} (hf : f.check StockFields.fits = true) :
    Restored (.loadEntryStockWrite tag f) := by
  cases f with
  | mismatched => exact loadEntry_restored rfl rfl (by simp [fieldBytes])
  | given f =>
    have hf : f.fits = true := hf
    have hfields := stockFields_given hf
    simp only [StockFields.fits, Bool.and_eq_true, decide_eq_true_eq] at hf
    obtain ⟨⟨⟨⟨⟨⟨⟨hcode, -⟩, -⟩, -⟩, -⟩, -⟩, -⟩, hlen⟩ := hf
    refine loadEntry_restored rfl ?_ ?_
    · show orDiscard 3#8 tag (stockFields (BitVec.ofNat 8 f.code).toNat _) _ = _
      rw [toNat_ofNat_byte hcode, hfields, orDiscard]
    · simp only [fieldBytes, stockBytes, textWithLength, List.length_cons, List.length_append, length_charBytes,
        length_intBytes, length_natBytes]
      omega

theorem patternWrite_restored {f : Fields PatternFields} (hf : f.check PatternFields.fits = true) :
    Restored (.loadEntryPatternWrite tag f) := by
  cases f with
  | mismatched => exact loadEntry_restored rfl rfl (by simp [fieldBytes])
  | given f =>
    have hf : f.fits = true := hf
    have hfields := patternFields_given hf
    simp only [PatternFields.fits, Bool.and_eq_true, decide_eq_true_eq] at hf
    obtain ⟨⟨⟨⟨hnumber, -⟩, -⟩, -⟩, hlen⟩ := hf
    refine loadEntry_restored rfl ?_ ?_
    · show orDiscard 3#8 tag (patternFields (BitVec.ofNat 8 f.number).toNat
        (BitVec.ofNat 8 f.stepCount :: BitVec.ofNat 8 f.nominal :: f.offsets.flatMap (intBytes 1))) _ = _
      rw [toNat_ofNat_byte hnumber, hfields, orDiscard]
    · simp only [fieldBytes, patternBytes, List.length_cons, List.length_append, List.length_nil,
        length_flatMap_const (n := 1) (length_intBytes 1)]
      omega

theorem templateWrite_restored {f : Fields TemplateFields} (hf : f.check TemplateFields.fits = true) :
    Restored (.loadEntryTemplateWrite tag f) := by
  cases f with
  | mismatched => exact loadEntry_restored rfl rfl (by simp [fieldBytes])
  | given f =>
    have hf : f.fits = true := hf
    have hfields := templateFields_given hf
    simp only [TemplateFields.fits, Bool.and_eq_true, decide_eq_true_eq] at hf
    obtain ⟨⟨⟨hnumber, -⟩, -⟩, hlen⟩ := hf
    refine loadEntry_restored rfl ?_ ?_
    · show orDiscard 3#8 tag (templateFields (BitVec.ofNat 8 f.number).toNat
        (BitVec.ofNat 8 f.steps.length ::
          (f.steps.flatMap (fun st => [BitVec.ofNat 8 st.code, BitVec.ofNat 8 st.operand]) ++
            BitVec.ofNat 8 f.literals.length :: f.literals.flatMap textWithLength))) _ = _
      rw [toNat_ofNat_byte hnumber, hfields, orDiscard]
    · simp only [fieldBytes, templateBytes, List.length_cons, List.length_append, List.length_nil, length_texts,
        length_flatMap_const (n := 2) (bytes := fun st : RawStep => [BitVec.ofNat 8 st.code, BitVec.ofNat 8 st.operand])
          (fun _ => rfl)]
      omega

theorem fee_restored {f : Fields FeeFields} (hf : f.check FeeFields.fits = true) : Restored (.loadEntryFee tag f) := by
  cases f with
  | mismatched => exact loadEntry_restored rfl rfl (by simp [fieldBytes])
  | given f =>
    have hf : f.fits = true := hf
    have hfee : fitsByte f.fee = true := by
      rw [FeeFields.fits, Bool.and_eq_true] at hf
      exact hf.1
    refine loadEntry_restored rfl ?_ ?_
    · show orDiscard 3#8 tag (feeFields (BitVec.ofNat 8 f.fee).toNat _) _ = _
      rw [toNat_ofNat_byte hfee, feeFields_given hf, orDiscard]
    · obtain ⟨fee, value⟩ := f
      cases value <;> simp [fieldBytes, feeBytes, optBytes]

/-- A frame that empties or deletes an entry names it in one byte. -/
theorem entryNumber_restored {c : Fields Nat → Instr} {sel : Byte} {f : Fields Nat} (hf : f.check fitsByte = true)
    (henc : encode (c f) = manage tag 15 (sel :: fieldBytes f (natBytes 1) []))
    (hnone : decodeLoadEntry tag [sel] = c .mismatched)
    (hone : ∀ k : Byte, decodeLoadEntry tag [sel, k] = c (.given k.toNat)) : Restored (c f) := by
  cases f with
  | mismatched => exact loadEntry_restored henc hnone (by simp [fieldBytes])
  | given n =>
    refine loadEntry_restored henc ?_ (by simp [fieldBytes])
    show decodeLoadEntry tag [sel, BitVec.ofNat 8 (n / 256 ^ 0)] = _
    rw [hone, pow_zero, Nat.div_one, toNat_ofNat_byte hf]

theorem unknownSelector_restored {reading : Bool} {sel : Option Byte} (h : sel.all (fun k => !knownSelector k) = true) :
    Restored (.loadEntryBadSelector tag reading sel) := by
  intro x hx
  obtain rfl := Option.some.inj hx
  cases sel with
  | none => cases reading <;> exact ⟨rfl, by simp⟩
  | some k =>
    have hk : k.toNat = 0 ∨ 4 < k.toNat := by simpa [knownSelector] using h
    refine ⟨?_, by simp⟩
    cases reading with
    | false =>
      show decodeLoadEntry tag [k] = _
      simp only [decodeLoadEntry]
      split <;> first | rfl | omega
    | true =>
      show decodeReadEntry tag [k] = _
      simp only [decodeReadEntry]
      split <;> first | rfl | omega

/-! ## Frames of no command -/

theorem unknownClass_restored {cls : Byte} (h : knownClass cls = false) : Restored (.unknownClass cls tag) := by
  intro x hx
  obtain rfl := Option.some.inj hx
  refine ⟨?_, by simp⟩
  have hne (n : Nat) (hn : n = 1 ∨ n = 2 ∨ n = 3) : cls.toNat ≠ n := fun he => by
    have : cls = BitVec.ofNat 8 n := BitVec.eq_of_toNat_eq (by rw [he, BitVec.toNat_ofNat]; omega)
    obtain rfl | rfl | rfl := hn <;> simp [knownClass, this] at h
  show (match cls.toNat with | 1 => _ | 2 => _ | 3 => _ | _ => _) = _
  split
  · exact absurd ‹_› (hne 1 (.inl rfl))
  · exact absurd ‹_› (hne 2 (.inr (.inl rfl)))
  · exact absurd ‹_› (hne 3 (.inr (.inr rfl)))
  · rfl

theorem lengthDiscard_restored {cls : Byte} (h : knownClass cls = true) : Restored (.payloadLengthDiscard cls tag) := by
  intro x hx
  obtain rfl := Option.some.inj hx
  refine ⟨?_, by simp⟩
  have hcls : (cls = 1#8 ∨ cls = 2#8) ∨ cls = 3#8 := by simpa [knownClass] using h
  obtain (rfl | rfl) | rfl := hcls <;> rfl

theorem unknownManage_restored {code : Byte} (h : knownManage code = false) :
    Restored (.unknownManageCommand tag code) := by
  intro x hx
  obtain rfl := Option.some.inj hx
  refine ⟨?_, by simp⟩
  have hcode : 1 ≤ code.toNat → 31 < code.toNat := by simpa [knownManage] using h
  show decodeManage tag [code] = _
  simp only [decodeManage]
  split <;> first | rfl | omega

theorem unknownDirect_restored {kind : Option Byte} (h : kind.all (fun k => !knownDirect k) = true) :
    Restored (.directUnknownCommand tag unit kind) := by
  intro x hx
  obtain rfl := Option.some.inj hx
  cases kind with
  | none => exact ⟨rfl, by simp⟩
  | some k =>
    have hk : k.toNat ∉ [0x10, 0x11, 0x20, 0x21, 0x30, 0x31, 0x32, 0x40] := by simpa [knownDirect] using h
    refine ⟨?_, by simp⟩
    show decodeDirect tag [unit, k] = _
    simp only [decodeDirect]
    split <;> first | rfl | (rename_i he; simp [he] at hk)

/-! ## ORDER frames (R201) -/

theorem orderPayload_eq (f : OrderFields) : orderPayload f =
    [BitVec.ofNat 8 (f.account / 256 ^ 1), BitVec.ofNat 8 (f.account / 256 ^ 0), BitVec.ofNat 8 f.magazine,
      BitVec.ofNat 8 f.position, BitVec.ofNat 8 f.stock, BitVec.ofNat 8 f.copies, BitVec.ofNat 8 f.pattern,
      BitVec.ofNat 8 f.mode,
      BitVec.ofNat 8 ((if f.rush then 1 else 0) + (if f.template.isSome then 2 else 0) +
        (if f.fixedDensity.isSome then 4 else 0) + 8 * f.strayFlags),
      BitVec.ofNat 8 (f.template.getD 0), BitVec.ofNat 8 (f.fixedDensity.getD 0 / 256 ^ 1),
      BitVec.ofNat 8 (f.fixedDensity.getD 0 / 256 ^ 0),
      BitVec.ofNat 8 ((f.correction % (2 ^ (8 * 1) : Nat)).toNat / 256 ^ 0), BitVec.ofNat 8 f.catalog.length,
      BitVec.ofNat 8 f.title.length, BitVec.ofNat 8 f.course.length] ++
      (charBytes f.catalog ++ (charBytes f.title ++ charBytes f.course)) := by
  simp [orderPayload, natBytes, intBytes]

/-- Two bytes of a number put together. -/
theorem two_bytes {v : Nat} (h : fitsTwo v = true) :
    (BitVec.ofNat 8 (v / 256 ^ 1)).toNat * 256 + (BitVec.ofNat 8 (v / 256 ^ 0)).toNat = v := by
  have h : v < 65536 := by simpa [fitsTwo] using h
  simp only [BitVec.toNat_ofNat]
  omega

theorem signed_byte {i : Int} (h : fitsSignedByte i = true) :
    intOf 1 (BitVec.ofNat 8 ((i % (2 ^ (8 * 1) : Nat)).toNat / 256 ^ 0)).toNat = i := by
  simp only [fitsSignedByte, Bool.and_eq_true, decide_eq_true_eq] at h
  simp only [BitVec.toNat_ofNat, intOf]
  split <;> omega

/-- The flag byte of an ORDER frame. -/
def orderFlags (f : OrderFields) : Nat := (if f.rush then 1 else 0) + (if f.template.isSome then 2 else 0) +
  (if f.fixedDensity.isSome then 4 else 0) + 8 * f.strayFlags

theorem orderFlags_read {f : OrderFields} (h : f.strayFlags < 32) : fitsByte (orderFlags f) = true ∧
    (orderFlags f % 2 == 1) = f.rush ∧ decide (orderFlags f / 2 % 2 = 1) = f.template.isSome ∧
    decide (orderFlags f / 4 % 2 = 1) = f.fixedDensity.isSome ∧ orderFlags f / 8 = f.strayFlags := by
  unfold orderFlags fitsByte
  generalize f.strayFlags = n at h
  cases f.rush <;> cases f.template.isSome <;> cases f.fixedDensity.isSome <;>
    simp only [Bool.false_eq_true, ↓reduceIte, beq_iff_eq, decide_eq_true_eq, decide_eq_false_iff_not,
      beq_eq_false_iff_ne, ne_eq] <;> omega

/-- Three texts one after another are told apart by their lengths. -/
theorem texts_apart (x y z : Text) : (x ++ (y ++ z)).take x.length = x ∧
    ((x ++ (y ++ z)).drop x.length).take y.length = y ∧ ((x ++ (y ++ z)).drop (x.length + y.length)).take z.length = z := by
  refine ⟨List.take_left' rfl, ?_, ?_⟩
  · rw [List.drop_left' rfl, List.take_left' rfl]
  · rw [← List.append_assoc, List.drop_left' (List.length_append), List.take_length]

theorem ite_isSome {α : Type} (o : Option α) (d : α) (p : Prop) [Decidable p] (h : decide p = o.isSome) :
    (if p then some (o.getD d) else none) = o := by
  cases o with
  | none =>
    have hp : ¬p := by simpa using h
    rw [if_neg hp]
  | some x =>
    have hp : p := by simpa using h
    rw [if_pos hp, Option.getD_some]

theorem orderFields_orderPayload {f : OrderFields} (hf : f.fits = true) : orderFields (orderPayload f) = some f := by
  simp only [OrderFields.fits, Bool.and_eq_true, decide_eq_true_eq] at hf
  obtain ⟨⟨⟨⟨⟨⟨⟨⟨⟨⟨⟨⟨⟨⟨haccount, hmagazine⟩, hposition⟩, hstock⟩, hcopies⟩, hpattern⟩, hmode⟩, htemplate⟩, hdensity⟩,
    hstray⟩, hcorrection⟩, hcatalog⟩, htitle⟩, hcourse⟩, -⟩ := hf
  obtain ⟨hflags, hrush, htem, hden, hst⟩ := orderFlags_read hstray
  have htext {t : Text} (h : fitsText t = true) : fitsByte t.length = true ∧ (charBytes t).map BitVec.toNat = t := by
    obtain ⟨hlen, hchars⟩ : t.length < 256 ∧ t.all fitsByte = true := by simpa [fitsText] using h
    exact ⟨by simpa [fitsByte] using hlen, map_toNat_charBytes hchars⟩
  have htemplate' : fitsByte (f.template.getD 0) = true := by
    cases ht : f.template with
    | none => rfl
    | some n => simpa [ht] using htemplate
  have hdensity' : fitsTwo (f.fixedDensity.getD 0) = true := by
    cases ht : f.fixedDensity with
    | none => rfl
    | some n => simpa [ht] using hdensity
  obtain ⟨hx, hy, hz⟩ := texts_apart f.catalog f.title f.course
  rw [orderPayload_eq, ← orderFlags]
  simp only [orderFields, List.cons_append, List.nil_append, List.getD_cons_zero, List.getD_cons_succ,
    List.length_cons, List.length_append, length_charBytes, List.drop_succ_cons, List.drop_zero, List.map_append,
    toNat_ofNat_byte (htext hcatalog).1, toNat_ofNat_byte (htext htitle).1, toNat_ofNat_byte (htext hcourse).1,
    (htext hcatalog).2, (htext htitle).2, (htext hcourse).2, hx, hy, hz]
  rw [if_neg (by omega), if_neg (by omega)]
  simp only [two_bytes haccount, two_bytes hdensity', signed_byte hcorrection, toNat_ofNat_byte hmagazine,
    toNat_ofNat_byte hposition, toNat_ofNat_byte hstock, toNat_ofNat_byte hcopies, toNat_ofNat_byte hpattern,
    toNat_ofNat_byte hmode, toNat_ofNat_byte hflags, toNat_ofNat_byte htemplate', hrush, hst, ite_isSome _ _ _ htem,
    ite_isSome _ _ _ hden]

theorem order_restored {f : OrderFields} (hf : f.fits = true) : Restored (.orderFrame tag f) := by
  intro x hx
  obtain rfl := Option.some.inj hx
  refine ⟨?_, ?_⟩
  · show (match orderFields (orderPayload f) with
      | some o => Instr.orderFrame tag o
      | none => .payloadLengthDiscard 1#8 tag) = _
    rw [orderFields_orderPayload hf]
  · simp only [OrderFields.fits, Bool.and_eq_true, decide_eq_true_eq] at hf
    have hlen := hf.2
    show (orderPayload f).length ≤ 250
    rw [orderPayload_eq]
    simp only [List.length_append, List.length_cons, List.length_nil, length_charBytes]
    omega

/-- Every well-formed desk command is restored, by the layout of its fields. -/
theorem restored_of_wellFormed {c : Instr} (h : c.wellFormed = true) : Restored c := by
  cases c
  case orderFrame tag f => exact order_restored h
  case unknownClass cls tag => exact unknownClass_restored (by simpa [Instr.wellFormed] using h)
  case payloadLengthDiscard cls tag => exact lengthDiscard_restored h
  case unknownManageCommand tag code => exact unknownManage_restored (by simpa [Instr.wellFormed] using h)
  case ackEvents tag f =>
    exact manage_restored (mk := .ackEvents tag) [] eventSet_readsBack (checkSet_true f) (by simp) (fun _ => rfl) rfl
  case setNoticeMask tag f =>
    exact manage_restored (mk := .setNoticeMask tag) [] eventSet_readsBack (checkSet_true f) (by simp) (fun _ => rfl) rfl
  case setSettings tag f =>
    exact manage_restored (mk := .setSettings tag) [] settingItems_readsBack h (by simp) (fun _ => rfl) rfl
  case loadEntryStockWrite tag f => exact stockWrite_restored h
  case loadEntryPatternWrite tag f => exact patternWrite_restored h
  case loadEntryTemplateWrite tag f => exact templateWrite_restored h
  case loadEntryStockDelete tag f => exact entryNumber_restored (c := .loadEntryStockDelete tag) h rfl rfl fun _ => rfl
  case loadEntryPatternEmpty tag f => exact entryNumber_restored (c := .loadEntryPatternEmpty tag) h rfl rfl fun _ => rfl
  case loadEntryTemplateEmpty tag f => exact entryNumber_restored (c := .loadEntryTemplateEmpty tag) h rfl rfl fun _ => rfl
  case loadEntryFee tag f => exact fee_restored h
  case loadEntryBadSelector tag reading sel => exact unknownSelector_restored h
  case readEntryStock tag f =>
    exact manage_restored (mk := .readEntryStock tag) [1#8] optByte_readsBack h (by simp) (fun _ => rfl) rfl
  case readEntryPattern tag f =>
    exact manage_restored (mk := .readEntryPattern tag) [2#8] optByte_readsBack h (by simp) (fun _ => rfl) rfl
  case readEntryTemplate tag f =>
    exact manage_restored (mk := .readEntryTemplate tag) [3#8] optByte_readsBack h (by simp) (fun _ => rfl) rfl
  case readEntryFee tag f =>
    exact manage_restored (mk := .readEntryFee tag) [4#8] optByte_readsBack h (by simp) (fun _ => rfl) rfl
  case loadRoll tag f =>
    exact manage_restored (mk := .loadRoll tag) [] loadRoll_readsBack h (by simp) (fun _ => rfl) rfl
  case closeRoll tag f =>
    exact manage_restored (mk := .closeRoll tag) [] oneByte_readsBack h (by simp) (fun _ => rfl) rfl
  case resyncRoll tag f =>
    exact manage_restored (mk := .resyncRoll tag) [] oneByte_readsBack h (by simp) (fun _ => rfl) rfl
  case readRollMap tag f =>
    exact manage_restored (mk := .readRollMap tag) [] rollMap_readsBack h (by simp) (fun _ => rfl) rfl
  case cancelOrder tag f =>
    exact manage_restored (mk := .cancelOrder tag) [] twoBytes_readsBack h (by simp) (fun _ => rfl) rfl
  case readOrder tag f =>
    exact manage_restored (mk := .readOrder tag) [] twoBytes_readsBack h (by simp) (fun _ => rfl) rfl
  case openAccount tag f =>
    exact manage_restored (mk := .openAccount tag) [] accountSum_readsBack h (by simp) (fun _ => rfl) rfl
  case readAccount tag f =>
    exact manage_restored (mk := .readAccount tag) [] optTwo_readsBack h (by simp) (fun _ => rfl) rfl
  case setCeiling tag f =>
    exact manage_restored (mk := .setCeiling tag) [] accountSum_readsBack h (by simp) (fun _ => rfl) rfl
  case suspendAccount tag f =>
    exact manage_restored (mk := .suspendAccount tag) [] twoBytes_readsBack h (by simp) (fun _ => rfl) rfl
  case reopenAccount tag f =>
    exact manage_restored (mk := .reopenAccount tag) [] twoBytes_readsBack h (by simp) (fun _ => rfl) rfl
  case credit tag f =>
    exact manage_restored (mk := .credit tag) [] accountSum_readsBack h (by simp) (fun _ => rfl) rfl
  case clearCharged tag f =>
    exact manage_restored (mk := .clearCharged tag) [] twoBytes_readsBack h (by simp) (fun _ => rfl) rfl
  case deleteAccount tag f =>
    exact manage_restored (mk := .deleteAccount tag) [] twoBytes_readsBack h (by simp) (fun _ => rfl) rfl
  case directLoad tag unit f => exact direct_restored (mk := .directLoad tag unit) oneByte_readsBack h (fun _ => rfl) rfl
  case directSpot tag unit f => exact direct_restored (mk := .directSpot tag unit) oneByte_readsBack h (fun _ => rfl) rfl
  case directAdvance tag unit f =>
    exact direct_restored (mk := .directAdvance tag unit) advance_readsBack h (fun _ => rfl) rfl
  case directTestShutter tag unit f =>
    exact direct_restored (mk := .directTestShutter tag unit) threeBytes_readsBack h (fun _ => rfl) rfl
  case directPrint tag unit f => exact direct_restored (mk := .directPrint tag unit) print_readsBack h (fun _ => rfl) rfl
  case directReturn tag unit f =>
    exact direct_restored (mk := .directReturn tag unit) unit_readsBack (check_true f) (fun _ => rfl) rfl
  case directScan tag unit f =>
    exact direct_restored (mk := .directScan tag unit) unit_readsBack (check_true f) (fun _ => rfl) rfl
  case directReadCount tag unit f =>
    exact direct_restored (mk := .directReadCount tag unit) unit_readsBack (check_true f) (fun _ => rfl) rfl
  case directUnknownCommand tag unit kind => exact unknownDirect_restored h
  case run tag f => exact manage_restored (mk := .run tag) [] unit_readsBack (check_true f) (by simp) (fun _ => rfl) rfl
  case stopHold tag f =>
    exact manage_restored (mk := .stopHold tag) [] unit_readsBack (check_true f) (by simp) (fun _ => rfl) rfl
  case stopRelease tag f =>
    exact manage_restored (mk := .stopRelease tag) [] unit_readsBack (check_true f) (by simp) (fun _ => rfl) rfl
  case stepOn tag f =>
    exact manage_restored (mk := .stepOn tag) [] unit_readsBack (check_true f) (by simp) (fun _ => rfl) rfl
  case stepOff tag f =>
    exact manage_restored (mk := .stepOff tag) [] unit_readsBack (check_true f) (by simp) (fun _ => rfl) rfl
  case clearFault tag f =>
    exact manage_restored (mk := .clearFault tag) [] unit_readsBack (check_true f) (by simp) (fun _ => rfl) rfl
  case readResume tag f =>
    exact manage_restored (mk := .readResume tag) [] unit_readsBack (check_true f) (by simp) (fun _ => rfl) rfl
  case linkReset tag f =>
    exact manage_restored (mk := .linkReset tag) [] unit_readsBack (check_true f) (by simp) (fun _ => rfl) rfl
  case readStatus tag f =>
    exact manage_restored (mk := .readStatus tag) [] unit_readsBack (check_true f) (by simp) (fun _ => rfl) rfl
  case clearTraps tag f =>
    exact manage_restored (mk := .clearTraps tag) [] unit_readsBack (check_true f) (by simp) (fun _ => rfl) rfl
  case readSettings tag f =>
    exact manage_restored (mk := .readSettings tag) [] unit_readsBack (check_true f) (by simp) (fun _ => rfl) rfl
  case discardLabels tag f =>
    exact manage_restored (mk := .discardLabels tag) [] unit_readsBack (check_true f) (by simp) (fun _ => rfl) rfl
  all_goals exact fun x hx => absurd hx (by simp [encode])

end Sys2Proof.Desk

namespace Sys2Proof.Machine

/-- Settles O11. -/
theorem decodeOfEncode : Obligations.DecodeOfEncode := fun _ _ h => Desk.restored_of_wellFormed h _

end Sys2Proof.Machine
end


section
/-!
SUPPORT. The receiver (R184, R185): the statement O12.
-/

namespace Sys2Proof.Machine

variable {l : Link} {c t x y : Byte}

/-! ## The check bytes (R184) -/

/-- Two bytes are the check of a word exactly when they are its halves. -/
theorem natOf_pair_eq_iff (v : BitVec 16) :
    Desk.natOf [x, y] = v.toNat ↔ [x, y] = [(v >>> 8).setWidth 8, v.setWidth 8] := by
  have hnat : Desk.natOf [x, y] = x.toNat * 256 + y.toNat := by simp [Desk.natOf]
  have hx := x.isLt
  have hy := y.isLt
  have hv := v.isLt
  simp only [hnat, List.cons.injEq, and_true, ← BitVec.toNat_inj, BitVec.toNat_setWidth, BitVec.toNat_ushiftRight,
    Nat.shiftRight_eq_div_pow]
  omega

theorem check_iff (inner : List Byte) : Desk.natOf [x, y] = (crc16 inner).toNat ↔ [x, y] = checkBytes inner :=
  natOf_pair_eq_iff _

theorem checkBytes_eq (inner : List Byte) : ∃ x y, checkBytes inner = [x, y] := ⟨_, _, rfl⟩

/-! ## A byte at each state of the receiver (R184) -/

theorem receive_start (h : l.receiver = .hunt) : l.receive 0xA5#8 = { l with receiver := .cls } := by
  simp [Link.receive, h]

theorem receive_noise (h : l.receiver = .hunt) (hx : x ≠ 0xA5#8) : l.receive x = l := by simp [Link.receive, h, hx]

theorem receive_cls (h : l.receiver = .cls) : l.receive x = { l with receiver := .tag x } := by simp [Link.receive, h]

theorem receive_tag (h : l.receiver = .tag c) : l.receive x = { l with receiver := .length c x } := by
  simp [Link.receive, h]

theorem receive_length (h : l.receiver = .length c t) (hx : x.toNat ≤ 250) :
    l.receive x = { l with receiver := .body c t x.toNat [] } := by simp [Link.receive, h, hx]

theorem receive_tooLong (h : l.receiver = .length c t) (hx : 250 < x.toNat) :
    l.receive x = { l with receiver := .hunt } := by simp [Link.receive, h, hx]

section
variable {n : Nat} {got : List Byte}

theorem receive_body (h : l.receiver = .body c t n got) (hlen : got.length + 1 < n + 2) :
    l.receive x = { l with receiver := .body c t n (got ++ [x]) } := by
  simp only [Link.receive, h, if_pos hlen]

/-- The frame is judged at its last byte (R184, R185). -/
theorem receive_last (h : l.receiver = .body c t got.length (got ++ [y])) : l.receive x = { l with
    receiver := .hunt
    buffer := l.buffer ++
      (if [y, x] = checkBytes (c :: t :: BitVec.ofNat 8 got.length :: got) ∧ l.buffer.length < 4 then
        [⟨c, t, got⟩] else []) } := by
  have hlen : ¬(got ++ [y]).length + 1 < got.length + 2 := by simp
  simp only [Link.receive, h, if_neg hlen, judgeFrame, List.append_assoc, List.cons_append, List.nil_append,
    List.take_left' rfl, List.drop_left' rfl, check_iff, Config.bufferCapacity]
  split
  · rfl
  · rw [List.append_nil]

/-- The bytes of a payload gather in the receiver. -/
theorem foldl_receive_payload (p : List Byte) (h : l.receiver = .body c t n got) (hlen : got.length + p.length < n + 2) :
    p.foldl Link.receive l = { l with receiver := .body c t n (got ++ p) } := by
  induction p generalizing l got with
  | nil => rw [List.foldl_nil, List.append_nil, ← h]
  | cons b p ih =>
    simp only [List.length_cons] at hlen
    rw [List.foldl_cons, receive_body h (by omega),
      ih (l := { l with receiver := .body c t n (got ++ [b]) }) (got := got ++ [b]) rfl
        (by rw [List.length_append, List.length_singleton]; omega), List.append_assoc]
    rfl

end

/-- A frame taken byte by byte from HUNT, with its two check bytes (R184, R185). -/
theorem foldl_receive_frame {p : List Byte} (h : l.receiver = .hunt) (hp : p.length ≤ 250) :
    (0xA5#8 :: ((c :: t :: BitVec.ofNat 8 p.length :: p) ++ [x, y])).foldl Link.receive l =
      if [x, y] = checkBytes (c :: t :: BitVec.ofNat 8 p.length :: p) ∧ l.buffer.length < 4 then
        { l with buffer := l.buffer ++ [⟨c, t, p⟩] } else l := by
  have hlen : (BitVec.ofNat 8 p.length).toNat = p.length := by
    rw [BitVec.toNat_ofNat]
    omega
  rw [List.foldl_cons, receive_start h, List.cons_append, List.foldl_cons, receive_cls rfl, List.cons_append,
    List.foldl_cons, receive_tag (c := c) rfl, List.cons_append, List.foldl_cons,
    receive_length (c := c) (t := t) rfl (by omega), List.foldl_append, hlen,
    foldl_receive_payload (n := p.length) (got := []) p rfl (by simp), List.foldl_cons, List.nil_append,
    receive_body (n := p.length) (got := p) rfl (by omega), List.foldl_cons, receive_last (got := p) (y := x) rfl,
    List.foldl_nil]
  split
  · simp only [← h]
  · simp only [← h, List.append_nil]

/-! ## The taking of frames at a byte (R186) -/

/-- A byte takes no reply entry and gives none back. -/
theorem receive_entriesUsed (l : Link) (x : Byte) : (l.receive x).entriesUsed = l.entriesUsed := by
  obtain ⟨v, b, he, -⟩ := receive_eq l x
  rw [he]
  rfl

theorem testTaking_of_noFrame {s u : State} (hb : u.link.buffer = s.link.buffer)
    (he : u.link.entriesUsed = s.link.entriesUsed) : testTaking s u = u := by
  rw [testTaking, if_neg (by rw [hb, he]; omega)]

/-- Settles O12. -/
theorem receiverTakesBytes : Obligations.ReceiverTakesBytes := by
  refine ⟨fun l f h hp => ⟨?_, fun x y => ?_⟩, fun x s => ?_⟩
  · obtain ⟨x, y, hcheck⟩ := checkBytes_eq (f.cls :: f.tag :: BitVec.ofNat 8 f.payload.length :: f.payload)
    rw [Desk.frameBytes, hcheck, foldl_receive_frame h hp, hcheck]
    simp only [true_and]
  · intro inner hne
    rw [foldl_receive_frame h hp, if_neg fun hc => hne hc.1]
  · intro l
    refine ⟨rfl, rfl, rfl, fun hb => ?_, fun h hx => (congrArg _ hx).trans (receive_start h), receive_noise, receive_cls,
      fun c => receive_tag, fun c t => receive_length, fun c t => receive_tooLong, fun c t n got => receive_body,
      fun c t got y => receive_last⟩
    exact congrArg _ (testTaking_of_noFrame hb (receive_entriesUsed _ _))

end Sys2Proof.Machine
end


section
/-!
SUPPORT. The arbiter and the report queue (R9, R95, R189, R192, R193): the statement O13.
-/

namespace Sys2Proof.Machine

variable {s : State} {f g : EventFlag}

/-! ## The arbiter's last choices (R193) -/

theorem arbiter_of_report {r : Report} {rest : List Report} (hb : s.link.mayBegin = true) (hq : s.link.replies = [])
    (hn : s.link.notice = false) (hr : s.link.reports = r :: rest) :
    arbiter s = s.setLink { s.link with reports := rest, sending := some (.report r) } := by
  simp [arbiter, hb, hq, hn, hr]

theorem arbiter_of_nothing (hq : s.link.replies = []) (hn : s.link.notice = false) (hr : s.link.reports = []) :
    arbiter s = s := by simp [arbiter, hq, hn, hr]

theorem not_mayBegin {l : Link} (h : l.sending.isSome = true ∨ l.deskReady = false) : l.mayBegin = false := by
  cases hs : l.sending <;> simp_all [Link.mayBegin]

/-! ## Past the choice (R22, R192) -/

theorem transmit_same (h : (arbiter s).link.reports = s.link.reports) : transmit s = arbiter s := by
  simp only [transmit, h, lt_irrefl, if_false]

theorem transmit_began {r : Report} {rest : List Report} (hr : s.link.reports = r :: rest)
    (h : (arbiter s).link.reports = rest) : transmit s = choose (drainReports (arbiter s)) := by
  simp only [transmit, h, hr, List.length_cons, Nat.lt_succ_self, if_true]

theorem transmit_waits (h : s.link.mayBegin = false) : transmit s = s := by
  have harb := arbiter_waits s h
  exact (transmit_same (congrArg (fun u => u.link.reports) harb)).trans harb

/-! ## The earliest offer (R9, R192) -/

/-- Of offers with one stamped before all others, that one is the earliest. -/
theorem foldl_earlier {x : Offer} {l : List Offer} {a : Offer} (hx : x ∈ a :: l)
    (h : ∀ y ∈ a :: l, y ≠ x → x.stamp < y.stamp) : l.foldl earlier a = x := by
  induction l generalizing a with
  | nil => exact (List.mem_singleton.mp hx).symm
  | cons b l ih =>
    have hstep : earlier a b = x ∨ x ∈ l := by
      unfold earlier
      by_cases ha : a = x
      · by_cases hb : b = x
        · exact .inl (by rw [ha, hb, ite_self])
        · rw [ha, if_neg (Nat.not_lt.mpr (h b (by simp) hb).le)]
          exact .inl rfl
      · by_cases hb : b = x
        · rw [hb, if_pos (h a (by simp) ha)]
          exact .inl rfl
        · exact .inr (by simpa [Ne.symm ha, Ne.symm hb] using hx)
    have hmem : ∀ y ∈ earlier a b :: l, y ∈ a :: b :: l := by
      intro y hy
      obtain rfl | hy := List.mem_cons.mp hy
      · unfold earlier
        split <;> simp
      · exact .tail _ (.tail _ hy)
    exact ih (hstep.elim (fun he => he ▸ .head _) (.tail _)) fun y hy => h y (hmem y hy)

theorem earliest_eq {x : Offer} {l : List Offer} (hx : x ∈ l) (h : ∀ y ∈ l, y ≠ x → x.stamp < y.stamp) :
    earliest l = some x := by
  cases l with
  | nil => cases hx
  | cons a l => exact congrArg some (foldl_earlier hx h)

theorem offers_eq_nil (h : offers s = []) : s.queue.ending = [] ∧ ∀ k, (s.roll k).report = none := by
  have hnone (x : Offer) : ¬x ∈ offers s := by rw [h]; exact List.not_mem_nil
  refine ⟨?_, fun k => ?_⟩
  · cases he : s.queue.ending with
    | nil => rfl
    | cons e rest => exact absurd (mem_offers.mpr (.inl ⟨e, by rw [he]; rfl, rfl⟩)) (hnone _)
  · cases hr : (s.roll k).report with
    | none => rfl
    | some p => exact absurd (mem_offers.mpr (.inr ⟨k, p.1, p.2, hr, rfl⟩)) (hnone _)

theorem drainReports_order {e : Ending} (hl : s.link.reports.length < 24) (he : s.queue.ending.head? = some e)
    (hroll : ∀ k m r, (s.roll k).report = some (m, r) → e.stamp < m) :
    drainReports s = drainReports (takeOffer (.order e) s) := by
  refine drainReports_step s _ hl (earliest_eq (mem_offers.mpr (.inl ⟨e, he, rfl⟩)) fun y hy hne => ?_)
  obtain ⟨e', he', rfl⟩ | ⟨k, m, r, hr, rfl⟩ := mem_offers.mp hy
  · exact absurd (congrArg Offer.order (Option.some.inj (he'.symm.trans he))) hne
  · exact hroll k m r hr

theorem drainReports_rollReport {k : Back} {m : Nat} {r : RollReport} (hl : s.link.reports.length < 24)
    (hr : (s.roll k).report = some (m, r)) (horder : ∀ e, s.queue.ending.head? = some e → m < e.stamp)
    (hother : ∀ n q, (s.roll k.other).report = some (n, q) → m < n) :
    drainReports s = drainReports (takeOffer (.roll k m r) s) := by
  refine drainReports_step s _ hl (earliest_eq (mem_offers.mpr (.inr ⟨k, m, r, hr, rfl⟩)) fun y hy hne => ?_)
  obtain ⟨e, he, rfl⟩ | ⟨j, n, q, hq, rfl⟩ := mem_offers.mp hy
  · exact horder e he
  · by_cases hj : j = k
    · subst hj
      obtain ⟨rfl, rfl⟩ : n = m ∧ q = r := Prod.mk.inj (Option.some.inj (hq.symm.trans hr))
      exact absurd rfl hne
    · obtain rfl : j = k.other := by cases j <;> cases k <;> first | rfl | exact absurd rfl hj
      exact hother n q hq

/-! ## Raisings with nothing held (R179, R189) -/

section
variable (hs : s.link.sending = none) (hd : s.link.deskReady = true) (hq : s.link.replies = [])
  (hn : s.link.notice = false)
include hs hd hq hn

theorem trap_sends_notice {tag : Byte} {u : UnitSlot} {cmd : UnitCmd} {reason : Reason}
    (hmask : hasFlag s.settings.noticeMask .trap = true) : trap tag u cmd reason s =
      (s.setLink { s.link with
        notice := false
        sending := some (.notice (s.events.risen ||| EventFlag.trap.bit) (s.events.flags ||| EventFlag.trap.bit))
        replies := [{ cls := 2#8, tag := tag, command := cmd.name.code, result := .trapped reason, data := .none }]
        }).setEvents { s.events.raise .trap with
          risen := 0#12, traps := s.events.traps.set reason, lastTrap := some (u, cmd.name) } := by
  have hmay : NoticeMayBegin .trap (s.setEvents { s.events with
      traps := s.events.traps.set reason, lastTrap := some (u, cmd.name) }) := ⟨hmask, hn, hs, hd⟩
  simp only [trap]
  rw [raise_sends_notice hmay hq]
  exact (addReply_eq_setLink _ _).trans (by simp [repliedLink, Link.mayBegin, hq]; rfl)

theorem raise_raise (hf : hasFlag s.settings.noticeMask f = true) (hg : hasFlag s.settings.noticeMask g = true) :
    raise g (raise f s) = (s.setLink { s.link with
        notice := true, sending := some (.notice (s.events.risen ||| f.bit) (s.events.flags ||| f.bit)) }).setEvents
      { s.events with flags := s.events.flags ||| f.bit ||| g.bit, risen := g.bit } := by
  have hmay : NoticeMayBegin f s := ⟨hf, hn, hs, hd⟩
  rw [raise_sends_notice hmay hq, raise_of_not_mayBegin fun h => by simpa using h.2.2.1]
  simp [hg, Events.raise, State.setEvents, State.setLink]

end

/-- Settles O13. -/
theorem reportsEnterAndFramesLeaveInOrder : Obligations.ReportsEnterAndFramesLeaveInOrder := by
  refine ⟨fun s => ⟨fun h => arbiter_waits s (not_mayBegin h), transmit_same, fun r rest => transmit_began⟩,
    fun s hs hd => ?chooses, fun s => ?drains, fun r x f s => ⟨rfl, rfl, fun hm hn => ?fills, fun h => ?merges⟩,
    fun f g tag u cmd reason s hs hd hq hn => ⟨fun hmask => ?trapped, fun hf hg => ?twice⟩,
    fun s => ⟨rfl, rfl, fun h => ⟨?ready, ?sent, fun hd => ?falls⟩, fun h => if_pos (by simp [h])⟩⟩
  case chooses =>
    have hb : s.link.mayBegin = true := Link.mayBegin_iff.mpr ⟨hs, hd⟩
    exact ⟨fun r rest => arbiter_of_reply hb, arbiter_of_notice hb, fun r rest => arbiter_of_report hb, arbiter_of_nothing⟩
  case drains =>
    intro entered waiting
    refine ⟨drainReports_full s, (drainReports_done s).imp_right offers_eq_nil, fun e hl he hw hne => ?_,
      fun k m r hl hr hw hne hother => ?_⟩
    · exact drainReports_order hl he fun k m r hr => lt_of_le_of_ne (hw.2 k m r hr) (hne k m r hr).symm
    · exact drainReports_rollReport hl hr (fun e he => lt_of_le_of_ne (hw.1 e he) (hne e he).symm) fun n q hq =>
        lt_of_le_of_ne (hw.2 _ n q hq) (hother n q hq).symm
  case fills =>
    obtain ⟨_, _, he⟩ | ⟨h, _⟩ := raise_cases s f
    · exact he
    · simp [hm, hn] at h
  case merges =>
    obtain ⟨hm, hn, _⟩ | ⟨_, he⟩ := raise_cases s f
    · simp [hm, hn] at h
    · exact he
  case trapped =>
    intro t
    have ht : t = _ := trap_sends_notice hs hd hq hn hmask
    rw [ht]
    exact ⟨rfl, rfl, rfl, rfl⟩
  case twice =>
    intro t
    have ht : t = _ := raise_raise hs hd hq hn hf hg
    rw [ht]
    exact ⟨rfl, rfl, rfl, rfl⟩
  case ready =>
    have hwait : transmit (s.setLink { s.link with deskReady := true }) = s.setLink { s.link with deskReady := true } :=
      transmit_waits (not_mayBegin (.inl h))
    exact congrArg Host.Outcome.next ((congrArg (testTaking s) hwait).trans (testTaking_of_noFrame rfl rfl))
  case sent => exact if_neg (by simpa using Option.isSome_iff_ne_none.mp h)
  case falls =>
    have hwait : transmit (s.setLink { s.link with sending := none }) = s.setLink { s.link with sending := none } :=
      transmit_waits (not_mayBegin (.inr hd))
    refine (if_neg (by simpa using Option.isSome_iff_ne_none.mp h)).trans ?_
    exact congrArg Host.Outcome.next ((congrArg (testTaking s) hwait).trans (testTaking_of_noFrame rfl rfl))

end Sys2Proof.Machine
end


section
/-!
SUPPORT. What the operations of the 740 leave of the link and of the event flags: the receiving side stands, no flag falls,
and while a frame is being sent or desk-ready is inactive the replies held only grow by those that join (R187 to R193).
-/

namespace Sys2Proof.Machine

/-! ## The link and the flags go onward -/

variable {s u v t : State} {l m : List Reply} {n p : Nat}

/-- From s to t the receiving side of the link stands, no flag falls, `n` reserved reply entries are given up, and the
replies `l` join those held when the transmitter may not begin. -/
structure Onward (l : List Reply) (n : Nat) (s t : State) : Prop where
  receiver : t.link.receiver = s.link.receiver
  buffer : t.link.buffer = s.link.buffer
  deskReady : t.link.deskReady = s.link.deskReady
  reserved : t.link.reserved = s.link.reserved - n
  flags : ∀ g, hasFlag s.events.flags g = true → hasFlag t.events.flags g = true
  held : s.link.mayBegin = false → t.link.replies = s.link.replies ++ l ∧ t.link.sending = s.link.sending

theorem Onward.refl (s : State) : Onward [] 0 s s := ⟨rfl, rfl, rfl, rfl, fun _ => id, fun _ => ⟨by simp, rfl⟩⟩

theorem Onward.mayBegin (h : Onward l n s u) (hs : s.link.mayBegin = false) : u.link.mayBegin = false := by
  rw [Link.mayBegin, (h.held hs).2, h.deskReady]
  exact hs

theorem Onward.trans (h : Onward l n s u) (g : Onward m p u t) : Onward (l ++ m) (n + p) s t where
  receiver := g.receiver.trans h.receiver
  buffer := g.buffer.trans h.buffer
  deskReady := g.deskReady.trans h.deskReady
  reserved := by rw [g.reserved, h.reserved, Nat.sub_sub]
  flags f hf := g.flags f (h.flags f hf)
  held hs := by
    obtain ⟨hr, hsend⟩ := h.held hs
    obtain ⟨gr, gsend⟩ := g.held (h.mayBegin hs)
    exact ⟨by rw [gr, hr, List.append_assoc], gsend.trans hsend⟩

theorem Onward.then (h : Onward l n s u) (g : Onward [] 0 u t) : Onward l n s t := by simpa using h.trans g

/-- An operation that leaves the link and the flags. -/
theorem Onward.same (h : Onward l n s u) (hl : t.link = u.link) (hf : t.events.flags = u.events.flags) : Onward l n s t := by
  refine h.then ⟨?_, ?_, ?_, ?_, fun g => by rw [hf]; exact id, fun _ => ?_⟩ <;> simp [hl]

/-- A change of the link that leaves the receiving side, the reservations and, when the transmitter may not begin, the
replies and the frame being sent. -/
theorem Onward.link (h : Onward l n s u) (hl : t.link.receiver = u.link.receiver ∧ t.link.buffer = u.link.buffer ∧
    t.link.deskReady = u.link.deskReady ∧ t.link.reserved = u.link.reserved) (hf : t.events.flags = u.events.flags)
    (hr : u.link.mayBegin = false → t.link.replies = u.link.replies ∧ t.link.sending = u.link.sending) :
    Onward l n s t := by
  obtain ⟨h1, h2, h3, h4⟩ := hl
  exact h.then ⟨h1, h2, h3, h4, fun g => by rw [hf]; exact id, fun hb => by simpa using hr hb⟩

theorem Onward.setGate (h : Onward l n s u) (x : Gate) : Onward l n s (u.setGate x) := h.same rfl rfl
theorem Onward.setTimer (h : Onward l n s u) (x : Timer) : Onward l n s (u.setTimer x) := h.same rfl rfl
theorem Onward.setQueue (h : Onward l n s u) (x : Queue) : Onward l n s (u.setQueue x) := h.same rfl rfl
theorem Onward.setLabels (h : Onward l n s u) (x : Labels) : Onward l n s (u.setLabels x) := h.same rfl rfl
theorem Onward.setBus (h : Onward l n s u) (x : Bus) : Onward l n s (u.setBus x) := h.same rfl rfl
theorem Onward.setFaults (h : Onward l n s u) {x : Events} (hx : x.flags = u.events.flags) :
    Onward l n s (u.setEvents x) := h.same rfl hx
theorem Onward.updVisit (h : Onward l n s u) (f : Visit → Visit) : Onward l n s (updVisit f u) := h.same rfl rfl
theorem Onward.updRoll (h : Onward l n s u) (k : Back) (f : Roll → Roll) : Onward l n s (updRoll k f u) := h.same rfl rfl
theorem Onward.updSlot (h : Onward l n s u) (k : UnitSlot) (f : Slot → Slot) : Onward l n s (updSlot k f u) := h.same rfl rfl
theorem Onward.setLabelWait (h : Onward l n s u) (w : Bool) : Onward l n s (setLabelWait w u) := h.same rfl rfl

/-! ## The transmitter, the flags and the reports -/

theorem Onward.arbiter (h : Onward l n s u) : Onward l n s (arbiter u) :=
  h.link (by simp) (by simp) fun hb => by rw [arbiter_waits u hb]; simp

theorem hasFlag_or {x : EventSet} {f g : EventFlag} (h : hasFlag x g = true) : hasFlag (x ||| f.bit) g = true := by
  rw [hasFlag] at h ⊢
  rw [BitVec.getLsbD_or, h, Bool.true_or]

theorem Onward.raise (h : Onward l n s u) (f : EventFlag) : Onward l n s (raise f u) := by
  have h1 : Onward l n s (u.setEvents (u.events.raise f)) := h.then
    ⟨rfl, rfl, rfl, rfl, fun _ hg => hasFlag_or hg, fun _ => by simp⟩
  obtain ⟨-, -, he⟩ | ⟨-, he⟩ := raise_cases u f <;> rw [he]
  · exact Onward.arbiter (h1.link (by simp) (by rfl) fun _ => by simp)
  · exact h1

theorem Onward.raiseTimes (h : Onward l n s u) (f : EventFlag) (i : Nat) : Onward l n s (raiseTimes f i u) := by
  induction i generalizing u with
  | zero => exact h
  | succ i ih => exact ih (h.raise f)

theorem Onward.tick (h : Onward l n s u) : Onward l n s (tick u) := h.link (by simp [Machine.tick]) (by simp) fun _ => by simp [Machine.tick]

theorem Onward.enterReport (h : Onward l n s u) (x : Report) : Onward l n s (enterReport x u) :=
  Onward.arbiter (h.link (by simp) (by simp) fun _ => by simp)

/-- A reply joins. -/
theorem Onward.addReply (h : Onward l n s u) (x : Reply) : Onward (l ++ [x]) n s (addReply x u) := by
  exact Onward.arbiter (h.trans (m := [x]) (p := 0) ⟨rfl, rfl, rfl, rfl, fun _ => id, fun _ => ⟨rfl, rfl⟩⟩)

/-- A deferred reply joins in place of its reservation. -/
theorem Onward.answerDeferred (h : Onward l n s u) (cls tag : Byte) (c : Nat) (x : Result) (d : ReplyData) :
    Onward (l ++ [{ cls := cls, tag := tag, command := c, result := x, data := d }]) (n + 1) s
      (answerDeferred cls (some tag) c x d u) :=
  Onward.arbiter (h.trans (p := 1) ⟨rfl, rfl, rfl, rfl, fun _ => id, fun _ => ⟨rfl, rfl⟩⟩)


theorem Onward.takeOffer (h : Onward l n s u) (x : Offer) : Onward l n s (takeOffer x u) := by
  cases x
  exacts [(h.setQueue _).enterReport _, (h.updRoll _ _).enterReport _]

theorem Onward.drainFuel (h : Onward l n s u) (i : Nat) : Onward l n s (drainFuel i u) := by
  induction i generalizing u with
  | zero => exact h
  | succ i ih =>
    unfold Machine.drainFuel
    split
    · split
      exacts [h, ih (h.takeOffer _)]
    · exact h

theorem Onward.drainReports (h : Onward l n s u) : Onward l n s (drainReports u) := h.drainFuel _

/-! ## Orders, rolls and faults -/

theorem Onward.endOrder (h : Onward l n s u) (kind : EndKind) (i : Nat) : Onward l n s (endOrder kind i u) := by
  unfold Machine.endOrder
  split
  · exact h
  · exact Onward.tick (h.same (by simp) (by simp))

theorem Onward.endOrders (h : Onward l n s u) (kind : EndKind) (ns : List Nat) : Onward l n s (endOrders kind ns u) := by
  unfold Machine.endOrders
  induction ns generalizing u with
  | nil => exact h
  | cons i ns ih => exact ih (h.endOrder kind i)

theorem Onward.tellFault (h : Onward l n s u) : Onward l n s (tellFault u) := h.drainReports.raise _

theorem Onward.failOrder (h : Onward l n s u) (kind : ClassB) (i : Nat) : Onward l n s (failOrder kind i u) := by
  unfold Machine.failOrder
  split
  exacts [(h.endOrder _ i).tellFault, h]

theorem Onward.failOrders (h : Onward l n s u) (kind : ClassB) (ns : List Nat) : Onward l n s (failOrders kind ns u) := by
  unfold Machine.failOrders
  induction ns generalizing u with
  | nil => exact h
  | cons i ns ih => exact ih (h.failOrder kind i)

theorem Onward.refreshWanted (h : Onward l n s u) : Onward l n s (refreshWanted u) :=
  Onward.raiseTimes (Onward.raiseTimes (h.setQueue _) _ _) _ _

theorem Onward.composeReport (h : Onward l n s u) (k : Back) (c : CloseCause) : Onward l n s (composeReport k c u) :=
  (h.updRoll k _).tick.raise _

theorem Onward.finishClose (h : Onward l n s u) (k : Back) : Onward l n s (finishClose k u) := by
  unfold Machine.finishClose; split; exacts [h.updRoll k _, h.composeReport k _]

theorem Onward.closeRollFor (h : Onward l n s u) (k : Back) (c : CloseCause) : Onward l n s (closeRollFor k c u) :=
  Onward.finishClose (h.same (by simp) (by simp)) k

theorem Onward.holdVisit (h : Onward l n s u) (c : HoldCause) : Onward l n s (holdVisit c u) := by
  unfold Machine.holdVisit
  split
  exacts [h, (h.setGate _).setLabelWait _]

theorem Onward.raiseFault (h : Onward l n s u) (f : FaultRec) : Onward l n s (raiseFault f u) := by
  unfold Machine.raiseFault
  split
  · exact h
  · exact (h.setFaults (by rfl)).raise _
  · exact ((((h.setFaults (by rfl)).setGate _).raise _).raise _).holdVisit _

/-! ## The course of a visit and of a firing -/

theorem Onward.issue (h : Onward l n s u) (k : UnitSlot) (c : UnitCmd) (i : Issuer) : Onward l n s (issue k c i u) :=
  h.same (by simp) (by simp)

theorem Onward.endVisit (h : Onward l n s u) : Onward l n s (endVisit u) := by
  unfold Machine.endVisit
  split
  · exact h
  · exact ((Onward.endOrders (h.same (by simp) (by simp)) _ _).setGate _).setLabelWait _

theorem Onward.closeVisit (h : Onward l n s u) : Onward l n s (closeVisit u) := by
  unfold Machine.closeVisit
  split
  exacts [h, h.endVisit.drainReports.refreshWanted]

theorem Onward.sendLoad (h : Onward l n s u) : Onward l n s (sendLoad u) := by
  unfold Machine.sendLoad
  split
  · exact h
  · split
    exacts [h.issue _ _ _, h.raiseFault _]

theorem Onward.sendReturn (h : Onward l n s u) : Onward l n s (sendReturn u) := by
  unfold Machine.sendReturn
  split
  exacts [h.issue _ _ _, h.raiseFault _]

theorem Onward.enterReturning (h : Onward l n s u) : Onward l n s (enterReturning u) := by
  unfold Machine.enterReturning
  split
  · exact h
  · have h1 := Onward.setLabelWait (h.updVisit fun x => { x with state := .returning }) false
    dsimp only
    split
    · exact h1.closeVisit
    · split
      exacts [h1, h1.sendReturn]

theorem Onward.enterMetering (h : Onward l n s u) : Onward l n s (enterMetering u) := by
  have h1 := h.updVisit fun v => { v with state := .metering }
  unfold Machine.enterMetering
  dsimp only
  split
  · exact h1.raiseFault _
  · split
    exacts [h1, h1.same (by simp) (by simp)]

theorem Onward.testReturning (h : Onward l n s u) : Onward l n s (testReturning u) := by
  unfold Machine.testReturning
  split
  exacts [h.enterReturning, h]

theorem Onward.startFiring (h : Onward l n s u) (x : Visit) : Onward l n s (startFiring x u) := by
  have h1 (wa wb : Option WorkItem) : Onward l n s (blankUnfit .b wb (blankUnfit .a wa u)) := h.same (by simp) (by simp)
  unfold Machine.startFiring
  dsimp only
  split
  exacts [((h1 _ _).setLabelWait _).testReturning, (h1 none none).same (by simp) (by simp)]

theorem Onward.testFiring (h : Onward l n s u) : Onward l n s (testFiring u) := by
  unfold Machine.testFiring
  split
  · exact h
  · split
    · exact h
    · split
      · exact h.setLabelWait _
      · split
        · exact h.startFiring _
        · split
          exacts [h, (h.setLabelWait _).raise _]

theorem Onward.testVisit (h : Onward l n s u) : Onward l n s (testVisit u) := h.testFiring.testReturning

theorem Onward.enterExposing (h : Onward l n s u) : Onward l n s (enterExposing u) := (h.updVisit _).testVisit

theorem Onward.continueVisit (h : Onward l n s u) : Onward l n s (continueVisit u) := by
  unfold Machine.continueVisit
  split
  · exact h
  · split
    · split
      exacts [h, h.sendLoad]
    · split
      exacts [h, h.enterMetering]
    · exact h.testVisit
    · split
      exacts [h, h.sendReturn]

theorem Onward.releasePath (h : Onward l n s u) : Onward l n s (releasePath u) := by
  unfold Machine.releasePath
  split
  · exact h
  · split
    · split
      exacts [h, h.enterReturning]
    · split
      exacts [h, h.enterReturning]
    · exact h.testReturning
    · split
      exacts [h, h.sendReturn]

theorem Onward.choose (h : Onward l n s u) : Onward l n s (choose u) := by
  unfold Machine.choose
  split
  · split
    · unfold Machine.open_
      exact Onward.sendLoad ((h.setGate _).setQueue _)
    · exact h
  · exact h

theorem Onward.enterStopped (h : Onward l n s u) : Onward l n s (enterStopped u) := (h.setGate _).raise _

theorem Onward.stopEnds (h : Onward l n s u) : Onward l n s (stopEnds u) := by
  unfold Machine.stopEnds
  split
  exacts [h.enterStopped, h]

theorem Onward.restOrStop (h : Onward l n s u) : Onward l n s (restOrStop u) := by
  unfold Machine.restOrStop
  split
  exacts [h.enterStopped, h.setGate _]

theorem Onward.endFiring (h : Onward l n s u) : Onward l n s (endFiring u) := by
  unfold Machine.endFiring
  split
  exacts [h, Onward.testVisit (h.same (by simp) (by simp))]

theorem Onward.abortFiring (h : Onward l n s u) : Onward l n s (abortFiring u) := by
  unfold Machine.abortFiring
  split
  · exact h
  · next f _ =>
    have h1 : Onward l n s (spoilShot .b (u.shot? .b) (spoilShot .a (u.shot? .a) (dropLines (framesAfter u f true) u))) :=
      h.same (by simp) (by simp)
    exact Onward.testVisit ((h1.raiseFault (lampFault u)).same (by simp) (by simp))

theorem Onward.completeCancels (h : Onward l n s u) : Onward l n s (completeCancels u) := (h.endOrders _ _).drainReports

theorem Onward.stepHold (h : Onward l n s u) (i : Nat) : Onward l n s (stepHold i u) := by
  unfold Machine.stepHold
  split
  exacts [(h.setGate _).holdVisit _, h]

theorem Onward.firingAfterLoss (h : Onward l n s u) (i : Nat) : Onward l n s (firingAfterLoss i u) := by
  unfold Machine.firingAfterLoss
  split
  · exact (h.stepHold _).testVisit
  · split
    · split
      exacts [h.endFiring, h.abortFiring]
    · exact h

theorem Onward.stepAfterFrame (h : Onward l n s u) (f : Option FrameRec) : Onward l n s (stepAfterFrame f u) := by
  cases f
  exacts [h, h.stepHold _]

theorem Onward.afterLoss (h : Onward l n s u) (k : Back) (b : State) : Onward l n s (afterLoss k b u) := by
  unfold Machine.afterLoss
  split
  exacts [h.firingAfterLoss _, h.stepAfterFrame _]

/-! ## Units and rolls lost -/

theorem Onward.rollLost (h : Onward l n s u) (k : Back) : Onward l n s (rollLost k u) := by
  have h1 (x : State) (hx : Onward l n s x) : Onward l n s (Machine.clearOwed k (Machine.dropList k x)) :=
    hx.same (by simp) (by simp)
  exact ((Onward.completeCancels (h1 _ (Onward.composeReport (h.same (by simp) (by simp)) _ _))).afterLoss k u).testReturning


theorem Onward.backGone (h : Onward l n s u) (k : Back) : Onward l n s (backGone k u) := by
  unfold Machine.backGone
  split
  exacts [h.updRoll k _, h.updRoll k _, h.rollLost k, h.rollLost k, h.rollLost k, h.rollLost k, h, h]

theorem Onward.changeSlot (h : Onward l n s u) (k : UnitSlot) (x : SlotState) : Onward l n s (changeSlot k x u) :=
  Onward.raise (h.updSlot k _) _

theorem Onward.handOnLoss (h : Onward l n s u) (k : UnitSlot) (x : Bool) : Onward l n s (handOnLoss k x u) := by
  unfold Machine.handOnLoss
  cases k
  case feeder =>
    have h1 := h.updSlot .feeder (fun x => { x with magazine := none })
    cases x <;> simp only [Bool.false_eq_true, ↓reduceIte] <;> split
    exacts [h1.raiseFault _, h1, (h1.setGate _).raiseFault _, h1.setGate _]
  case meter =>
    dsimp only
    split
    · exact Onward.raiseFault (h.same (t := Machine.cutMetering u) (by simp) (by simp)) _
    · exact h
  case backA => exact Onward.backGone (h.same (by simp) (by simp)) _
  case backB => exact Onward.backGone (h.same (by simp) (by simp)) _
  case printer => exact h.updSlot _ _

/-! ## The cleanup, and the end of a step -/


theorem Onward.returnSlide (h : Onward l n s u) (c : Cleanup) : Onward l n s (returnSlide c u) := h.same (by simp) (by simp)

theorem Onward.endCleanup (h : Onward l n s u) (c : Cleanup) : Onward l n s (endCleanup c u) := by
  unfold Machine.endCleanup
  dsimp only
  split
  exacts [(h.closeVisit.setGate _).enterStopped, (((h.closeVisit.setFaults (by rfl)).setGate _).raise _).raise _]

theorem Onward.cleanupStep (h : Onward l n s u) : Onward l n s (cleanupStep u) := by
  unfold Machine.cleanupStep
  split
  · exact h
  · split
    · split
      exacts [h.setGate _, h]
    · split
      exacts [h.same (by simp) (by simp), h]
    · exact h.returnSlide _
    · exact h.endCleanup _

theorem Onward.runCleanup (h : Onward l n s u) : Onward l n s (runCleanup u) :=
  h.cleanupStep.cleanupStep.cleanupStep.cleanupStep

theorem Onward.settle (h : Onward l n s u) : Onward l n s (settle u) := h.runCleanup.refreshWanted.stopEnds.choose

end Sys2Proof.Machine
end


section
/-!
O14: the frames that wait. The row of a desk command is its frame taken, by an action that joins no frame to the buffer;
the frames that wait are taken from the head, one for each entry that is free.
-/

namespace Sys2Proof.Machine

variable {s t : State} {tag : Byte} {code : Nat}

/-! ## What the parts of the desk commands leave of the buffer -/

section
variable {α : Type}

@[simp] theorem buffer_addReply (x : Reply) : (addReply x t).link.buffer = t.link.buffer := ((Onward.refl t).addReply x).buffer
@[simp] theorem buffer_answer (x : Result) (d : ReplyData) : (answer tag code x d t).link.buffer = t.link.buffer :=
  buffer_addReply _
@[simp] theorem buffer_answerDirect (x : Result) (d : ReplyData) : (answerDirect tag code x d t).link.buffer = t.link.buffer :=
  buffer_addReply _
@[simp] theorem buffer_answerOrder (x : Result) (d : ReplyData) : (answerOrder tag x d t).link.buffer = t.link.buffer :=
  buffer_addReply _
@[simp] theorem buffer_refuse (x : Reason) : (refuse tag code x t).link.buffer = t.link.buffer := buffer_addReply _
@[simp] theorem buffer_refuseAccount (n : Nat) (x : Reason) : (refuseAccount tag code n x t).link.buffer = t.link.buffer :=
  buffer_addReply _
@[simp] theorem buffer_settle : (settle t).link.buffer = t.link.buffer := (Onward.refl t).settle.buffer
@[simp] theorem buffer_raise (f : EventFlag) : (raise f t).link.buffer = t.link.buffer := ((Onward.refl t).raise f).buffer
@[simp] theorem buffer_continueVisit : (continueVisit t).link.buffer = t.link.buffer := (Onward.refl t).continueVisit.buffer
@[simp] theorem buffer_releasePath : (releasePath t).link.buffer = t.link.buffer := (Onward.refl t).releasePath.buffer
@[simp] theorem buffer_enterStopped : (enterStopped t).link.buffer = t.link.buffer := (Onward.refl t).enterStopped.buffer
@[simp] theorem buffer_restOrStop : (restOrStop t).link.buffer = t.link.buffer := (Onward.refl t).restOrStop.buffer
@[simp] theorem buffer_closeVisit : (closeVisit t).link.buffer = t.link.buffer := (Onward.refl t).closeVisit.buffer
@[simp] theorem buffer_testVisit : (testVisit t).link.buffer = t.link.buffer := (Onward.refl t).testVisit.buffer
@[simp] theorem buffer_testReturning : (testReturning t).link.buffer = t.link.buffer := (Onward.refl t).testReturning.buffer
@[simp] theorem buffer_drainReports : (drainReports t).link.buffer = t.link.buffer := (Onward.refl t).drainReports.buffer
@[simp] theorem buffer_endOrder (k : EndKind) (n : Nat) : (endOrder k n t).link.buffer = t.link.buffer :=
  ((Onward.refl t).endOrder k n).buffer
@[simp] theorem buffer_completeCancels : (completeCancels t).link.buffer = t.link.buffer := (Onward.refl t).completeCancels.buffer
@[simp] theorem buffer_closeRollFor (k : Back) (c : CloseCause) : (closeRollFor k c t).link.buffer = t.link.buffer :=
  ((Onward.refl t).closeRollFor k c).buffer
@[simp] theorem buffer_reserve : (reserve t).link.buffer = t.link.buffer := rfl

@[simp] theorem buffer_checked {f : Fields α} {body : α → State → State}
    (h : ∀ x, (body x t).link.buffer = t.link.buffer) : (checked tag code f body t).link.buffer = t.link.buffer := by
  unfold checked
  (repeat' split) <;> simp [h]

theorem buffer_checkedNaming {f : Fields α} {data : α → ReplyData} {body : α → State → State}
    (h : ∀ x, (body x t).link.buffer = t.link.buffer) :
    (checkedNaming tag code f data body t).link.buffer = t.link.buffer := by
  unfold checkedNaming
  (repeat' split) <;> simp [h]

theorem buffer_onAccount {n : Nat} {act : Account → State → State} (h : ∀ x, (act x t).link.buffer = t.link.buffer) :
    (onAccount tag code n act t).link.buffer = t.link.buffer := by
  unfold onAccount
  (repeat' split) <;> simp [h]

end

/-! ## What each desk command leaves of the buffer -/

theorem buffer_runEngine (x : Unit) : (runEngine tag x t).link.buffer = t.link.buffer := by
  unfold runEngine
  split <;> simp [unhold]

theorem buffer_stopHold (x : Unit) : (stopHold tag x t).link.buffer = t.link.buffer := by
  unfold stopHold
  (repeat' split) <;> simp

theorem buffer_stopRelease (x : Unit) : (stopRelease tag x t).link.buffer = t.link.buffer := by
  unfold stopRelease release
  (repeat' split) <;> simp

theorem buffer_clearFault (x : Unit) : (clearFault tag x t).link.buffer = t.link.buffer := by
  unfold clearFault removeFault
  dsimp only
  (repeat' split) <;> simp

theorem buffer_readResume (x : Unit) : (readResume tag x t).link.buffer = t.link.buffer := by
  unfold readResume
  split <;> simp

theorem buffer_readStatus (f : Fields Unit) : (readStatus tag f t).link.buffer = t.link.buffer := by
  unfold readStatus
  split <;> simp

theorem buffer_ackEvents (x : EventSet) : (ackEvents tag x t).link.buffer = t.link.buffer := by
  unfold ackEvents
  dsimp only
  split <;> simp

theorem buffer_setSettings (x : List SettingItem) : (setSettings tag x t).link.buffer = t.link.buffer := by
  unfold setSettings writeSettings
  dsimp only
  (repeat' split) <;> simp

theorem buffer_writeStock (x : StockFields) : (writeStock tag x t).link.buffer = t.link.buffer := by
  unfold writeStock
  split <;> simp

theorem buffer_deleteStock (x : Nat) : (deleteStock tag x t).link.buffer = t.link.buffer := by
  unfold deleteStock
  split <;> simp

theorem buffer_writePattern (x : PatternFields) : (writePattern tag x t).link.buffer = t.link.buffer := by
  unfold writePattern
  split <;> simp

theorem buffer_emptyPattern (x : Nat) : (emptyPattern tag x t).link.buffer = t.link.buffer := by
  unfold emptyPattern
  (repeat' split) <;> simp

theorem buffer_writeTemplate (x : TemplateFields) : (writeTemplate tag x t).link.buffer = t.link.buffer := by
  unfold writeTemplate
  (repeat' split) <;> simp

theorem buffer_emptyTemplate (x : Nat) : (emptyTemplate tag x t).link.buffer = t.link.buffer := by
  unfold emptyTemplate
  (repeat' split) <;> simp

theorem buffer_writeFee (x : FeeFields) : (writeFee tag x t).link.buffer = t.link.buffer := by
  unfold writeFee
  split <;> simp

theorem buffer_readStock (x : Option Nat) : (readStock tag x t).link.buffer = t.link.buffer := by
  unfold readStock
  (repeat' split) <;> simp

theorem buffer_readPattern (x : Option Nat) : (readPattern tag x t).link.buffer = t.link.buffer := by
  unfold readPattern
  (repeat' split) <;> simp

theorem buffer_readTemplate (x : Option Nat) : (readTemplate tag x t).link.buffer = t.link.buffer := by
  unfold readTemplate
  (repeat' split) <;> simp

theorem buffer_readFee (x : Option Nat) : (readFee tag x t).link.buffer = t.link.buffer := by
  unfold readFee
  (repeat' split) <;> simp

theorem buffer_loadRoll (x : LoadRollFields) : (loadRoll tag x t).link.buffer = t.link.buffer := by
  unfold loadRoll
  (repeat' split) <;> simp

theorem buffer_closeRoll (x : Nat) : (closeRoll tag x t).link.buffer = t.link.buffer := by
  unfold closeRoll
  (repeat' split) <;> simp

theorem buffer_resyncRoll (x : Nat) : (resyncRoll tag x t).link.buffer = t.link.buffer := by
  unfold resyncRoll
  (repeat' split) <;> simp

theorem buffer_readRollMap (x : RollMapFields) : (readRollMap tag x t).link.buffer = t.link.buffer := by
  unfold readRollMap
  dsimp only
  (repeat' split) <;> simp

theorem buffer_cancelOrder (x : Nat) : (cancelOrder tag x t).link.buffer = t.link.buffer := by
  unfold cancelOrder markCancelled
  (repeat' split) <;> simp

theorem buffer_readOrder (x : Nat) : (readOrder tag x t).link.buffer = t.link.buffer := by
  unfold readOrder
  split <;> simp

theorem buffer_discardLabels (x : Unit) : (discardLabels tag x t).link.buffer = t.link.buffer := by
  unfold discardLabels
  dsimp only
  split <;> simp

theorem buffer_openAccount (x : AccountSum) : (openAccount tag x t).link.buffer = t.link.buffer := by
  unfold openAccount
  (repeat' split) <;> simp

theorem buffer_readAccount (x : Option Nat) : (readAccount tag x t).link.buffer = t.link.buffer := by
  unfold readAccount
  (repeat' split) <;> simp

theorem buffer_putCeiling (x : AccountSum) (y : Account) : (putCeiling tag x y t).link.buffer = t.link.buffer := by
  unfold putCeiling
  split <;> simp

theorem buffer_credit (x : AccountSum) : (credit tag x t).link.buffer = t.link.buffer := by
  unfold credit
  (repeat' split) <;> simp

theorem buffer_clearCharged (x : Nat) : (clearCharged tag x t).link.buffer = t.link.buffer := by
  unfold clearCharged
  (repeat' split) <;> simp

theorem buffer_dropAccount {n : Nat} (y : Account) : (dropAccount tag n y t).link.buffer = t.link.buffer := by
  unfold dropAccount
  split <;> simp

theorem buffer_judgeDirect (unit : Byte) (c : Option UnitCmd) : (judgeDirect tag unit code c t).link.buffer = t.link.buffer := by
  unfold judgeDirect judgeSlot trap forward
  dsimp only
  (repeat' split) <;> simp

theorem buffer_takeOrder (x : OrderFields) : (takeOrder tag x t).link.buffer = t.link.buffer := by
  unfold takeOrder admitOrder
  (repeat' split) <;> simp

theorem buffer_linkReset (x : Unit) : (linkReset tag x t).link.buffer = [] := by
  simp [linkReset, resetEntry, resetLinkQueues]

/-! ## The row of a desk command -/

/-- The row of c takes its frame for an action by which no frame joins the buffer. -/
def TakesFrame (c : Instr) : Prop :=
  ∃ act : State → State, (∀ t, (act t).link.buffer.length ≤ t.link.buffer.length) ∧ ∀ s, exec c s = .next (takeFrame c act s)

theorem takesFrame_of_buffer {c : Instr} {act : State → State} (hc : ∀ s, exec c s = .next (takeFrame c act s))
    (h : ∀ t, (act t).link.buffer = t.link.buffer) : TakesFrame c := ⟨act, fun t => by rw [h t], hc⟩

theorem takesFrame_of_encode {c : Instr} {f : Frame} (h : Desk.encode c = some f) : TakesFrame c := by
  cases c
  case orderFrame => exact takesFrame_of_buffer (fun _ => rfl) fun _ => buffer_takeOrder _
  case unknownClass => exact takesFrame_of_buffer (fun _ => rfl) fun _ => buffer_addReply _
  case payloadLengthDiscard => exact takesFrame_of_buffer (fun _ => rfl) fun _ => rfl
  case unknownManageCommand => exact takesFrame_of_buffer (fun _ => rfl) fun _ => buffer_refuse _
  case run => exact takesFrame_of_buffer (fun _ => rfl) fun _ => buffer_settle.trans (buffer_checked buffer_runEngine)
  case stopHold => exact takesFrame_of_buffer (fun _ => rfl) fun _ => buffer_settle.trans (buffer_checked buffer_stopHold)
  case stopRelease => exact takesFrame_of_buffer (fun _ => rfl) fun _ => buffer_settle.trans (buffer_checked buffer_stopRelease)
  case stepOn => exact takesFrame_of_buffer (fun _ => rfl) fun _ => buffer_checked fun _ => buffer_answer _ _
  case stepOff => exact takesFrame_of_buffer (fun _ => rfl) fun _ => buffer_checked fun _ => buffer_answer _ _
  case clearFault => exact takesFrame_of_buffer (fun _ => rfl) fun _ => buffer_settle.trans (buffer_checked buffer_clearFault)
  case readResume => exact takesFrame_of_buffer (fun _ => rfl) fun _ => buffer_checked buffer_readResume
  case linkReset tag x =>
    refine ⟨fun t => settle (checked tag 8 x (linkReset tag) t), fun t => ?_, fun _ => rfl⟩
    rw [buffer_settle]
    unfold checked
    (repeat' split) <;> simp [buffer_linkReset]
  case readStatus => exact takesFrame_of_buffer (fun _ => rfl) fun _ => buffer_readStatus _
  case ackEvents => exact takesFrame_of_buffer (fun _ => rfl) fun _ => buffer_checked buffer_ackEvents
  case setNoticeMask => exact takesFrame_of_buffer (fun _ => rfl) fun _ => buffer_checked fun _ => buffer_answer _ _
  case clearTraps => exact takesFrame_of_buffer (fun _ => rfl) fun _ => buffer_checked fun _ => buffer_answer _ _
  case setSettings => exact takesFrame_of_buffer (fun _ => rfl) fun _ => buffer_settle.trans (buffer_checked buffer_setSettings)
  case readSettings => exact takesFrame_of_buffer (fun _ => rfl) fun _ => buffer_checked fun _ => buffer_answer _ _
  case loadEntryStockWrite => exact takesFrame_of_buffer (fun _ => rfl) fun _ => buffer_checked buffer_writeStock
  case loadEntryStockDelete => exact takesFrame_of_buffer (fun _ => rfl) fun _ => buffer_checked buffer_deleteStock
  case loadEntryPatternWrite => exact takesFrame_of_buffer (fun _ => rfl) fun _ => buffer_checked buffer_writePattern
  case loadEntryPatternEmpty => exact takesFrame_of_buffer (fun _ => rfl) fun _ => buffer_checked buffer_emptyPattern
  case loadEntryTemplateWrite => exact takesFrame_of_buffer (fun _ => rfl) fun _ => buffer_checked buffer_writeTemplate
  case loadEntryTemplateEmpty => exact takesFrame_of_buffer (fun _ => rfl) fun _ => buffer_checked buffer_emptyTemplate
  case loadEntryFee => exact takesFrame_of_buffer (fun _ => rfl) fun _ => buffer_checked buffer_writeFee
  case loadEntryBadSelector => exact takesFrame_of_buffer (fun _ => rfl) fun _ => buffer_checked fun _ => rfl
  case readEntryStock => exact takesFrame_of_buffer (fun _ => rfl) fun _ => buffer_checked buffer_readStock
  case readEntryPattern => exact takesFrame_of_buffer (fun _ => rfl) fun _ => buffer_checked buffer_readPattern
  case readEntryTemplate => exact takesFrame_of_buffer (fun _ => rfl) fun _ => buffer_checked buffer_readTemplate
  case readEntryFee => exact takesFrame_of_buffer (fun _ => rfl) fun _ => buffer_checked buffer_readFee
  case loadRoll => exact takesFrame_of_buffer (fun _ => rfl) fun _ => buffer_settle.trans (buffer_checked buffer_loadRoll)
  case closeRoll => exact takesFrame_of_buffer (fun _ => rfl) fun _ => buffer_settle.trans (buffer_checked buffer_closeRoll)
  case resyncRoll => exact takesFrame_of_buffer (fun _ => rfl) fun _ => buffer_checked buffer_resyncRoll
  case readRollMap => exact takesFrame_of_buffer (fun _ => rfl) fun _ => buffer_checked buffer_readRollMap
  case cancelOrder => exact takesFrame_of_buffer (fun _ => rfl) fun _ => buffer_settle.trans (buffer_checked buffer_cancelOrder)
  case readOrder => exact takesFrame_of_buffer (fun _ => rfl) fun _ => buffer_checked buffer_readOrder
  case discardLabels => exact takesFrame_of_buffer (fun _ => rfl) fun _ => buffer_settle.trans (buffer_checked buffer_discardLabels)
  case openAccount => exact takesFrame_of_buffer (fun _ => rfl) fun _ => buffer_checkedNaming buffer_openAccount
  case readAccount => exact takesFrame_of_buffer (fun _ => rfl) fun _ => buffer_checkedNaming buffer_readAccount
  case setCeiling => exact takesFrame_of_buffer (fun _ => rfl) fun _ => buffer_checkedNaming fun x => buffer_onAccount (buffer_putCeiling x)
  case suspendAccount => exact takesFrame_of_buffer (fun _ => rfl) fun _ => buffer_checkedNaming fun _ => buffer_onAccount fun _ => buffer_answer _ _
  case reopenAccount => exact takesFrame_of_buffer (fun _ => rfl) fun _ => buffer_checkedNaming fun _ => buffer_onAccount fun _ => buffer_answer _ _
  case credit => exact takesFrame_of_buffer (fun _ => rfl) fun _ => buffer_checkedNaming buffer_credit
  case clearCharged => exact takesFrame_of_buffer (fun _ => rfl) fun _ => buffer_checkedNaming buffer_clearCharged
  case deleteAccount => exact takesFrame_of_buffer (fun _ => rfl) fun _ => buffer_checkedNaming fun _ => buffer_onAccount buffer_dropAccount
  case directLoad => exact takesFrame_of_buffer (fun _ => rfl) fun _ => buffer_judgeDirect _ _
  case directReturn => exact takesFrame_of_buffer (fun _ => rfl) fun _ => buffer_judgeDirect _ _
  case directScan => exact takesFrame_of_buffer (fun _ => rfl) fun _ => buffer_judgeDirect _ _
  case directSpot => exact takesFrame_of_buffer (fun _ => rfl) fun _ => buffer_judgeDirect _ _
  case directAdvance => exact takesFrame_of_buffer (fun _ => rfl) fun _ => buffer_judgeDirect _ _
  case directReadCount => exact takesFrame_of_buffer (fun _ => rfl) fun _ => buffer_judgeDirect _ _
  case directTestShutter => exact takesFrame_of_buffer (fun _ => rfl) fun _ => buffer_judgeDirect _ _
  case directPrint => exact takesFrame_of_buffer (fun _ => rfl) fun _ => buffer_judgeDirect _ _
  case directUnknownCommand => exact takesFrame_of_buffer (fun _ => rfl) fun _ => buffer_judgeDirect _ _
  all_goals cases h

/-! ## Every frame reads as a desk command -/

section
open Desk

theorem encodes_orDiscard {α : Type} {cls tag : Byte} {p : Option (Fields α)} {c : Fields α → Instr}
    (h : ∀ x, (encode (c x)).isSome = true) : (encode (orDiscard cls tag p c)).isSome = true := by
  unfold orDiscard
  split
  exacts [h _, rfl]

theorem encodes_decodeLoadEntry (tag : Byte) (l : List Byte) : (encode (decodeLoadEntry tag l)).isSome = true := by
  unfold decodeLoadEntry
  repeat' split
  all_goals try exact encodes_orDiscard fun _ => rfl
  all_goals rfl

theorem encodes_decodeReadEntry (tag : Byte) (l : List Byte) : (encode (decodeReadEntry tag l)).isSome = true := by
  unfold decodeReadEntry
  repeat' split
  all_goals try exact encodes_orDiscard fun _ => rfl
  all_goals rfl

theorem encodes_decodeManage (tag : Byte) (l : List Byte) : (encode (decodeManage tag l)).isSome = true := by
  unfold decodeManage
  repeat' split
  all_goals try exact encodes_orDiscard fun _ => rfl
  exacts [rfl, encodes_decodeLoadEntry _ _, encodes_decodeReadEntry _ _, rfl]

theorem encodes_decodeDirect (tag : Byte) (l : List Byte) : (encode (decodeDirect tag l)).isSome = true := by
  unfold decodeDirect
  repeat' split
  all_goals try exact encodes_orDiscard fun _ => rfl
  all_goals rfl

theorem encodes_decode (f : Frame) : (encode (decode f)).isSome = true := by
  unfold decode
  repeat' split
  exacts [rfl, rfl, encodes_decodeDirect _ _, encodes_decodeManage _ _, rfl]

end

/-- The row of the command that a frame reads as takes the frame. -/
theorem takesFrame_decode (f : Frame) : TakesFrame (Desk.decode f) := by
  obtain ⟨g, hg⟩ := Option.isSome_iff_exists.mp (encodes_decode f)
  exact takesFrame_of_encode hg

theorem exec_eq_execDesk {c : Instr} {f : Frame} (h : Desk.encode c = some f) : exec c s = execDesk c s := by
  cases c <;> cases h <;> rfl

theorem execDesk_decode (f : Frame) : execDesk (Desk.decode f) s = exec (Desk.decode f) s := by
  obtain ⟨g, hg⟩ := Option.isSome_iff_exists.mp (encodes_decode f)
  exact (exec_eq_execDesk hg).symm

/-! ## The frames that wait -/

theorem entryFree_iff {l : Link} : l.entryFree = true ↔ l.replies.length + l.reserved < 8 := decide_eq_true_iff

theorem taken_full {c : Instr} (h : 8 ≤ s.link.replies.length + s.link.reserved) : taken c s = none := by
  unfold taken
  rw [if_neg]
  rw [entryFree_iff]
  omega

theorem taken_head {f : Frame} {rest : List Frame} (hb : s.link.buffer = f :: rest)
    (he : s.link.replies.length + s.link.reserved < 8) :
    taken (Desk.decode f) s = some (s.setLink { s.link with buffer := rest }) := by
  unfold taken
  rw [if_pos (entryFree_iff.mpr he), hb]
  simp

theorem taken_empty {c : Instr} (hb : s.link.buffer = []) (he : s.link.replies.length + s.link.reserved < 8) :
    taken c s = some s := by
  unfold taken
  rw [if_pos (entryFree_iff.mpr he), hb]

theorem takeWaiting_idle (n : Nat) (h : s.link.buffer = [] ∨ 8 ≤ s.link.replies.length + s.link.reserved) :
    takeWaiting n s = s := by
  cases n with
  | zero => rfl
  | succ n =>
    unfold takeWaiting
    split
    · rfl
    · next f rest hb =>
      rw [if_neg]
      rw [entryFree_iff]
      obtain h | h := h
      · simp [hb] at h
      · omega

theorem takeWaiting_head {f : Frame} {rest : List Frame} (n : Nat) (hb : s.link.buffer = f :: rest)
    (he : s.link.replies.length + s.link.reserved < 8) (ht : exec (Desk.decode f) s = .next t) :
    takeWaiting (n + 1) s = takeWaiting n t ∧ t.link.buffer.length ≤ rest.length := by
  refine ⟨?_, ?_⟩
  · rw [takeWaiting, hb]
    simp only [entryFree_iff.mpr he, ↓reduceIte, execDesk_decode, ht]
    rfl
  · obtain ⟨act, hact, hexec⟩ := takesFrame_decode f
    rw [hexec s, takeFrame_taken (taken_head hb he)] at ht
    rw [← Host.Outcome.next.inj ht]
    exact hact _

/-- With as much fuel as frames wait, the taking ends with none waiting or no entry free. -/
theorem takeWaiting_ends (n : Nat) (h : s.link.buffer.length ≤ n) : (takeWaiting n s).link.buffer = [] ∨
    8 ≤ (takeWaiting n s).link.replies.length + (takeWaiting n s).link.reserved := by
  induction n generalizing s with
  | zero => exact .inl (List.length_eq_zero_iff.mp (Nat.le_zero.mp h))
  | succ n ih =>
    rcases hb : s.link.buffer with _ | ⟨f, rest⟩
    · exact .inl (by rw [takeWaiting_idle _ (.inl hb), hb])
    · by_cases he : s.link.replies.length + s.link.reserved < 8
      · obtain ⟨act, -, hexec⟩ := takesFrame_decode f
        obtain ⟨heq, hlen⟩ := takeWaiting_head n hb he (hexec s)
        rw [heq]
        refine ih (hlen.trans ?_)
        rw [hb] at h
        simpa using h
      · exact .inr (by rw [takeWaiting_idle _ (.inr (Nat.le_of_not_lt he))]; omega)

/-- Settles O14: each clause from the equations of the taking; that it ends by induction on the frames that wait. -/
theorem framesAreTakenInTurn : Obligations.FramesAreTakenInTurn := by
  refine ⟨fun c f s hc hfull => ?_, fun x f s hb he hx => ?_, fun b s => ?_, fun n s => ⟨takeWaiting_idle n, ?_⟩,
    fun s => takeWaiting_ends 4⟩
  · obtain ⟨act, -, hexec⟩ := takesFrame_of_encode hc
    rw [hexec, takeFrame_waits (taken_full hfull), bufferFrame, hc]
    rfl
  · obtain ⟨act, hact, hexec⟩ := takesFrame_decode f
    have hempty : ({ s.link with receiver := .hunt, buffer := [] } : Link) = { s.link with receiver := .hunt } := by
      rw [← hb]
    set u := s.setLink { s.link with receiver := .hunt, buffer := [f] } with hu
    have hu1 : exec (Desk.decode f) u = .next (act (s.setLink { s.link with receiver := .hunt })) := by
      rw [hexec u, takeFrame_taken (taken_head (s := u) (rest := []) rfl he), ← hempty]
      rfl
    have hw : taken (Desk.decode f) (s.setLink { s.link with receiver := .hunt }) =
        some (s.setLink { s.link with receiver := .hunt }) := taken_empty hb he
    obtain ⟨heq, hlen⟩ := takeWaiting_head (s := u) (f := f) (rest := []) 3 rfl he hu1
    show Host.Outcome.next (testTaking s (s.setLink (s.link.receive x))) = _
    rw [hx, hexec _, takeFrame_taken hw, testTaking, if_pos (.inl (by simp [hb])), ← hu]
    rw [show takeWaiting Config.bufferCapacity u = _ from heq, takeWaiting_idle 3 (.inl (by simpa using hlen))]
  · intro joined freed
    exact ⟨fun h => if_pos h, fun hj hf => if_neg (not_or.mpr ⟨hj, hf⟩)⟩
  · intro f rest t hb he ht
    exact takeWaiting_head n hb he ht

end Sys2Proof.Machine
end


section
/-!
O53: the completions of LOAD and RETURN, and the phases of a visit from LOADING to its close.
-/

namespace Sys2Proof.Machine

variable {s : State} {v : Visit}

/-! ## Orders that end together (R8, R37) -/

/-- The record of an order after the ending of those numbered in a list. -/
def endedAmong (kind : EndKind) (ns : List Nat) (o : Order) : Order :=
  if o.number ∈ ns ∧ o.state ≠ .ending then Order.ended kind (Order.settledAt (settledAmount o) o) else o

theorem number_endedAmong (kind : EndKind) (ns : List Nat) (o : Order) : (endedAmong kind ns o).number = o.number := by
  unfold endedAmong; split <;> rfl

theorem order?_of_mem (hn : (s.queue.orders.map (fun o => o.number)).Nodup) {o : Order} (ho : o ∈ s.queue.orders) :
    s.order? o.number = some o := by
  obtain ⟨p, hp⟩ : ∃ p, s.order? o.number = some p :=
    Option.isSome_iff_exists.mp (List.find?_isSome.mpr ⟨o, ho, by simp⟩)
  obtain ⟨hmem, hno⟩ := mem_of_order? hp
  rw [hp, List.inj_on_of_nodup_map hn hmem ho hno]

theorem endOrder_orders (kind : EndKind) (n : Nat) (hn : (s.queue.orders.map (fun o => o.number)).Nodup) :
    (endOrder kind n s).queue.orders = s.queue.orders.map (endedAmong kind [n]) := by
  rcases h : s.live? n with _ | o
  · rw [endOrder_of_none kind h]
    refine ((List.map_congr_left fun p hp => ?_).trans (List.map_id _)).symm
    refine if_neg fun ⟨hpn, hlive⟩ => ?_
    have := live?_of_live (order?_of_mem hn hp) hlive
    rw [List.mem_singleton.mp hpn, h] at this
    cases this
  · obtain ⟨ho, hlive⟩ := live?_eq_some.mp h
    have hq : (endOrder kind n s).queue.orders = s.queue.orders.map (fun p => if p.number = n then
        Order.ended kind (Order.settledAt (settledAmount o) p) else p) := by
      rw [endOrder_of_live kind ho hlive]
      simp only [updOrder, tick_frame, State.setQueue_queue, List.map_map]
      refine List.map_congr_left fun p _ => ?_
      simp only [Function.comp_apply]
      split
      · next hp => exact if_pos hp
      · rfl
    rw [hq]
    refine List.map_congr_left fun p hp => ?_
    unfold endedAmong
    by_cases hpn : p.number = n
    · obtain rfl : p = o := by
        have := order?_of_mem hn hp
        rw [hpn, ho] at this
        exact (Option.some.inj this).symm
      simp [hpn, hlive]
    · simp [hpn]

theorem endOrders_orders (kind : EndKind) (ns : List Nat) (hn : (s.queue.orders.map (fun o => o.number)).Nodup) :
    (endOrders kind ns s).queue.orders = s.queue.orders.map (endedAmong kind ns) := by
  induction ns generalizing s with
  | nil => exact ((List.map_congr_left fun p _ => if_neg (by simp)).trans (List.map_id _)).symm
  | cons n ns ih =>
    have hq := endOrder_orders kind n hn
    have hn1 : ((endOrder kind n s).queue.orders.map (fun o => o.number)).Nodup := by
      rw [hq, List.map_map]
      simpa only [Function.comp_def, number_endedAmong] using hn
    rw [show endOrders kind (n :: ns) s = endOrders kind ns (endOrder kind n s) from rfl, ih hn1, hq, List.map_map]
    refine List.map_congr_left fun p _ => ?_
    by_cases hp : p.number = n <;> by_cases hlive : p.state = .ending <;>
      simp [endedAmong, hp, hlive, Order.ended, Order.settledAt]

/-- The ending list after the ending of live orders, each named once. -/
theorem endOrders_endingNumbers (kind : EndKind) {ns : List Nat} (hns : ns.Nodup)
    (hlive : ∀ n ∈ ns, (s.live? n).isSome = true) : (endOrders kind ns s).queue.ending.map (fun e => e.number) =
      s.queue.ending.map (fun e => e.number) ++ ns := by
  induction ns generalizing s with
  | nil => simp [endOrders]
  | cons n ns ih =>
    obtain ⟨hnot, hns'⟩ := List.nodup_cons.mp hns
    obtain ⟨o, ho⟩ := Option.isSome_iff_exists.mp (hlive n (by simp))
    obtain ⟨hf, hl⟩ := live?_eq_some.mp ho
    rw [show endOrders kind (n :: ns) s = endOrders kind ns (endOrder kind n s) from rfl, ih hns', endOrder_ending kind hf hl]
    · simp [endingEntry]
    · intro m hm
      have hne : m ≠ n := fun h => hnot (h ▸ hm)
      rw [State.live?, endOrder_order? kind hf hl, if_neg hne]
      exact hlive m (by simp [hm])

/-- Of the gate the ending of an order changes the visit alone; of the link, the clock; of the house account nothing. -/
theorem endOrder_leaves (kind : EndKind) (n : Nat) : (endOrder kind n s).events = s.events ∧
    (endOrder kind n s).gate = { s.gate with visit := (endOrder kind n s).gate.visit } ∧
    (endOrder kind n s).link = { s.link with clock := (endOrder kind n s).link.clock } ∧
    (endOrder kind n s).charge.house = s.charge.house := by
  rcases h : s.live? n with _ | o
  · rw [endOrder_of_none kind h]
    exact ⟨rfl, rfl, rfl, rfl⟩
  · obtain ⟨ho, hlive⟩ := live?_eq_some.mp h
    rw [endOrder_of_live kind ho hlive]
    exact ⟨rfl, rfl, rfl, rfl⟩

theorem endOrders_leaves (kind : EndKind) (ns : List Nat) : (endOrders kind ns s).events = s.events ∧
    (endOrders kind ns s).gate = { s.gate with visit := (endOrders kind ns s).gate.visit } ∧
    (endOrders kind ns s).link = { s.link with clock := (endOrders kind ns s).link.clock } ∧
    (endOrders kind ns s).charge.house = s.charge.house := by
  induction ns generalizing s with
  | nil => exact ⟨rfl, rfl, rfl, rfl⟩
  | cons n ns ih =>
    obtain ⟨he, hg, hl, hh⟩ := ih (s := endOrder kind n s)
    obtain ⟨he1, hg1, hl1, hh1⟩ := endOrder_leaves (s := s) kind n
    rw [show endOrders kind (n :: ns) s = endOrders kind ns (endOrder kind n s) from rfl]
    exact ⟨he.trans he1, hg.trans (by rw [hg1]), hl.trans (by rw [hl1]), hh.trans hh1⟩

/-! ## The close of a visit (R37) -/

/-- The orders with which a visit is closed, by whether work remains of them. -/
theorem mem_membersWith (hn : (s.queue.orders.map (fun o => o.number)).Nodup) {w : Bool} {o : Order}
    (ho : o ∈ s.queue.orders) : o.number ∈ membersWith w v s ↔
      o.state ≠ .ending ∧ (v.members.any fun m => m.order == o.number) = true ∧ o.workRemaining = w := by
  unfold membersWith
  rw [List.mem_map]
  constructor
  · rintro ⟨p, hp, hpn⟩
    obtain ⟨hmem, h⟩ := List.mem_filter.mp hp
    rw [List.inj_on_of_nodup_map hn hmem ho hpn] at h
    simpa [Order.live, and_assoc] using h
  · intro h
    exact ⟨o, List.mem_filter.mpr ⟨ho, by simpa [Order.live, and_assoc] using h⟩, rfl⟩

theorem nodup_membersWith (hn : (s.queue.orders.map (fun o => o.number)).Nodup) (w : Bool) :
    (membersWith w v s).Nodup := hn.sublist (List.filter_sublist.map _)

/-- The members of a closing visit with work are QUEUED again, the others are ENDING (R37). -/
def closedOrder (v : Visit) (o : Order) : Order :=
  let member := o.state != .ending && v.members.any (fun m => m.order == o.number)
  if member && o.workRemaining then { o with state := .queued }
  else if member then Order.ended .done (Order.settledAt (settledAmount o) o)
  else o

theorem endVisit_eq (hv : s.gate.visit = some v) : endVisit s =
    setLabelWait false ((endOrders .done (membersWith false v s) (requeue (membersWith true v s) s)).setGate
      { s.gate with visit := none, resume := none }) := by
  obtain ⟨-, hg, -⟩ := endOrders_leaves (s := requeue (membersWith true v s) s) .done (membersWith false v s)
  simp only [endVisit, hv]
  rw [hg]
  simp

theorem nodup_requeued (hn : (s.queue.orders.map (fun o => o.number)).Nodup) :
    ((requeue (membersWith true v s) s).queue.orders.map (fun o => o.number)).Nodup := by
  rw [requeue_eq, State.setQueue_queue, List.map_map]
  refine (List.map_congr_left fun o _ => ?_) ▸ hn
  simp only [Function.comp_apply]
  split <;> rfl

theorem endVisit_orders (hv : s.gate.visit = some v) (hn : (s.queue.orders.map (fun o => o.number)).Nodup) :
    (endVisit s).queue.orders = s.queue.orders.map (closedOrder v) := by
  have hq := requeue_eq (u := s) (membersWith true v s)
  have hn1 := nodup_requeued (v := v) hn
  rw [endVisit_eq hv]
  show (endOrders _ _ _).queue.orders = _
  rw [endOrders_orders _ _ hn1, hq, State.setQueue_queue, List.map_map]
  refine List.map_congr_left fun o ho => ?_
  have h0 := mem_membersWith (v := v) (w := false) hn ho
  have h1 := mem_membersWith (v := v) (w := true) hn ho
  simp only [Function.comp_apply, closedOrder, endedAmong]
  by_cases hlive : o.state = .ending
  · simp [h0, h1, hlive]
  · by_cases hm : (v.members.any fun m => m.order == o.number) = true <;> cases hw : o.workRemaining <;>
      simp [h0, h1, hlive, hm, hw, bne_iff_ne.mpr hlive]

theorem endVisit_endingNumbers (hv : s.gate.visit = some v) (hn : (s.queue.orders.map (fun o => o.number)).Nodup) :
    (endVisit s).queue.ending.map (fun e => e.number) =
      s.queue.ending.map (fun e => e.number) ++ membersWith false v s := by
  have hq := requeue_eq (u := s) (membersWith true v s)
  have hn1 := nodup_requeued (v := v) hn
  rw [endVisit_eq hv]
  show (endOrders _ _ _).queue.ending.map _ = _
  rw [endOrders_endingNumbers _ (nodup_membersWith hn _), hq]
  · rfl
  · intro n hmem
    obtain ⟨o, ho, rfl⟩ := List.mem_map.mp hmem
    obtain ⟨hin, hlive⟩ := List.mem_filter.mp ho
    let o' : Order := if o.number ∈ membersWith true v s then { o with state := .queued } else o
    have hin' : o' ∈ (requeue (membersWith true v s) s).queue.orders := by
      rw [hq]
      exact List.mem_map_of_mem hin
    have hno : o'.number = o.number := by unfold o'; split <;> rfl
    have hst : o'.state ≠ .ending := by
      unfold o'
      split
      · nofun
      · exact ((mem_membersWith hn hin).mp hmem).1
    rw [← hno, live?_of_live (order?_of_mem hn1 hin') hst]
    rfl

/-! ## Densities written (R52, R54) -/

/-- An order with its density written from a zone table. -/
def withDensity (zones : List Zone) (o : Order) : Order := { o with density := some (effectiveDensity o zones) }

/-- Writing the densities of the orders numbered in a list, each as often as it stands there. -/
theorem foldl_withDensity (zones : List Zone) (ns : List Nat) :
    ns.foldl (fun t n => updOrder n (withDensity zones) t) s = s.setQueue { s.queue with
      orders := s.queue.orders.map (fun o => if o.number ∈ ns then withDensity zones o else o) } := by
  induction ns generalizing s with
  | nil => simp; rfl
  | cons n ns ih =>
    rw [List.foldl_cons, ih]
    simp only [updOrder, State.setQueue_queue, State.setQueue_twice, List.map_map]
    refine congrArg s.setQueue (congrArg (fun l => ({ s.queue with orders := l } : Queue)) (List.map_congr_left fun o _ => ?_))
    by_cases hn : o.number = n <;> by_cases hm : o.number ∈ ns <;>
      simp [hn, hm, withDensity, effectiveDensity]

theorem writeFixedDensities_eq (hv : s.gate.visit = some v) : writeFixedDensities s = s.setQueue { s.queue with
    orders := s.queue.orders.map (fun o => if o.number ∈ v.members.map (fun m => m.order) then withDensity [] o else o) } := by
  rw [← foldl_withDensity, List.foldl_map, writeFixedDensities, hv]
  rfl

theorem writeDensities_eq (hv : s.gate.visit = some v) : writeDensities s = s.setQueue { s.queue with
    orders := s.queue.orders.map
      (fun o => if o.number ∈ v.members.map (fun m => m.order) then withDensity v.zones o else o) } := by
  rw [← foldl_withDensity, writeDensities, memberNumbers, zoneTable, hv]
  rfl

/-! ## LOAD and RETURN (R28, R36) -/

theorem resetting_iff : s.resetting = true ↔ s.gate.engine = .resetting := by simp [State.resetting]

theorem resetting_of_not (h : s.gate.engine ≠ .resetting) : s.resetting = false := by simp [State.resetting, h]

theorem gateJam_eq (h : s.gate.engine ≠ .resetting) : gateJam s = raiseFault (visitFault s .gateJam .feeder) s := by
  simp [gateJam, resetting_of_not h]

theorem allFixed_iff : allFixed s v = true ↔ ∀ m ∈ v.members, ∀ o, s.order? m.order = some o → o.mode = .fixed := by
  simp [allFixed, Option.all_eq_true]

/-- The visit with its slide in the gate. -/
theorem afterLoad_eq (hv : s.gate.visit = some v) (h : s.gate.engine ≠ .resetting) : afterLoad s =
    let loaded := s.setGate { s.gate with visit := some { v with slide := true } }
    if v.members.isEmpty || v.release then enterReturning loaded
    else if allFixed s v then enterExposing (writeFixedDensities loaded)
    else enterMetering loaded := by
  have hs1 : updVisit (fun v => { v with slide := true }) s = s.setGate { s.gate with visit := some { v with slide := true } } :=
    updVisit_some hv
  simp only [afterLoad, hs1, State.setGate_gate]
  rw [if_neg (by simpa [State.resetting] using h)]
  rfl

/-! ## The phases of a visit (R29, R34 to R36) -/

theorem enterMetering_cases (hv : s.gate.visit = some v) : enterMetering s =
    let now := s.setGate { s.gate with visit := some { v with state := .metering } }
    if s.present .meter then if v.held then now else beginMetering now
    else raiseFault { lostFor v .meter with visit := some .metering } now := by
  have hs1 : updVisit (fun v => { v with state := .metering }) s =
    s.setGate { s.gate with visit := some { v with state := .metering } } := updVisit_some hv
  simp only [enterMetering, hs1]
  rw [visitFault_unitLost (v := { v with state := .metering }) rfl]
  show (if (!s.present .meter) = true then _ else _) = _
  cases s.present .meter <;> rfl

theorem enterReturning_eq (hv : s.gate.visit = some v) : enterReturning s =
    let quiet := (s.setGate { s.gate with visit := some { v with state := .returning } }).setLabels
      { s.labels with labelWait := false }
    if !v.slide then closeVisit quiet else if v.held then quiet else sendReturn quiet := by
  have hs1 : updVisit (fun v => { v with state := .returning }) s =
    s.setGate { s.gate with visit := some { v with state := .returning } } := updVisit_some hv
  simp only [enterReturning, hs1, hv]
  rfl

/-- Settles O53. -/
theorem feederCompletionsAndPhases : Obligations.FeederCompletionsAndPhases := by
  refine ⟨fun x o s ho hx hi hr => ?completions, fun v s hv hr => ?loaded, fun v s hv => ?phases,
    fun v s hv hn => ?close, fun s => closeVisit_none s⟩
  case completions =>
    intro t
    have ht : t.gate = s.gate := by simp [t]
    have hrt : t.gate.engine ≠ .resetting := by rwa [ht]
    refine ⟨fun hname => ⟨?_, ?_, ?_⟩, fun hname => ⟨?_, ?_⟩⟩
    · exact completion_matched ho hx (isFor_iff.mpr ⟨hname, hi⟩)
    · refine (completion_matched ho hx (isFor_iff.mpr ⟨hname, hi⟩)).trans ?_
      show Host.Outcome.next (settle (sendNext .feeder (emptyLoad t))) = _
      rw [emptyLoad, if_neg (by simpa [State.resetting] using hrt), memberNumbers, ht]
      cases s.gate.visit <;> rfl
    · refine (completion_matched ho hx (isFor_iff.mpr ⟨hname, hi⟩)).trans ?_
      show Host.Outcome.next (settle (sendNext .feeder (gateJam t))) = _
      rw [gateJam_eq hrt]
    · refine (completion_matched ho hx (isFor_iff.mpr ⟨hname, hi⟩)).trans ?_
      show Host.Outcome.next (settle (sendNext .feeder (returnDone .ok t))) = _
      simp only [returnDone]
      rw [if_neg (by simpa [State.resetting] using hrt)]
    · refine (completion_matched ho hx (isFor_iff.mpr ⟨hname, hi⟩)).trans ?_
      show Host.Outcome.next (settle (sendNext .feeder (gateJam t))) = _
      rw [gateJam_eq hrt]
  case loaded =>
    intro loaded fixed
    have heq := afterLoad_eq hv hr
    refine ⟨fun h => ?_, fun hm hrel hf => ?_, fun hm hrel hf => ?_⟩
    · rw [heq]
      exact if_pos (by simpa using h)
    · rw [heq]
      dsimp only
      rw [if_neg (by simp [hm, hrel]), if_neg (mt allFixed_iff.mp hf)]
    · refine ⟨s.queue.orders.map (fun o =>
        if o.number ∈ v.members.map (fun m => m.order) then withDensity [] o else o), ?_, ?_, ?_⟩
      · rw [heq]
        dsimp only
        rw [if_neg (by simp [hm, hrel]), if_pos (allFixed_iff.mpr hf),
          writeFixedDensities_eq (v := { v with slide := true }) rfl]
        rfl
      · simp
      · intro i o ho
        rw [List.getElem?_map, ho]
        refine ⟨fun h => ?_, fun d ⟨m, hmem, hmo⟩ hmode hd => ?_⟩
        · refine congrArg some (if_neg fun hin => ?_)
          obtain ⟨m, hmem, hmo⟩ := List.mem_map.mp hin
          exact h m hmem hmo
        · refine congrArg some ((if_pos (List.mem_map.mpr ⟨m, hmem, hmo⟩)).trans ?_)
          simp [withDensity, effectiveDensity, hmode, hd]
  case phases =>
    intro now quiet lost
    have hmeter := enterMetering_cases hv
    have hreturn := enterReturning_eq hv
    have hsend : sendReturn (quiet (now .returning)) = _ := sendReturn_eq (v := { v with state := .returning }) rfl
    have hpresent : (quiet (now .returning)).present .feeder = s.present .feeder := rfl
    refine ⟨fun hp => ?_, fun hp hh => ?_, fun hp hh => ?_, ?_, ⟨fun h => ?_, fun h => ?_⟩, fun hs => ?_, fun hs hh => ?_,
      fun hs hh hp => ?_, fun hs hh hp => ?_⟩
    · exact hmeter.trans (if_neg (by simp [hp]))
    · exact hmeter.trans ((if_pos hp).trans (if_pos hh))
    · exact hmeter.trans ((if_pos hp).trans (if_neg (by simp [hh])))
    · rw [enterExposing, updVisit_some hv]
      rfl
    · refine testReturning_of_leaves hv (leavesExposing_iff.mpr ?_)
      obtain ⟨h1, h2, h3, h4, h5⟩ := h
      exact ⟨h1, h2, h3, h4, h5.imp_left fun h => by simp [h]⟩
    · refine testReturning_of_stays hv (mt leavesExposing_iff.mp fun h' => h ?_)
      obtain ⟨h1, h2, h3, h4, h5⟩ := h'
      exact ⟨h1, h2, h3, h4, h5.imp_left fun ⟨ha, hb⟩ => congrArg₂ PerBack.mk ha hb⟩
    · exact hreturn.trans (if_pos (by simp [hs]))
    · exact hreturn.trans ((if_neg (by simp [hs])).trans (if_pos hh))
    · exact hreturn.trans ((if_neg (by simp [hs])).trans ((if_neg (by simp [hh])).trans
        (hsend.trans (if_pos (hpresent.trans hp)))))
    · exact hreturn.trans ((if_neg (by simp [hs])).trans ((if_neg (by simp [hh])).trans
        (hsend.trans (if_neg (by simp [hpresent, hp])))))
  case close =>
    intro t member work
    have heq := endVisit_eq hv
    set u := endOrders .done (membersWith false v s) (requeue (membersWith true v s) s) with hu
    obtain ⟨he, -, hl, -⟩ := endOrders_leaves (s := requeue (membersWith true v s) s) .done (membersWith false v s)
    rw [← hu] at he hl
    obtain ⟨-, -, htimer, hrolls, hbus, -⟩ := endVisit_frame s
    refine ⟨by rw [show t = _ from heq]; simp, by rw [show t = _ from heq]; simp [setLabelWait, hu], ?_, ?_,
      by rw [show t = _ from heq]; simp [he], htimer, hrolls, hbus, by rw [show t = _ from heq]; simpa using congrArg Link.reports hl,
      closeVisit_some s hv⟩
    · exact endVisit_orders hv hn
    · rw [endVisit_endingNumbers hv hn]
      refine congrArg _ (congrArg _ (List.filter_congr fun o _ => ?_))
      simp only [Order.live, member, work, Order.workRemaining, beq_false]

end Sys2Proof.Machine
end


section
/-!
O54: the completions of SCAN and SPOT, the zones to re-read, and the judging of the members.
-/

namespace Sys2Proof.Machine

variable {s t : State} {v : Visit} {n m : Nat}

/-! ## Zone tables (R48 to R50) -/

theorem scanZone_density (d : Nat) : scanZone (.density d) = if d ≤ 400 then .ok d else .over := rfl

theorem failedZones_from (zones : List Zone) (i : Nat) :
    ((zones.zipIdx i).filter (fun z => z.1.isFailed)).map (fun z => z.2) =
      (List.range' i zones.length).filter (fun z => zones[z - i]? == some .failed) := by
  induction zones generalizing i with
  | nil => rfl
  | cons z zones ih =>
    have htail : (List.range' (i + 1) zones.length).filter (fun j => (z :: zones)[j - i]? == some Zone.failed) =
        (List.range' (i + 1) zones.length).filter (fun j => zones[j - (i + 1)]? == some Zone.failed) := by
      refine List.filter_congr fun j hj => ?_
      obtain ⟨hlo, -⟩ := List.mem_range'_1.mp hj
      rw [show j - i = j - (i + 1) + 1 by omega, List.getElem?_cons_succ]
    rw [List.zipIdx_cons, List.length_cons, List.range'_succ, List.filter_cons, List.filter_cons, htail, ← ih]
    cases h : z.isFailed <;> simp_all [Zone.isFailed]

theorem length_failedZones (zones : List Zone) : (failedZones zones).length = failedCount zones := by
  have hfst (i : Nat) : ((zones.zipIdx i).filter (fun z => z.1.isFailed)).length = (zones.filter Zone.isFailed).length := by
    induction zones generalizing i with
    | nil => rfl
    | cons z zones ih => cases h : z.isFailed <;> simp [h, ih]
  rw [failedZones, List.length_map, hfst, failedCount]

theorem length_rereadsOf (zones : List Zone) : (rereadsOf zones).length ≤ 3 := by
  unfold rereadsOf
  split
  · next h => rwa [length_failedZones]
  · simp

theorem rereadsOf_nine {zones : List Zone} (h : zones.length = 9) :
    let bad := [1, 2, 3, 4, 5, 6, 7, 8, 9].filter (fun z => zones[z - 1]? == some .failed)
    rereadsOf zones = if bad.length ≤ 3 then bad else [] := by
  have hbad : failedZones zones = [1, 2, 3, 4, 5, 6, 7, 8, 9].filter (fun z => zones[z - 1]? == some .failed) := by
    rw [failedZones, failedZones_from, h]
    rfl
  intro bad
  rw [rereadsOf, ← length_failedZones, hbad]

/-! ## Members that fail leave the visit (R29, R162) -/

/-- An ending names ENDING orders alone. -/
def EndingNamed (s : State) : Prop := ∀ e ∈ s.queue.ending, ∀ o ∈ s.queue.orders, o.number = e.number → o.state = .ending

theorem RecordsAgree.endingNamed (h : RecordsAgree s) : EndingNamed s := by
  obtain ⟨-, -, -, hstate, -⟩ := h
  exact fun e he o ho hn => (hstate o ho).mpr (hn ▸ List.mem_map_of_mem he)

theorem EndingNamed.endOrder (h : EndingNamed s) (kind : EndKind) (n : Nat) : EndingNamed (endOrder kind n s) := by
  rcases hn : s.live? n with _ | o
  · rwa [endOrder_of_none kind hn]
  · obtain ⟨ho, hlive⟩ := live?_eq_some.mp hn
    intro e he p hp hpe
    rw [endOrder_ending kind ho hlive, List.mem_append, List.mem_singleton] at he
    obtain ⟨q, hq, hq1, hq2⟩ : ∃ q ∈ s.queue.orders, q.number = p.number ∧
        (p.state = .ending ∨ p.state = q.state ∧ q.number ≠ n) := by
      rw [endOrder_of_live kind ho hlive] at hp
      simp only [updOrder, tick_frame, State.setQueue_queue, List.mem_map] at hp
      obtain ⟨p1, ⟨p2, hp2, rfl⟩, rfl⟩ := hp
      refine ⟨p2, hp2, ?_⟩
      by_cases h2 : p2.number = n <;> simp [h2, Order.settledAt, Order.ended]
    obtain hq2 | ⟨hst, hne⟩ := hq2
    · exact hq2
    · obtain he | rfl := he
      · rw [hst]
        exact h e he q hq (hq1.trans hpe)
      · exact absurd (hq1.trans hpe) hne

theorem EndingNamed.takeOffer (h : EndingNamed s) {x : Offer} (hx : x ∈ offers s) : EndingNamed (takeOffer x s) := by
  obtain ⟨e, -, rfl⟩ | ⟨k, i, r, -, rfl⟩ := mem_offers.mp hx
  · intro d hd p hp
    simp only [Machine.takeOffer, enterReport, arbiter_frame, State.setLink_queue, State.setQueue_queue] at hd hp
    exact h d (List.mem_of_mem_tail hd) p (List.mem_of_mem_filter hp)
  · intro d hd p hp
    simp only [Machine.takeOffer, enterReport, arbiter_frame, State.setLink_queue, updRoll_frame] at hd hp
    exact h d hd p hp

/-- The taking of a report leaves the orders not ENDING. -/
theorem live?_takeOffer (h : EndingNamed s) {x : Offer} (hx : x ∈ offers s) {o : Order} (ho : s.live? m = some o) :
    (takeOffer x s).live? m = some o := by
  obtain ⟨hm, hlive⟩ := live?_eq_some.mp ho
  obtain ⟨hmem, hno⟩ := mem_of_order? hm
  obtain ⟨e, he, rfl⟩ | ⟨k, i, r, -, rfl⟩ := mem_offers.mp hx
  · refine live?_of_live ?_ hlive
    have hne : m ≠ e.number := fun hme => hlive (h e (List.mem_of_mem_head? he) o hmem (hno.trans hme))
    have hq : (takeOffer (.order e) s).queue.orders = s.queue.orders.filter (fun p => p.number != e.number) := by
      simp [takeOffer, enterReport]
    have hp (p : Order) : decide ((p.number != e.number) = true ∧ (p.number == m) = true) = (p.number == m) := by
      by_cases hpm : p.number = m <;> simp [hpm, hne]
    rw [State.order?, hq, List.find?_filter, funext hp]
    exact hm
  · rwa [State.live?, order?_congr (t := s) (by simp [takeOffer, enterReport])]

theorem drainFuel_keeps_live (i : Nat) (h : EndingNamed s) : EndingNamed (drainFuel i s) ∧
    ∀ m o, s.live? m = some o → (drainFuel i s).live? m = some o := by
  induction i generalizing s with
  | zero => exact ⟨h, fun _ _ => id⟩
  | succ i ih =>
    unfold drainFuel
    split
    · split
      · exact ⟨h, fun _ _ => id⟩
      · next x hx =>
        have hmem := earliest_mem hx
        obtain ⟨h1, h2⟩ := ih (h.takeOffer hmem)
        exact ⟨h1, fun m o ho => h2 m o (live?_takeOffer h hmem ho)⟩
    · exact ⟨h, fun _ _ => id⟩

/-- A class B fault of one order leaves the other orders that are not ENDING. -/
theorem failOrder_keeps_live (kind : ClassB) (h : EndingNamed s) : EndingNamed (failOrder kind n s) ∧
    ∀ m o, m ≠ n → s.live? m = some o → (failOrder kind n s).live? m = some o := by
  obtain ⟨-, he⟩ | ⟨p, hp, he⟩ := failOrder_cases (s := s) kind n
  · rw [he]
    exact ⟨h, fun _ _ _ => id⟩
  · obtain ⟨hf, hlive⟩ := live?_eq_some.mp hp
    obtain ⟨h1, h2⟩ := drainFuel_keeps_live (Config.reportCapacity + 1 - (endOrder (.faulted kind) n s).link.reports.length)
      (h.endOrder (.faulted kind) n)
    have hq : (failOrder kind n s).queue = (drainReports (endOrder (.faulted kind) n s)).queue := by rw [he]; simp
    refine ⟨?_, fun m o hne ho => ?_⟩
    · unfold EndingNamed
      rw [hq]
      exact h1
    · rw [State.live?, order?_congr hq]
      refine h2 m o ?_
      rw [State.live?, endOrder_order? _ hf hlive, if_neg hne]
      exact ho

/-- What the ending of members leaves of the visit. -/
structure VisitLeft (v w : Visit) : Prop where
  metering : w.metering = v.metering
  zones : w.zones = v.zones
  release : w.release = v.release

theorem failOrder_visit (kind : ClassB) (n : Nat) (hv : s.gate.visit = some v) :
    ∃ w, (failOrder kind n s).gate.visit = some w ∧ VisitLeft v w ∧
      (((s.live? n).isSome = true ∨ ∀ m ∈ v.members, m.order ≠ n) →
        w.members = v.members.filter (fun m => m.order != n)) := by
  obtain ⟨hn, he⟩ | ⟨p, hp, he⟩ := failOrder_cases (s := s) kind n
  · rw [he]
    refine ⟨v, hv, ⟨rfl, rfl, rfl⟩, fun h => (List.filter_eq_self.mpr fun m hm => ?_).symm⟩
    simpa [hn] using h.resolve_left (by simp [hn]) m hm
  · obtain ⟨hf, hlive⟩ := live?_eq_some.mp hp
    refine ⟨{ v with
      members := v.members.filter (fun m => m.order != n)
      lists := ⟨v.lists.a.filter (fun w => w.order != n), v.lists.b.filter (fun w => w.order != n)⟩ }, ?_,
      ⟨rfl, rfl, rfl⟩, fun _ => rfl⟩
    rw [he]
    simp [endOrder_visit _ hf hlive, hv]

theorem failOrders_visit (kind : ClassB) (ns : List Nat) (hv : s.gate.visit = some v) :
    ∃ w, (failOrders kind ns s).gate.visit = some w ∧ VisitLeft v w ∧ (EndingNamed s →
      (∀ n ∈ ns, (s.live? n).isSome = true ∨ ∀ m ∈ v.members, m.order ≠ n) →
        w.members = v.members.filter (fun m => m.order ∉ ns) ∧
        ∀ m o, m ∉ ns → s.live? m = some o → (failOrders kind ns s).live? m = some o) := by
  induction ns generalizing s v with
  | nil => exact ⟨v, hv, ⟨rfl, rfl, rfl⟩, fun _ _ => ⟨by simp, fun _ _ _ h => h⟩⟩
  | cons n ns ih =>
    obtain ⟨w1, hw1, hleft1, hmem1⟩ := failOrder_visit kind n hv
    obtain ⟨w, hw, hleft, hrest⟩ := ih hw1
    refine ⟨w, hw, ⟨hleft.metering.trans hleft1.metering, hleft.zones.trans hleft1.zones,
      hleft.release.trans hleft1.release⟩, fun hnamed hall => ?_⟩
    obtain ⟨hnamed1, hkept⟩ := failOrder_keeps_live (n := n) kind hnamed
    have hm1 := hmem1 (hall n (by simp))
    obtain ⟨hm, hlive⟩ := hrest hnamed1 fun i hi => by
      by_cases hin : i = n
      · exact .inr fun m hm => by rw [hm1] at hm; simpa [hin] using (List.mem_filter.mp hm).2
      · refine (hall i (by simp [hi])).imp (fun h => ?_) fun h m hm => h m ?_
        · obtain ⟨o, ho⟩ := Option.isSome_iff_exists.mp h
          rw [hkept i o hin ho]
          rfl
        · rw [hm1] at hm
          exact List.mem_of_mem_filter hm
    refine ⟨?_, fun m o hm ho => ?_⟩
    · rw [hm, hm1, List.filter_filter]
      refine List.filter_congr fun m _ => ?_
      by_cases hmn : m.order = n <;> by_cases hms : m.order ∈ ns <;> simp [hmn, hms]
    · obtain ⟨hne, hnot⟩ := not_or.mp (mt List.mem_cons.mpr hm)
      exact hlive m o hnot (hkept m o hne ho)

/-! ## LAMP at a firing's start -/


theorem armFiring_lamp (wa wb : Option WorkItem) : (armFiring wa wb s).timer.lamp = s.timer.lamp := by
  cases wa <;> cases wb <;> simp [armFiring, setLabelWait]

theorem startFiring_lamp (v : Visit) : (startFiring v s).timer.lamp = s.timer.lamp := by
  simp only [startFiring]
  split
  · simp
  · simp [armFiring_lamp]

theorem testFiring_lamp : (testFiring s).timer.lamp = s.timer.lamp := by
  unfold testFiring
  split
  · rfl
  · split
    · rfl
    · split
      · simp [setLabelWait]
      · split
        · exact startFiring_lamp _
        · split
          · rfl
          · simp [setLabelWait]

theorem enterExposing_lamp : (enterExposing s).timer.lamp = s.timer.lamp := by
  simp [enterExposing, testVisit, testFiring_lamp]

/-! ## The judging of a phase (R29, R51, R52) -/

theorem isNone_centreValue {zones : List Zone} (h : zones.length = 9) :
    (centreValue zones).isNone = (zones[4]? == some .failed) := by
  have h4 : zones[4]? = some zones[4] := List.getElem?_eq_getElem (by omega)
  rw [centreValue, h4]
  cases hz : zones[4] <;> simp [Zone.value?]

theorem meterFails_eq {zones : List Zone} (h : zones.length = 9) (mode : MeterMode) : meterFails mode zones =
    (mode != .fixed && (decide (5 ≤ (zones.filter (fun z => z == .failed)).length) ||
      (mode == .spot && zones[4]? == some .failed))) := by
  rw [meterFails, isNone_centreValue h]
  rfl

/-- LAMP fallen and the metering phase over. -/
def judging (v : Visit) (s : State) : State :=
  (s.setTimer { s.timer with lamp := false }).setGate { s.gate with visit := some { v with metering := false, rereads := [] } }

theorem judgeMetering_eq (hv : s.gate.visit = some v) : ∃ w,
    (failOrders .meterFail (meterFailed (judging v s)) (judging v s)).gate.visit = some w ∧
      judgeMetering s =
        let judged := writeDensities (failOrders .meterFail (meterFailed (judging v s)) (judging v s))
        if w.members = [] ∨ v.release = true then enterReturning judged else enterExposing judged := by
  obtain ⟨w, hw, ⟨-, -, hrel⟩, -⟩ := failOrders_visit (s := judging v s) (v := { v with metering := false, rereads := [] })
    .meterFail (meterFailed (judging v s)) rfl
  refine ⟨w, hw, ?_⟩
  have hs1 : updVisit (fun v => { v with metering := false, rereads := [] }) (s.setTimer { s.timer with lamp := false }) =
    judging v s := updVisit_some hv
  have hjudged : (writeDensities (failOrders .meterFail (meterFailed (judging v s)) (judging v s))).gate.visit = some w := by
    rw [writeDensities_eq hw]
    exact hw
  simp only [judgeMetering, hs1, hjudged, List.isEmpty_iff, Bool.or_eq_true, hrel]

theorem judgeMetering_lamp (hv : s.gate.visit = some v) : (judgeMetering s).timer.lamp = false := by
  obtain ⟨w, hw, he⟩ := judgeMetering_eq hv
  have hlamp : (writeDensities (failOrders .meterFail (meterFailed (judging v s)) (judging v s))).timer.lamp = false := by
    rw [writeDensities_eq hw]
    simp [judging]
  rw [he]
  dsimp only
  split
  · simpa using hlamp
  · rw [enterExposing_lamp, hlamp]

theorem meterFailed_judging (h : v.zones.length = 9) : meterFailed (judging v s) =
    (v.members.map (fun m => m.order)).filter (fun n => (s.order? n).any (fun o => o.state != .ending && (o.mode != .fixed &&
      (decide (5 ≤ (v.zones.filter (fun z => z == .failed)).length) || (o.mode == .spot && v.zones[4]? == some .failed))))) := by
  refine List.filter_congr fun n _ => ?_
  show ((s.order? n).filter _).any (fun o => meterFails o.mode v.zones) = _
  cases s.order? n with
  | none => rfl
  | some o =>
    rw [Option.any_some, ← meterFails_eq h]
    cases hst : o.state <;> simp [Option.filter, Order.live, hst]

/-- Settles O54: each completion finds its outstanding command; the judging follows the members that leave. -/
theorem meterCompletions : Obligations.MeterCompletions := by
  unfold Obligations.MeterCompletions
  refine ⟨fun x z readings r rd o s ho hx hrd hr => ?completes, fun v s hv => ?judges, fun d zones => ?zones⟩
  case completes =>
    have hscan (h1 : o.issuer = .visit ∨ o.issuer = .cutPhase) (h2 : o.cmd = .scan) :
        (meterIssuer .scan o && r.fits) = true := by
      rcases h1 with h1 | h1 <;> simp [meterIssuer, UnitCmd.name, h1, h2, hr]
    have hspot (h1 : o.issuer = .visit ∨ o.issuer = .cutPhase) (h2 : o.cmd = .spot z) :
        (meterIssuer .spot o && rd.fits) = true := by
      rcases h1 with h1 | h1 <;> simp [meterIssuer, UnitCmd.name, h1, h2, hrd]
    refine ⟨fun hi hc hok => ⟨?_, ?_, length_rereadsOf _⟩, fun hi hc hfail hv => ?_, fun hi hc => ?_, fun hi hc => ?_,
      fun hi hc => ?_⟩
    · refine (completion_matched ho hx (hscan (.inl hi) hc)).trans ?_
      rw [if_pos hi, hok]
      rfl
    · subst hok
      obtain ⟨h9, -⟩ : readings.length = 9 ∧ _ := by simpa [ScanResult.fits] using hr
      rw [List.length_map, h9]
    · refine (completion_matched ho hx (hscan (.inl hi) hc)).trans ?_
      rw [if_pos hi, hfail]
      obtain ⟨v, hv⟩ := Option.isSome_iff_exists.mp hv
      refine congrArg (fun u => Host.Outcome.next (settle (sendNext .meter u))) ?_
      have hv' : (updVisit (fun v => { v with zones := scanZones .fail, rereads := rereadsOf (scanZones .fail) })
        (s.setSlot .meter { s.slot .meter with outstanding := none })).gate.visit = some _ := congrArg (Option.map _) hv
      simp only [scanDone, nextReread, hv', Option.map_some, Option.getD_some]
      rfl
    · refine (completion_matched ho hx (hspot (.inl hi) hc)).trans ?_
      rw [if_pos hi, hc]
      rfl
    · refine (completion_matched ho hx (hscan (.inr hi) hc)).trans ?_
      rw [if_neg (by simp [hi])]
      rfl
    · refine (completion_matched ho hx (hspot (.inr hi) hc)).trans ?_
      rw [if_neg (by simp [hi])]
      rfl
  case judges =>
    refine ⟨fun z rest hz => ?_, fun hz => ?_, judgeMetering_lamp hv, fun h9 => ?_⟩
    · simp [nextReread, hv, hz]
    · simp [nextReread, hv, hz]
    · have hfailed := meterFailed_judging (s := s) h9
      obtain ⟨w, hw, ⟨hmet, hzones, hrel⟩, hrest⟩ := failOrders_visit (s := judging v s)
        (v := { v with metering := false, rereads := [] }) .meterFail (meterFailed (judging v s)) rfl
      obtain ⟨w', hw', hjudge⟩ := judgeMetering_eq hv
      obtain rfl : w = w' := Option.some.inj (hw.symm.trans hw')
      rw [← hfailed]
      refine ⟨w, hw, hmet, hzones, hrel, fun hagree => ?_, ?_⟩
      · have hlives (n : Nat) (hn : n ∈ meterFailed (judging v s)) : ((judging v s).live? n).isSome = true := by
          obtain ⟨-, hany⟩ := List.mem_filter.mp hn
          cases hl : (judging v s).live? n with
          | none => simp [hl] at hany
          | some o => rfl
        obtain ⟨hmem, hkept⟩ := hrest hagree.endingNamed fun n hn => .inl (hlives n hn)
        refine ⟨hmem, fun m hm o ho hlive =>
          (live?_eq_some.mp (hkept m.order o ?_ (live?_of_live (ho : (judging v s).order? m.order = some o) hlive))).1⟩
        rw [hmem] at hm
        simpa using (List.mem_filter.mp hm).2
      · intro judged
        rw [hjudge, writeDensities_eq hw]
        have horders : (fun o : Order => if o.number ∈ w.members.map (fun m => m.order) then withDensity w.zones o else o) =
            fun o => if w.members.any (fun m => m.order == o.number) then
              { o with density := some (effectiveDensity o v.zones) } else o := by
          funext o
          rw [hzones]
          exact if_congr (by simp [List.any_eq_true]) rfl rfl
        rw [horders]
        rfl
  case zones =>
    exact ⟨rfl, rfl, rfl, rfl, rfl, rfl, rfl, rfl, rfl, rfl, fun h => rereadsOf_nine h⟩

end Sys2Proof.Machine
end


section
/-!
O57: the completions of pass-through advances, of RESYNC ROLL's READ COUNT, of forwarded commands and of PRINT.
-/

namespace Sys2Proof.Machine

variable {s t : State} {k : Back} {n : Nat}

/-! ## A close, whether reported or in RESETTING (R95, R165) -/

theorem roll_closeRollFor (c : CloseCause) : ∃ st rep, (closeRollFor k c t).roll k =
      { t.roll k with state := st, closeCause := some c, passThrough := .idle, report := rep } ∧
    (t.gate.engine ≠ .resetting → st = .closing ∧ rep.isSome = true ∧
      hasFlag (closeRollFor k c t).events.flags .rollClosed = true) := by
  by_cases hr : t.gate.engine = .resetting
  · refine ⟨.closed, (t.roll k).report, ?_, fun h => absurd hr h⟩
    rw [closeRollFor_resetting hr, updRoll_same, roll_enterClosing]
  · rw [closeRollFor_eq hr]
    exact ⟨.closing, _, by rw [roll_composeReport, roll_enterClosing], fun _ => ⟨rfl, rfl, hasFlag_composeReport _⟩⟩

theorem roll_closeRollFor_other (c : CloseCause) : (closeRollFor k c t).roll k.other = t.roll k.other := by
  rw [closeRollFor, roll_finishClose_other, roll_enterClosing_other]

/-! ## The map of a roll with a range blanked (R97, R99) -/

theorem entry?_eq_some {r : Roll} {p : Nat} {e : MapEntry} :
    r.entry? p = some e ↔ p ≠ 0 ∧ ∃ f, r.film = some f ∧ f.map[p - 1]? = some e := by
  unfold Roll.entry?
  split <;> simp_all [Option.bind_eq_some_iff]

theorem entry?_blankRange {r : Roll} {p : Nat} {e : MapEntry} (lo hi : Nat) (h : r.entry? p = some e) :
    (blankRange lo hi r).entry? p =
      some (if lo ≤ p ∧ p ≤ hi then { MapEntry.fresh with state := .blank } else e) := by
  obtain ⟨hp, f, hf, he⟩ := entry?_eq_some.mp h
  refine entry?_eq_some.mpr ⟨hp, _, by rw [blankRange, hf, Option.map_some], ?_⟩
  rw [List.getElem?_mapIdx, he, show p - 1 + 1 = p by omega]
  rfl

theorem entry?_congr {r q : Roll} (h : r.film = q.film) (p : Nat) : r.entry? p = q.entry? p := by
  rw [Roll.entry?, Roll.entry?, h]

/-! ## Pass-through (R180, R183) -/

theorem passThroughDone_eq (r : AdvanceResult) (count : Nat) : passThroughDone k n r count s =
    let left := if r = .filmEnd then 0 else (s.roll k).leaderRemaining - n
    let wound := updRoll k (fun x => { x with leaderRemaining := left, lastCount := some count }) s
    if r = .filmEnd then closeRollFor k .filmEnd wound
    else if count ≠ 1 then leaderMismatch k wound
    else if left = 0 then endSequence k wound
    else wound := by
  have hwound (left : Nat) : recordCount k count (updRoll k (fun x => { x with leaderRemaining := left }) s) =
      updRoll k (fun x => { x with leaderRemaining := left, lastCount := some count }) s := updRoll_updRoll _ _
  simp only [passThroughDone, hwound]

theorem roll_passThroughDone_other (r : AdvanceResult) (count : Nat) :
    (passThroughDone k n r count s).roll k.other = s.roll k.other := by
  rw [passThroughDone_eq]
  dsimp only
  split
  · rw [roll_closeRollFor_other, roll_updRoll_other]
  · split
    · rw [leaderMismatch, roll_raiseFault, roll_enterSuspect_other, roll_updRoll_other]
    · split
      · rw [endSequence, roll_raise, roll_updRoll_other, roll_updRoll_other]
      · rw [roll_updRoll_other]

theorem passThroughDone_filmEnd (count : Nat) : passThroughDone k n .filmEnd count s =
    closeRollFor k .filmEnd (updRoll k (fun x => { x with leaderRemaining := 0, lastCount := some count }) s) := by
  rw [passThroughDone_eq]
  rfl

theorem passThroughDone_mismatch {count : Nat} (h : count ≠ 1) : passThroughDone k n .ok count s = leaderMismatch k
    (updRoll k (fun x => { x with leaderRemaining := (s.roll k).leaderRemaining - n, lastCount := some count }) s) := by
  rw [passThroughDone_eq]
  exact (if_neg (by simp)).trans (if_pos h)

theorem passThroughDone_ends (h : (s.roll k).leaderRemaining - n = 0) : passThroughDone k n .ok 1 s =
    raise .passEnd (updRoll k (fun x => { x with
      leaderRemaining := 0, lastCount := some 1, state := .ready, passThrough := .idle }) s) := by
  rw [passThroughDone_eq]
  refine (if_neg (by simp)).trans ((if_neg (by simp)).trans ((if_pos h).trans ?_))
  rw [endSequence, updRoll_updRoll, if_neg (by simp), h]

theorem passThroughDone_goesOn (h : (s.roll k).leaderRemaining - n ≠ 0) : passThroughDone k n .ok 1 s =
    updRoll k (fun x => { x with leaderRemaining := (s.roll k).leaderRemaining - n, lastCount := some 1 }) s := by
  rw [passThroughDone_eq]
  exact (if_neg (by simp)).trans ((if_neg (by simp)).trans (if_neg h))

theorem roll_leaderMismatch (k : Back) (s : State) :
    (leaderMismatch k s).roll k = { s.roll k with state := .suspect, passThrough := .idle } := by
  rw [leaderMismatch, roll_raiseFault, roll_enterSuspect]

/-- Whatever the outcome, the count is recorded; an OK takes the frames off the leader remaining. -/
theorem roll_passThroughDone (r : AdvanceResult) (count : Nat) :
    ((passThroughDone k n r count s).roll k).lastCount = some count ∧
      (r = .ok → ((passThroughDone k n r count s).roll k).leaderRemaining = (s.roll k).leaderRemaining - n) := by
  cases r with
  | filmEnd =>
    rw [passThroughDone_filmEnd]
    obtain ⟨st, rep, hroll, -⟩ := roll_closeRollFor (k := k)
      (t := updRoll k (fun x => { x with leaderRemaining := 0, lastCount := some count }) s) .filmEnd
    rw [hroll, updRoll_same]
    simp
  | ok =>
    by_cases hc : count = 1
    · subst hc
      by_cases hl : (s.roll k).leaderRemaining - n = 0
      · rw [passThroughDone_ends hl, roll_raise, updRoll_same]
        simp [hl]
      · rw [passThroughDone_goesOn hl, updRoll_same]
        simp
    · rw [passThroughDone_mismatch hc, roll_leaderMismatch, updRoll_same]
      simp

/-! ## RESYNC ROLL's READ COUNT (R99, R100) -/

theorem length_filter_ne (lo len : Nat) (cut : Option Nat) :
    ((List.range' lo len).filter (fun p => cut != some p)).length =
      len - (if cut.any (fun p => decide (lo ≤ p) && decide (p < lo + len)) then 1 else 0) := by
  cases cut with
  | none =>
    have hall : (List.range' lo len).filter (fun p => none != some p) = List.range' lo len :=
      List.filter_eq_self.mpr fun _ _ => rfl
    rw [hall]
    simp
  | some c =>
    have hcount : (List.range' lo len).countP (fun p => some c != some p) + (List.range' lo len).count c = len := by
      have hsplit := List.length_eq_countP_add_countP (l := List.range' lo len) (fun p => p == c)
      have hne : (List.range' lo len).countP (fun p => some c != some p) =
          (List.range' lo len).countP (fun p => decide ¬(p == c) = true) :=
        List.countP_congr fun p _ => by simp [bne_iff_ne, @eq_comm _ c p]
      rw [List.length_range'] at hsplit
      rw [List.count, hne]
      omega
    rw [← List.countP_eq_length_filter]
    by_cases hin : lo ≤ c ∧ c < lo + len
    · have hone : (List.range' lo len).count c = 1 :=
        List.count_eq_one_of_mem (List.nodup_range') (List.mem_range'_1.mpr hin)
      simp only [Option.any_some]
      rw [if_pos (by simpa using hin)]
      omega
    · have hnone : (List.range' lo len).count c = 0 := List.count_eq_zero_of_not_mem (mt List.mem_range'_1.mp hin)
      simp only [Option.any_some]
      rw [if_neg (by simpa using hin)]
      omega

theorem adoptCount_eq (k : Back) (c : Nat) (s : State) : adoptCount k c s =
    let last := min (c - 1) (s.roll k).frames
    let read := updRoll k (fun x => { blankRange (s.roll k).counter last x with counter := last + 1, cut := none })
      (chargeFrames .blank k (resyncCharged (s.roll k) last) s)
    if last = (s.roll k).frames then closeRollFor k .full read
    else clearOwed k (updRoll k (fun x => { x with state := .ready }) read) := rfl

theorem roll_chargeFrames (w : Waste) (i : Nat) (j : Back) : (chargeFrames w k i s).roll j = s.roll j :=
  roll_congr (by simp) j

theorem framePrice_eq (k : Back) (s : State) : s.framePrice k =
    (((s.roll k).film.bind (fun f => s.stock? f.stock)).map (fun e => e.price)).getD 0 := by
  rw [State.framePrice, Roll.stock?]
  cases (s.roll k).film with
  | none => rfl
  | some f =>
    show (s.stock? f.stock).elim 0 (fun e => e.price) = ((s.stock? f.stock).map (fun e => e.price)).getD 0
    cases s.stock? f.stock <;> rfl

/-- The roll once its positions passed over are BLANK and the count is its counter. -/
def countAdopted (last : Nat) (r : Roll) : Roll := { blankRange r.counter last r with counter := last + 1, cut := none }

theorem roll_adoptCount_ready {c : Nat} (h : c ≤ (s.roll k).frames) (hc : (s.roll k).counter < c) :
    (adoptCount k c s).roll k = { countAdopted (c - 1) (s.roll k) with state := .ready } := by
  have hlast : min (c - 1) (s.roll k).frames = c - 1 := by omega
  rw [adoptCount_eq]
  dsimp only
  rw [hlast, if_neg (by omega)]
  rw [roll_clearOwed, updRoll_updRoll, updRoll_same, roll_chargeFrames]
  rfl

theorem adoptCount_full {c : Nat} (h : (s.roll k).frames < c) : adoptCount k c s =
    closeRollFor k .full (updRoll k (fun x => { blankRange (s.roll k).counter (s.roll k).frames x with
        counter := (s.roll k).frames + 1, cut := none })
      (chargeFrames .blank k (resyncCharged (s.roll k) (s.roll k).frames) s)) := by
  have hlast : min (c - 1) (s.roll k).frames = (s.roll k).frames := by omega
  rw [adoptCount_eq]
  dsimp only
  rw [hlast, if_pos rfl]



theorem roll_adoptCount_full {c : Nat} (h : (s.roll k).frames < c) : ∃ st rep, (adoptCount k c s).roll k =
      { countAdopted (s.roll k).frames (s.roll k) with
        state := st, closeCause := some .full, passThrough := .idle, report := rep } ∧
    (s.gate.engine ≠ .resetting → st = .closing ∧ rep.isSome = true ∧
      hasFlag (adoptCount k c s).events.flags .rollClosed = true) := by
  rw [adoptCount_full h]
  obtain ⟨st, rep, hroll, hreports⟩ := roll_closeRollFor (k := k) (t := updRoll k (fun x =>
    { blankRange (s.roll k).counter (s.roll k).frames x with counter := (s.roll k).frames + 1, cut := none })
    (chargeFrames .blank k (resyncCharged (s.roll k) (s.roll k).frames) s)) .full
  rw [updRoll_same, roll_chargeFrames] at hroll
  exact ⟨st, rep, hroll, fun hr => hreports (by simpa [chargeFrames] using hr)⟩

theorem charge_adoptCount (c : Nat) : (adoptCount k c s).charge =
    let n := resyncCharged (s.roll k) (min (c - 1) (s.roll k).frames)
    { s.charge with house := s.charge.house.waste .blank (n * s.framePrice k) n } := by
  rw [adoptCount_eq]
  dsimp only
  split <;> simp [chargeFrames]

theorem resyncCharged_eq {r : Roll} {c : Nat} (h : r.counter < c) : resyncCharged r (min (c - 1) r.frames) =
    ((List.range' r.counter (min c (r.frames + 1) - r.counter)).filter (fun p => r.cut != some p)).length := by
  rw [length_filter_ne, resyncCharged, show min (c - 1) r.frames + 1 = min c (r.frames + 1) by omega]
  refine congrArg (min c (r.frames + 1) - r.counter - ·) ?_
  cases r.cut with
  | none => rfl
  | some p =>
    simp only [Option.any_some]
    refine if_congr ?_ rfl rfl
    simp
    omega

/-! ## A forwarded command (R180) -/

theorem directEffect_none {u : UnitSlot} {d : DirectResult}
    (h : (∀ c, d ≠ .readCount c) ∨ (∀ j : Back, u ≠ j.slot)) : directEffect u d s = s := by
  unfold directEffect
  split
  · next c j hu =>
    obtain h | h := h
    · exact absurd rfl (h c)
    · exact absurd (UnitSlot.back_eq_some.mp hu) (h j)
  · rfl

/-! ## The obligation -/

/-- Settles O57. -/
theorem deferredAndPrintCompletions : Obligations.DeferredAndPrintCompletions := by
  unfold Obligations.DeferredAndPrintCompletions
  refine ⟨fun u k x n count r d tag o s ho hx h1 h2 => ?_, fun x o s ho hx hname hi => ?prints⟩
  · intro t
    have hroll (j : Back) : t.roll j = s.roll j := roll_congr_setSlot _ _ j
    have hfits := fitsCount_iff.mpr ⟨h1, h2⟩
    have hresync (h : o.issuer = .resync (some tag)) : (o.issuer.isResync && fitsCount count) = true := by
      simp [h, Issuer.isResync, hfits]
    have hrecord : recordCount k count t = t.setRoll k { s.roll k with lastCount := some count } := by
      rw [recordCount, updRoll, hroll]
    have hread : (t.setRoll k { s.roll k with lastCount := some count }).roll k =
        { s.roll k with lastCount := some count } := by
      simp [State.roll, State.setRoll]
    refine ⟨fun hu hc hi hl => ?pass, fun hu hi hle => ?_, fun hu hi hlt hle => ?_, fun hu hi hlt hover => ?_, fun hlt => ?_,
      fun hi hn hd => ?direct⟩
    case pass =>
      subst hu
      have hother : (passThroughDone k n r count t).roll k.other = s.roll k.other :=
        (roll_passThroughDone_other r count).trans (hroll _)
      obtain ⟨hlast, hleft⟩ := roll_passThroughDone (s := t) (k := k) (n := n) r count
      rw [hroll] at hleft
      refine ⟨?_, hlast, hother, hleft, ?_, ?_, ?_, ?_⟩
      · refine (completion_matched ho hx (by simp [hc, hi, UnitCmd.name, Issuer.isDirect, hfits])).trans ?_
        dsimp only
        rw [if_pos ((congrArg Roll.state (hroll k)).trans hl), hc, hi]
        rfl
      · rintro rfl rfl hn
        rw [passThroughDone_ends (by rw [hroll]; omega), roll_raise, updRoll_same]
        exact ⟨rfl, rfl, hasFlag_raise_self⟩
      · rintro rfl rfl hn
        rw [passThroughDone_goesOn (by rw [hroll]; omega), updRoll_same, hroll]
        exact ⟨hl, rfl, by simp [t]⟩
      · rintro rfl hne
        rw [passThroughDone_mismatch hne, roll_leaderMismatch]
        refine ⟨rfl, rfl, fun hf hr => ?_⟩
        obtain ⟨g, hg, hfields⟩ := leaderMismatch_fault k (updRoll k (fun x => { x with
          leaderRemaining := (t.roll k).leaderRemaining - n, lastCount := some count }) t)
        have hengine : (enterSuspect k (updRoll k (fun x => { x with
          leaderRemaining := (t.roll k).leaderRemaining - n, lastCount := some count }) t)).gate.engine = s.gate.engine := by
          rw [engine_enterSuspect]
          simp [t]
        rw [hg]
        exact ⟨g, raiseFault_current (by rwa [hengine]) (by rwa [hengine]), hfields⟩
      · rintro rfl
        rw [passThroughDone_filmEnd]
        obtain ⟨st, rep, hclosed, hreports⟩ := roll_closeRollFor (k := k)
          (t := updRoll k (fun x => { x with leaderRemaining := 0, lastCount := some count }) t) .filmEnd
        rw [hclosed, updRoll_same]
        exact ⟨rfl, rfl, rfl, fun hr => hreports (by simpa [t] using hr)⟩
    case direct =>
      intro leaves counted
      have hexec (v : State) (hv : directEffect u d t = v) (hlink : v.link = s.link) : leaves v := by
        refine (completion_matched ho hx (by simp [hi, hn, hd, Issuer.isDirect])).trans ?_
        dsimp only
        rw [directDone, hv, hi, ← hlink]
        rfl
      have hstate (j : Back) : (s.roll j).state.hasRoll = true ↔ (s.roll j).state = .leader ∨ (s.roll j).state = .ready ∨
          (s.roll j).state = .suspect ∨ (s.roll j).state = .closing ∨ (s.roll j).state = .closed := by
        cases (s.roll j).state <;> simp [BackState.hasRoll]
      refine ⟨fun c hu hc hcount => ?_, fun c hu hc hcount => ?_, fun hnot => ?_⟩
      · subst hu hc
        refine hexec _ ?_ (by simp [t])
        simp only [directEffect, Back.slot_back]
        rw [if_pos ((hstate k).mpr hcount |> (hroll k ▸ ·)), recordCount, updRoll, hroll]
      · subst hu hc
        refine hexec _ ?_ rfl
        simp only [directEffect, Back.slot_back]
        exact if_neg (hroll k ▸ mt (hstate k).mp hcount)
      · exact hexec _ (directEffect_none hnot) rfl
    · subst hu
      refine (completion_matched ho hx (hresync hi)).trans ?_
      dsimp only
      rw [resyncDone, hi]
      dsimp only
      rw [if_pos (hroll k ▸ hle), hrecord]
      rfl
    · subst hu
      intro v
      have hv : v.roll k = _ := roll_adoptCount_ready (s := t.setRoll k { s.roll k with lastCount := some count })
        (by rw [hread]; exact hle) (by rw [hread]; exact hlt)
      refine ⟨?_, ?_, ?_, ?_, fun p e he => ?_⟩
      · refine (completion_matched ho hx (hresync hi)).trans ?_
        dsimp only
        rw [resyncDone, hi]
        dsimp only
        rw [if_neg (by rw [hroll]; omega), if_neg (by rw [hroll]; omega), hrecord]
        show Host.Outcome.next (settle (sendNext k.slot (testReturning (answerDeferred 3#8 (some tag) 19 .ok
          (.resynced count (v.roll k).state) (drainReports v))))) = _
        rw [hv]
        rfl
      · rw [hv]
      · rw [hv]
        exact Nat.sub_add_cancel h1
      · rw [hv]
        rfl
      · rw [hv, hread]
        refine (entry?_blankRange _ _ he).trans (congrArg some (if_congr ?_ rfl rfl))
        exact and_congr_right fun _ => by omega
    · subst hu
      intro v
      obtain ⟨st, rep, hclosed, hreports⟩ := roll_adoptCount_full (k := k) (c := count)
        (s := t.setRoll k { s.roll k with lastCount := some count }) (by rw [hread]; exact hover)
      rw [hread] at hclosed
      have hclosed : v.roll k = _ := hclosed
      rw [hclosed]
      refine ⟨?_, rfl, rfl, rfl, fun hr => ?_, fun p e he => ?_⟩
      · refine (completion_matched ho hx (hresync hi)).trans ?_
        dsimp only
        rw [resyncDone, hi]
        dsimp only
        rw [if_neg (by rw [hroll]; omega), if_pos (hroll k ▸ hover), hrecord]
        rfl
      · exact hreports hr
      · exact entry?_blankRange _ _ he
    · intro blanked price
      have hprice : (t.setRoll k { s.roll k with lastCount := some count }).framePrice k = price := by
        rw [framePrice_eq, hread]
        rfl
      have hcount : resyncCharged { s.roll k with lastCount := some count } (min (count - 1) (s.roll k).frames) =
          blanked.length :=
        resyncCharged_eq (r := { s.roll k with lastCount := some count }) hlt
      rw [charge_adoptCount]
      dsimp only
      rw [hprice, hread]
      rw [show Roll.frames { s.roll k with lastCount := some count } = (s.roll k).frames from rfl, hcount]
      simp [House.waste, satAdd, Config.maxSum, Config.maxCount, t]
  case prints =>
    intro t
    have haccepts : isFor .print .label o = true := isFor_iff.mpr ⟨hname, hi⟩
    refine ⟨fun hp => ?_, completion_matched ho hx haccepts, ?_, ?_, hasFlag_raise_self⟩
    · refine (completion_matched ho hx haccepts).trans ?_
      have hp' : t.labels.printing = true := hp
      show Host.Outcome.next (settle (sendNext .printer (tryPrint (printDone .ok t)))) = _
      simp only [printDone, hp', if_true]
      rfl
    · simp [printDone, t]
    · simp only [printDone, raise_frame]
      rfl

end Sys2Proof.Machine
end


section
/-!
SUPPORT. What the taking of reports, the ends of orders, the tests and the faults leave of the fault records, of the rolls,
of the timer, of the house account and of the unit slots (R13, R95, R157, R158, R192).
-/

namespace Sys2Proof.Machine

variable {s t u : State} {k : Back} {n : Nat}

/-! ## The fault records -/

/-- The Fault and Event Register but its flags. -/
def faultsOf (s : State) : Option FaultRec × Option FaultRec × Traps × Option (UnitSlot × CmdName) :=
  (s.events.current, s.events.pendingFault, s.events.traps, s.events.lastTrap)

theorem faultsOf_congr (h : s.events = t.events) : faultsOf s = faultsOf t := by rw [faultsOf, faultsOf, h]

@[simp] theorem faultsOf_arbiter : faultsOf (arbiter s) = faultsOf s := by simp [faultsOf]

@[simp] theorem faultsOf_raise (f : EventFlag) : faultsOf (raise f s) = faultsOf s := by simp [faultsOf]

@[simp] theorem faultsOf_raiseTimes (f : EventFlag) (i : Nat) : faultsOf (raiseTimes f i s) = faultsOf s := by
  induction i generalizing s with
  | zero => rfl
  | succ i ih => rw [raiseTimes, ih, faultsOf_raise]

@[simp] theorem faultsOf_takeOffer (x : Offer) : faultsOf (takeOffer x s) = faultsOf s := by
  cases x <;> simp only [takeOffer, enterReport, faultsOf_arbiter] <;> exact faultsOf_congr (by simp)

@[simp] theorem faultsOf_drainReports : faultsOf (drainReports s) = faultsOf s := by
  unfold drainReports
  generalize Config.reportCapacity + 1 - s.link.reports.length = i
  induction i generalizing s with
  | zero => rfl
  | succ i ih =>
    unfold drainFuel
    split
    · split
      · rfl
      · rw [ih, faultsOf_takeOffer]
    · rfl

@[simp] theorem faultsOf_refreshWanted : faultsOf (refreshWanted s) = faultsOf s := by
  simp only [refreshWanted, faultsOf_raiseTimes]
  rfl

@[simp] theorem faultsOf_endVisit : faultsOf (endVisit s) = faultsOf s := by
  unfold endVisit
  split
  · rfl
  · exact faultsOf_congr ((endOrders_leaves _ _).1.trans (by simp))

@[simp] theorem faultsOf_closeVisit : faultsOf (closeVisit s) = faultsOf s := by
  unfold closeVisit
  split
  · rfl
  · simp

/-! ## What is told -/

/-- From s to t no more befalls the rolls than that reports of theirs are taken; the timer, the house account and every unit
slot but a PRESENT feeder's stand; and while the engine is FAULTED or RESETTING it stays so, with its fault records, of
which a filled pending slot in FAULTED. -/
structure Told (s t : State) : Prop where
  rolls : ∀ j, t.roll j = s.roll j ∨ t.roll j = reportTaken (s.roll j)
  timer : t.timer = s.timer
  house : t.charge.house = s.charge.house
  slots : ∀ x, x ≠ .feeder ∨ s.present .feeder = false → t.slot x = s.slot x
  faulted : s.gate.engine = .faulted → t.gate.engine = .faulted ∧ t.events.current = s.events.current ∧
    (s.events.pendingFault.isSome = true → t.events.pendingFault = s.events.pendingFault)
  resetting : s.gate.engine = .resetting → t.gate.engine = .resetting ∧ faultsOf t = faultsOf s
  cleanup : t.gate.cleanup = s.gate.cleanup

theorem Told.refl (s : State) : Told s s :=
  ⟨fun _ => .inl rfl, rfl, rfl, fun _ _ => rfl, fun h => ⟨h, rfl, fun _ => rfl⟩, fun h => ⟨h, rfl⟩, rfl⟩

theorem reportTaken_twice (r : Roll) : reportTaken (reportTaken r) = reportTaken r := by
  unfold reportTaken
  by_cases h : r.state = .closing <;> simp [h]

theorem Told.trans (h : Told s u) (g : Told u t) : Told s t where
  rolls j := by
    rcases h.rolls j with h1 | h1 <;> rcases g.rolls j with g1 | g1 <;> simp [h1, g1, reportTaken_twice]
  timer := g.timer.trans h.timer
  house := g.house.trans h.house
  slots x hx := by
    refine (g.slots x (hx.imp id fun hp => ?_)).trans (h.slots x hx)
    rw [State.present, h.slots .feeder (.inr hp)]
    exact hp
  faulted hf := by
    obtain ⟨h1, h2, h3⟩ := h.faulted hf
    obtain ⟨g1, g2, g3⟩ := g.faulted h1
    exact ⟨g1, g2.trans h2, fun hp => (g3 (by rwa [h3 hp])).trans (h3 hp)⟩
  resetting hr := by
    obtain ⟨h1, h2⟩ := h.resetting hr
    obtain ⟨g1, g2⟩ := g.resetting h1
    exact ⟨g1, g2.trans h2⟩
  cleanup := g.cleanup.trans h.cleanup

/-- An operation that leaves the engine, the fault records, the rolls, the timer, the house account and the unit slots. -/
theorem Told.same (h : Told s u) (hrolls : t.rolls = u.rolls) (htimer : t.timer = u.timer)
    (hhouse : t.charge.house = u.charge.house) (hbus : t.bus = u.bus) (hengine : t.gate.engine = u.gate.engine)
    (hfaults : faultsOf t = faultsOf u) (hcleanup : t.gate.cleanup = u.gate.cleanup) : Told s t := by
  refine h.trans ⟨fun j => .inl (roll_congr hrolls j), htimer, hhouse, fun x _ => slot_congr hbus x, fun hf => ?_,
    fun hr => ⟨hengine.trans hr, hfaults⟩, hcleanup⟩
  simp only [faultsOf, Prod.mk.injEq] at hfaults
  obtain ⟨hcurrent, hpending, -⟩ := hfaults
  exact ⟨hengine.trans hf, hcurrent, fun _ => hpending⟩

theorem Told.raise (h : Told s u) (f : EventFlag) : Told s (raise f u) :=
  h.same (by simp) (by simp) (by simp) (by simp) (by simp) (by simp) (by simp)

theorem Told.setLabelWait (h : Told s u) (w : Bool) : Told s (setLabelWait w u) := h.same rfl rfl rfl rfl rfl rfl rfl

theorem Told.updVisit (h : Told s u) (f : Visit → Visit) : Told s (updVisit f u) := h.same rfl rfl rfl rfl rfl rfl rfl

theorem Told.setGate (h : Told s u) {x : Gate} (hengine : x.engine = u.gate.engine) (hcleanup : x.cleanup = u.gate.cleanup) :
    Told s (u.setGate x) := h.same rfl rfl rfl rfl hengine rfl hcleanup

theorem Told.drainReports (h : Told s u) : Told s (drainReports u) := by
  refine h.trans ⟨fun j => drainReports_roll u j, by simp, by simp, fun x _ => slot_congr (by simp) x, fun hf => ?_,
    fun hr => ⟨by simpa using hr, by simp⟩, by simp⟩
  have hfaults := faultsOf_drainReports (s := u)
  simp only [faultsOf, Prod.mk.injEq] at hfaults
  obtain ⟨hcurrent, hpending, -⟩ := hfaults
  exact ⟨by simpa using hf, hcurrent, fun _ => hpending⟩

theorem Told.endOrders (h : Told s u) (kind : EndKind) (ns : List Nat) : Told s (endOrders kind ns u) := by
  obtain ⟨he, hg, -, hh⟩ := endOrders_leaves (s := u) kind ns
  exact h.same (by simp) (by simp) hh (by simp) (by rw [hg]) (faultsOf_congr he) (by rw [hg])

theorem Told.completeCancels (h : Told s u) : Told s (completeCancels u) := (h.endOrders _ _).drainReports

theorem Told.refreshWanted (h : Told s u) : Told s (refreshWanted u) :=
  h.same (by simp) (by simp) (by simp) (by simp) (by simp) (by simp) (by simp)

theorem Told.endVisit (h : Told s u) : Told s (endVisit u) := by
  unfold Machine.endVisit
  split
  · exact h
  · next v _ =>
    have hrequeue : Told s (requeue (membersWith true v u) u) :=
      h.same (by simp) (by simp) (by simp) (by simp) (by simp) (faultsOf_congr (by simp)) (by simp)
    refine Told.setLabelWait (Told.setGate (hrequeue.endOrders .done (membersWith false v u)) ?_ ?_) false <;> rfl

theorem Told.closeVisit (h : Told s u) : Told s (closeVisit u) := by
  unfold Machine.closeVisit
  split
  exacts [h, h.endVisit.drainReports.refreshWanted]

theorem Told.holdVisit (h : Told s u) (c : HoldCause) : Told s (holdVisit c u) := by
  unfold Machine.holdVisit
  split
  exacts [h, h.same rfl rfl rfl rfl rfl rfl rfl]

theorem Told.raiseFault (h : Told s u) (f : FaultRec) : Told s (raiseFault f u) := by
  refine h.trans ⟨fun j => .inl (roll_raiseFault f j u), by simp, by simp, fun x _ => slot_congr (by simp) x, fun hf => ?_,
    fun hr => ?_, ?_⟩
  · rw [raiseFault_faulted hf]
    refine ⟨by simpa using hf, by simp, fun hp => ?_⟩
    obtain ⟨g, hg⟩ := Option.isSome_iff_exists.mp hp
    simp [hg]
  · rw [raiseFault_resetting hr]
    exact ⟨hr, rfl⟩
  · unfold Machine.raiseFault Machine.holdVisit
    (repeat' split) <;> simp

theorem Told.sendReturn (h : Told s u) : Told s (sendReturn u) := by
  unfold Machine.sendReturn
  split
  · next hp =>
    refine h.trans ⟨fun j => .inl (roll_congr (by simp) j), by simp, by simp, fun x hx => ?_,
      fun hf => ⟨by simpa using hf, by simp, fun _ => by simp⟩, fun hr => ⟨by simpa using hr, by simp [faultsOf]⟩, by simp⟩
    exact issue_other _ _ _ _ _ (hx.resolve_right (by simp [hp]))
  · exact h.raiseFault _

theorem Told.enterReturning (h : Told s u) : Told s (enterReturning u) := by
  unfold Machine.enterReturning
  split
  · exact h
  · have h1 := Told.setLabelWait (h.updVisit fun x => { x with state := .returning }) false
    dsimp only
    split
    · exact h1.closeVisit
    · split
      exacts [h1, h1.sendReturn]

theorem Told.testReturning (h : Told s u) : Told s (testReturning u) := by
  unfold Machine.testReturning
  split
  exacts [h.enterReturning, h]

theorem Told.stepHold (h : Told s u) (i : Nat) : Told s (stepHold i u) := by
  unfold Machine.stepHold
  split
  · next hc =>
    obtain ⟨hrun, -⟩ := hc
    have hstops : Told u (u.setGate { u.gate with engine := .stopping, stopKind := some .hold }) :=
      ⟨fun _ => .inl rfl, rfl, rfl, fun _ _ => rfl, fun hf => by simp [hrun] at hf, fun hr => by simp [hrun] at hr, rfl⟩
    exact (h.trans hstops).holdVisit _
  · exact h

theorem Told.stepAfterFrame (h : Told s u) (f : Option FrameRec) : Told s (stepAfterFrame f u) := by
  cases f
  exacts [h, h.stepHold _]

/-! ## No firing starts while the engine does not run (R30) -/

theorem Told.testFiring (h : Told s u) (hu : u.gate.engine ≠ .running) : Told s (testFiring u) := by
  unfold Machine.testFiring
  split
  · exact h
  · split
    · exact h
    · next v _ _ =>
      rw [if_pos (show (!firingConditions u v) = true by simp [firingConditions, hu])]
      exact h.setLabelWait _

theorem Told.testVisit (h : Told s u) (hu : u.gate.engine ≠ .running) : Told s (testVisit u) :=
  (h.testFiring hu).testReturning

end Sys2Proof.Machine
end


section
/-!
O32: the cleanup of LINK RESET, stage by stage, and the commands it waits for.
-/

namespace Sys2Proof.Machine

variable {s t : State} {v : Visit} {c : Cleanup} {k : Back} {n : Nat}

/-! ## Operations that do not read the gate -/

theorem arbiter_setGate (g : Gate) : arbiter (s.setGate g) = (arbiter s).setGate g := by
  unfold arbiter
  rw [State.setGate_link]
  split
  · rfl
  · split <;> rfl

theorem raise_setGate (f : EventFlag) (g : Gate) : raise f (s.setGate g) = (raise f s).setGate g := by
  unfold raise
  dsimp only
  by_cases hm : hasFlag s.settings.noticeMask f = true
  · rw [if_pos (by exact hm), if_pos hm]
    unfold fillNotice
    by_cases hn : s.link.notice = true
    · rw [if_pos (by exact hn), if_pos (by exact hn)]
      rfl
    · rw [if_neg (by exact hn), if_neg (by exact hn)]
      exact arbiter_setGate (s := (s.setEvents (s.events.raise f)).setLink { s.link with notice := true }) g
  · rw [if_neg (by exact hm), if_neg hm]
    rfl

theorem raiseTimes_setGate (f : EventFlag) (i : Nat) (g : Gate) :
    raiseTimes f i (s.setGate g) = (raiseTimes f i s).setGate g := by
  induction i generalizing s with
  | zero => rfl
  | succ i ih => rw [raiseTimes, raise_setGate, ih, raiseTimes]

theorem takeOffer_setGate (x : Offer) (g : Gate) : takeOffer x (s.setGate g) = (takeOffer x s).setGate g := by
  cases x with
  | order e =>
    exact arbiter_setGate (s := (s.setQueue { s.queue with
      orders := s.queue.orders.filter (fun o => o.number != e.number), ending := s.queue.ending.tail }).setLink
        { s.link with reports := s.link.reports ++ [.order e.report] }) g
  | roll j i r =>
    exact arbiter_setGate (s := (updRoll j reportTaken s).setLink { s.link with reports := s.link.reports ++ [.roll r] }) g

theorem drainFuel_setGate (i : Nat) (g : Gate) : drainFuel i (s.setGate g) = (drainFuel i s).setGate g := by
  induction i generalizing s with
  | zero => rfl
  | succ i ih =>
    rw [drainFuel, drainFuel]
    have hoffers : offers (s.setGate g) = offers s := rfl
    rw [hoffers, State.setGate_link]
    split
    · split
      · rfl
      · rw [takeOffer_setGate, ih]
    · rfl

theorem drainReports_setGate (g : Gate) : drainReports (s.setGate g) = (drainReports s).setGate g := drainFuel_setGate _ g

theorem refreshWanted_setGate (g : Gate) : refreshWanted (s.setGate g) = (refreshWanted s).setGate g := by
  have h (i j : Nat) (q : Queue) : raiseTimes .magazineWanted i (raiseTimes .stockWanted j ((s.setQueue q).setGate g)) =
      (raiseTimes .magazineWanted i (raiseTimes .stockWanted j (s.setQueue q))).setGate g := by
    rw [raiseTimes_setGate, raiseTimes_setGate]
  exact h _ _ _

/-- Of the gate an order's end reads and writes the visit alone. -/
theorem endOrder_setGate (kind : EndKind) (n : Nat) (g : Gate) :
    ∃ h, endOrder kind n (s.setGate g) = (endOrder kind n s).setGate h := by
  rcases hn : s.live? n with _ | o
  · rw [endOrder_of_none kind hn, endOrder_of_none kind (show (s.setGate g).live? n = none from hn)]
    exact ⟨g, rfl⟩
  · obtain ⟨ho, hlive⟩ := live?_eq_some.mp hn
    rw [endOrder_of_live kind ho hlive, endOrder_of_live kind (s := s.setGate g) ho hlive]
    exact ⟨_, rfl⟩

theorem endOrders_setGate (kind : EndKind) (ns : List Nat) (g : Gate) :
    ∃ h, endOrders kind ns (s.setGate g) = (endOrders kind ns s).setGate h := by
  induction ns generalizing s g with
  | nil => exact ⟨g, rfl⟩
  | cons n ns ih =>
    obtain ⟨h1, he1⟩ := endOrder_setGate (s := s) kind n g
    obtain ⟨h2, he2⟩ := ih (s := endOrder kind n s) h1
    exact ⟨h2, (congrArg (endOrders kind ns) he1).trans he2⟩

/-- The close of a visit but for the cleanup record. -/
theorem closeVisit_setCleanup (x : Option Cleanup) : closeVisit (s.setGate { s.gate with cleanup := x }) =
    (closeVisit s).setGate { (closeVisit s).gate with cleanup := x } := by
  rcases hv : s.gate.visit with _ | v
  · rw [closeVisit_none _ hv, closeVisit_none _ (by exact hv)]
  · have hrequeue (g : Gate) : requeue (membersWith true v s) (s.setGate g) = (requeue (membersWith true v s) s).setGate g := by
      rw [requeue_eq, requeue_eq]
      rfl
    have hvisit : endVisit (s.setGate { s.gate with cleanup := x }) =
        (endVisit s).setGate { (endVisit s).gate with cleanup := x } := by
      rw [endVisit_eq hv, endVisit_eq (v := v) (by exact hv)]
      obtain ⟨h, he⟩ := endOrders_setGate (s := requeue (membersWith true v s) s) .done (membersWith false v s)
        { s.gate with cleanup := x }
      show setLabelWait false ((endOrders .done (membersWith false v s)
        (requeue (membersWith true v s) (s.setGate { s.gate with cleanup := x }))).setGate _) = _
      rw [hrequeue, he]
      rfl
    rw [closeVisit_some _ hv, closeVisit_some _ (v := v) (by exact hv), hvisit, drainReports_setGate, refreshWanted_setGate]
    simp

/-! ## The stages (R164 to R166) -/

theorem setStage_eq (x : Stage) (h : s.gate.cleanup = some c) :
    setStage x s = s.setGate { s.gate with cleanup := some { c with stage := x } } := by
  rw [setStage, h]
  rfl

theorem cleanupStep_idle (h : s.gate.cleanup = none) : cleanupStep s = s := by simp [cleanupStep, h]

theorem cleanupStep_lines (h : s.gate.cleanup = some c) (hc : c.stage = .lines) :
    cleanupStep s = if phaseAtRest s then s.setGate { s.gate with cleanup := some { c with stage := .film } } else s := by
  simp only [cleanupStep, h, hc, setStage, Option.map_some]

/-- The feeder's slot with a waiting LOAD of the visit withdrawn, and the stage of the slide. -/
theorem cleanupStep_film (h : s.gate.cleanup = some c) (hc : c.stage = .film) : cleanupStep s = if filmAtRest s then
      (s.setSlot .feeder { s.slot .feeder with
        waiting := (s.slot .feeder).waiting.filter (fun w => !(w.issuer == .visit && w.cmd.name == .load)) }).setGate
        { s.gate with cleanup := some { c with stage := .slide } }
    else s := by
  have hfilter : (fun w : Issued => !(decide (w.issuer = .visit) && decide (w.cmd.name = .load))) =
      fun w => !(w.issuer == .visit && w.cmd.name == .load) := by
    funext w
    rw [Bool.beq_eq_decide_eq, Bool.beq_eq_decide_eq]
  simp only [cleanupStep, h, hc, beginSlide, hfilter]
  exact if_congr Iff.rfl (setStage_eq (s := updSlot .feeder _ s) .slide h) rfl

theorem cleanupStep_slide (h : s.gate.cleanup = some c) (hc : c.stage = .slide) : cleanupStep s = returnSlide c s := by
  simp only [cleanupStep, h, hc]

theorem cleanupStep_visitClose (h : s.gate.cleanup = some c) (hc : c.stage = .visitClose) :
    cleanupStep s = endCleanup c s := by simp only [cleanupStep, h, hc]

theorem runCleanup_of_rest (h : cleanupStep s = s) : runCleanup s = s := by rw [runCleanup, h, h, h, h]

theorem endCleanup_cleanup (c : Cleanup) (s : State) : (endCleanup c s).gate.cleanup = none := by
  unfold endCleanup
  dsimp only
  split <;> simp [enterStopped]

theorem visitCommand_issue (cmd : UnitCmd) (u : UnitSlot) (s : State) : (issue u cmd .visit s).visitCommand u = true := by
  rw [visitCommand_iff]
  obtain ⟨-, -, he⟩ | ⟨-, he⟩ := issue_slot s u cmd .visit
  · exact .inl ⟨_, by rw [he], rfl⟩
  · exact .inr ⟨_, by rw [he]; exact List.mem_append_right _ (List.mem_singleton_self _), rfl⟩

/-- The feeder is gone with the slide in the gate: the failure is kept and the visit is to be closed. -/
theorem returnSlide_lost (h : s.gate.cleanup = some c) (hw : s.visitCommand .feeder = false) (hfail : c.failure = none)
    (hv : s.gate.visit = some v) (hs : v.slide = true) (hp : s.present .feeder = false) :
    returnSlide c s = s.setGate { s.gate with
      visit := some { v with state := .returning }
      cleanup := some { stage := .visitClose, failure := some { lostFor v .feeder with visit := some .returning } } } := by
  have hs1 : updVisit (fun v => { v with state := .returning }) s =
    s.setGate { s.gate with visit := some { v with state := .returning } } := updVisit_some hv
  rw [returnSlide, if_neg (by simp [hw]), if_pos (by simp [hfail, hv, hs])]
  dsimp only
  rw [hs1]
  refine (if_neg (show ¬s.present .feeder = true by simp [hp])).trans ?_
  simp only [setStage, keepFailure, State.setGate_gate, h, Option.map_some, hfail]
  rw [visitFault_unitLost (v := { v with state := .returning }) rfl]
  rfl

/-- What is left to do in the stage of the slide: nothing, while the feeder is waited for, or to close the visit. -/
theorem cleanupStep_slide_cases (h : s.gate.cleanup = some c) (hc : c.stage = .slide) :
    cleanupStep (cleanupStep s) = cleanupStep s ∨
      ∃ d, d.stage = .visitClose ∧ (cleanupStep s).gate.cleanup = some d := by
  have hslide := cleanupStep_slide h hc
  have hwaits (hw : s.visitCommand .feeder = true) : returnSlide c s = s := by rw [returnSlide, if_pos hw]
  by_cases hw : s.visitCommand .feeder = true
  · left
    rw [hslide, hwaits hw, hslide, hwaits hw]
  · by_cases hret : (c.failure.isNone && s.gate.visit.any (fun v => v.slide)) = true
    · by_cases hp : s.present .feeder = true
      · left
        have hissue : returnSlide c s = issue .feeder .ret .visit (updVisit (fun v => { v with state := .returning }) s) := by
          rw [returnSlide, if_neg hw, if_pos hret]
          exact if_pos hp
        rw [hslide, hissue, cleanupStep_slide (c := c) (by simpa using h) hc, returnSlide,
          if_pos (visitCommand_issue _ _ _)]
      · right
        obtain ⟨hfail, v, hv, hs⟩ : c.failure = none ∧ ∃ v, s.gate.visit = some v ∧ v.slide = true := by
          simpa [Option.any_eq_true] using hret
        rw [hslide, returnSlide_lost h (by simpa using hw) hfail hv hs (by simpa using hp)]
        exact ⟨{ failure := some _, stage := .visitClose }, rfl, rfl⟩
    · right
      rw [hslide, returnSlide, if_neg hw, if_neg hret]
      exact ⟨{ c with stage := .visitClose }, rfl, by simp [setStage, h]⟩

theorem cleanupStep_visitClose_rest (h : s.gate.cleanup = some c) (hc : c.stage = .visitClose) :
    cleanupStep (cleanupStep s) = cleanupStep s := by
  rw [cleanupStep_visitClose h hc, cleanupStep_idle (endCleanup_cleanup c s)]

/-- From the slide on the cleanup rests after two stages. -/
theorem cleanupStep_slide_rest (h : s.gate.cleanup = some c) (hc : c.stage = .slide) :
    cleanupStep (cleanupStep (cleanupStep s)) = cleanupStep (cleanupStep s) := by
  obtain he | ⟨d, hd, he⟩ := cleanupStep_slide_cases h hc
  · rw [he, he]
  · exact cleanupStep_visitClose_rest he hd

/-- From the film on the cleanup rests after three stages. -/
theorem cleanupStep_film_rest (h : s.gate.cleanup = some c) (hc : c.stage = .film) :
    cleanupStep (cleanupStep (cleanupStep (cleanupStep s))) = cleanupStep (cleanupStep (cleanupStep s)) := by
  have hfilm := cleanupStep_film h hc
  split at hfilm
  · rw [hfilm]
    exact cleanupStep_slide_rest (c := { c with stage := .slide }) rfl rfl
  · rw [hfilm, hfilm, hfilm, hfilm]

/-! ## The end of the cleanup (R166) -/

theorem closeVisit_visit : (closeVisit s).gate.visit = none := by
  rcases hv : s.gate.visit with _ | v
  · rw [closeVisit_none _ hv, hv]
  · rw [closeVisit_some _ hv, endVisit_eq hv]
    simp [setLabelWait]

theorem runCleanup_visitClose (h : s.gate.cleanup = some c) (hc : c.stage = .visitClose) :
    runCleanup s = endCleanup c s := by
  have hrest := cleanupStep_visitClose_rest h hc
  rw [runCleanup, hrest, hrest, hrest, cleanupStep_visitClose h hc]

/-- In the stage of the slide, with no command of the visit at the feeder and no slide to return or a failure known. -/
theorem runCleanup_closes (h : s.gate.cleanup = some c) (hc : c.stage = .slide) (hw : s.visitCommand .feeder = false)
    (hr : (c.failure.isNone && s.gate.visit.any (fun v => v.slide)) = false) :
    runCleanup s = endCleanup { c with stage := .visitClose }
      (s.setGate { s.gate with cleanup := some { c with stage := .visitClose } }) := by
  have hstep : cleanupStep s = s.setGate { s.gate with cleanup := some { c with stage := .visitClose } } := by
    rw [cleanupStep_slide h hc, returnSlide, if_neg (by simp [hw]), if_neg (by simp [hr]), setStage_eq _ h]
  have hrest := cleanupStep_visitClose_rest (s := cleanupStep s) (c := { c with stage := .visitClose })
    (by rw [hstep]; rfl) rfl
  rw [runCleanup, hrest, hrest, hstep]
  exact cleanupStep_visitClose rfl rfl

/-- What ends the cleanup, from a state whose cleanup record is still that of the stage before. -/
theorem endCleanup_setCleanup (d : Cleanup) (x : Option Cleanup) :
    endCleanup d (s.setGate { s.gate with cleanup := x }) = match d.failure with
      | none => raise .engineStopped ((closeVisit s).setGate
          { (closeVisit s).gate with engine := .stopped, stopKind := none, cleanup := none })
      | some f => raise .engineStopped (raise .fault
          (((closeVisit s).setEvents { (closeVisit s).events with current := some f }).setGate
            { (closeVisit s).gate with engine := .faulted, stopKind := none, cleanup := none })) := by
  unfold endCleanup
  rw [closeVisit_setCleanup]
  cases d.failure <;> rfl

/-! ## What the feeder and the meter answer meanwhile (R164, R165) -/

theorem gateJam_resetting (h : s.gate.engine = .resetting) : gateJam s = keepFailure .gateJam s := by
  rw [gateJam, if_pos (by simp [State.resetting, h])]

theorem keepFailure_eq (kind : FaultKind) (h : s.gate.cleanup = some c) (hv : s.gate.visit = some v) :
    keepFailure kind s = s.setGate { s.gate with cleanup := some { c with failure := some (c.failure.getD
      { kind := kind, unit := .feeder, order := none, back := none, position := some v.position,
        visit := some v.state }) } } := by
  rw [keepFailure, h, Option.map_some, visitFault, faultRec, hv]
  rfl

theorem filmAtRest_iff : filmAtRest s = true ↔ ∀ k : Back, ∀ i ∈ (s.slot k.slot).issuers,
    i ≠ .firing ∧ i ≠ .leader ∧ i ≠ .blanking ∧ ∀ tag, i ≠ .resync tag := by
  have hissuer (i : Issuer) : filmIssuer i = false ↔ i ≠ .firing ∧ i ≠ .leader ∧ i ≠ .blanking ∧ ∀ tag, i ≠ .resync tag := by
    cases i <;> simp [filmIssuer]
  have hslot (x : Slot) : (!x.issuers.any filmIssuer) = true ↔ ∀ i ∈ x.issuers, filmIssuer i = false := by
    simp [List.any_eq_false]
  rw [filmAtRest, Bool.and_eq_true, hslot, hslot]
  simp only [hissuer]
  exact ⟨fun ⟨ha, hb⟩ k => by cases k; exacts [ha, hb], fun h => ⟨h .a, h .b⟩⟩

theorem phaseAtRest_iff : phaseAtRest s = true ↔ .cutPhase ∉ (s.slot .meter).issuers := by
  rw [phaseAtRest, Bool.not_eq_true', List.any_eq_false]
  exact ⟨fun h hm => h _ hm (by simp), fun h i hi he => h (by simpa using (beq_iff_eq.mp he) ▸ hi)⟩

/-- At a unit that is no back the commands withdrawn at a timeout are answered as at a loss (R176). -/
theorem withdraw_eq_answerLost {u : UnitSlot} (hu : u.back = none) (d : Issued) : withdraw u s d = answerLost d s := by
  unfold withdraw answerLost
  cases d.issuer <;> simp [hu, backTimeout]

theorem withdraws_eq_answersLost {u : UnitSlot} (hu : u.back = none) (l : List Issued) :
    l.foldl (withdraw u) s = l.foldl (fun t c => answerLost c t) s := by
  refine congrArg (fun f => List.foldl f s l) ?_
  funext t d
  exact withdraw_eq_answerLost hu d

theorem Told.afterTimeout {u : UnitSlot} (hu : u.back = none) (o : Outstanding) :
    Told (timedOut u o s) (commandTimeout u o s) := by
  rw [commandTimeout, hu]
  exact (((Told.refl _).raiseFault _).completeCancels).testReturning

/-! ## Slots whose command timed out, and the lost meter (R172, R174 to R176) -/

theorem slot_raise (f : EventFlag) (u : UnitSlot) (s : State) : (raise f s).slot u = s.slot u := slot_congr (by simp) u

theorem slot_withdraws (u x : UnitSlot) (l : List Issued) (s : State) :
    (l.foldl (withdraw u) s).slot x = s.slot x := slot_congr (by simp) x

theorem slot_answersLost (x : UnitSlot) (l : List Issued) (s : State) :
    (l.foldl (fun t c => answerLost c t) s).slot x = s.slot x := slot_congr (by simp) x

theorem slot_takeTimeout (u x : UnitSlot) (c : Issued) (s : State) :
    (takeTimeout u c s).slot x = s.slot x := slot_congr (by simp) x

theorem slot_changeSlot (u : UnitSlot) (x : SlotState) (s : State) :
    (changeSlot u x s).slot u = { s.slot u with state := x, changed := true, poll := none } := by
  rw [changeSlot, slot_raise, updSlot_same]

theorem slot_timedOut (u : UnitSlot) (o : Outstanding) (s : State) : ((timedOut u o s).slot u).state = .absent ∧
    ((timedOut u o s).slot u).changed = true ∧ ((timedOut u o s).slot u).outstanding = none ∧
    ((timedOut u o s).slot u).waiting = [] := by
  have habsent (w : State) : ∃ m p, (absentUnit u w).slot u = { w.slot u with magazine := m, printer := p } := by
    cases u with
    | feeder => exact ⟨none, (w.slot .feeder).printer, by rw [absentUnit, updSlot_same]⟩
    | printer => exact ⟨(w.slot .printer).magazine, none, by rw [absentUnit, updSlot_same]⟩
    | meter => exact ⟨_, _, slot_congr (t := w) (by simp [absentUnit]) _⟩
    | backA => exact ⟨_, _, slot_congr (t := w) (by simp only [absentUnit, absentUnit.noBackAfter]; split <;> simp) _⟩
    | backB => exact ⟨_, _, slot_congr (t := w) (by simp only [absentUnit, absentUnit.noBackAfter]; split <;> simp) _⟩
  obtain ⟨m, p, he⟩ := habsent ((s.slot u).waiting.foldl (withdraw u) (changeSlot u .absent
    (updSlot u (fun y => { y with waiting := [] }) (takeTimeout u { cmd := o.cmd, issuer := o.issuer }
      (clearOutstanding u s)))))
  rw [timedOut, he, slot_withdraws, slot_changeSlot, updSlot_same, slot_takeTimeout, clearOutstanding, updSlot_same]
  exact ⟨rfl, rfl, rfl, rfl⟩

theorem slot_meterLost (x : SlotState) (s : State) : ((slotLost .meter x s).slot .meter).state = x ∧
    ((slotLost .meter x s).slot .meter).changed = true ∧ ((slotLost .meter x s).slot .meter).outstanding = none ∧
    ((slotLost .meter x s).slot .meter).waiting = [] := by
  have hhand (w : State) (sent : Bool) : (handOnLoss .meter sent w).slot .meter = w.slot .meter := by
    unfold handOnLoss
    dsimp only
    split
    · exact slot_congr (by simp) _
    · rfl
  rw [slotLost, hhand, slot_answersLost, slot_changeSlot, updSlot_same]
  exact ⟨rfl, rfl, rfl, rfl⟩

/-- Settles O32. -/
theorem cleanupOfLinkReset : Obligations.CleanupOfLinkReset := by
  unfold Obligations.CleanupOfLinkReset
  refine ⟨fun c s hr hc => ?stages, fun x o c v s hr hc hv ho hx hi => ?feeder, fun o s ho hi hw => ?meter⟩
  case stages =>
    refine ⟨fun hst ⟨k, i, hmem, hany⟩ => ?_, fun hst hmem => ?_, fun hst hmem => ?_, fun hst hall => ?_, fun hst hw => ?_,
      fun v hst hw hfail hv hs => ⟨fun hp => ?_, fun hp => ?_⟩, fun hst hw hdone => ?_⟩
    · refine runCleanup_of_rest ((cleanupStep_film hc hst).trans (if_neg fun hrest => ?_))
      obtain ⟨h1, h2, h3, h4⟩ := filmAtRest_iff.mp hrest k i hmem
      rcases hany with h | h | h | ⟨tag, h⟩
      exacts [h1 h, h2 h, h3 h, h4 tag h]
    · exact runCleanup_of_rest ((cleanupStep_lines hc hst).trans (if_neg fun hrest => phaseAtRest_iff.mp hrest hmem))
    · have hstep := (cleanupStep_lines hc hst).trans (if_pos (phaseAtRest_iff.mpr hmem))
      have hrest := cleanupStep_film_rest (s := cleanupStep s) (c := { c with stage := .film }) (by rw [hstep]; rfl) rfl
      rw [← hstep, runCleanup, runCleanup]
      exact hrest.symm
    · have hstep := (cleanupStep_film hc hst).trans (if_pos (filmAtRest_iff.mpr hall))
      have hrest := cleanupStep_slide_rest (s := cleanupStep s) (c := { c with stage := .slide }) (by rw [hstep]; rfl) rfl
      rw [← hstep, runCleanup, runCleanup, hrest, hrest]
    · exact runCleanup_of_rest ((cleanupStep_slide hc hst).trans (by rw [returnSlide, if_pos hw]))
    · have hissue : cleanupStep s =
          issue .feeder .ret .visit (s.setGate { s.gate with visit := some { v with state := .returning } }) := by
        rw [cleanupStep_slide hc hst, returnSlide, if_neg (by simp [hw]), if_pos (by simp [hfail, hv, hs]), updVisit_some hv]
        exact if_pos hp
      have hwaits : cleanupStep (cleanupStep s) = cleanupStep s := by
        rw [cleanupStep_slide (s := cleanupStep s) (c := c) (by rw [hissue]; simpa using hc) hst, returnSlide,
          if_pos (by rw [hissue]; exact visitCommand_issue _ _ _)]
      rw [← hissue, runCleanup, hwaits, hwaits, hwaits]
    · have hlost := (cleanupStep_slide hc hst).trans (returnSlide_lost hc hw hfail hv hs hp)
      have hrest := cleanupStep_visitClose_rest (s := cleanupStep s)
        (c := { stage := .visitClose, failure := some { lostFor v .feeder with visit := some .returning } })
        (by rw [hlost]; rfl) rfl
      have hend : runCleanup s = endCleanup _ _ :=
        calc runCleanup s = cleanupStep (cleanupStep s) := by rw [runCleanup, hrest, hrest]
          _ = _ := by rw [hlost]; exact cleanupStep_visitClose rfl rfl
      rw [hend]
      refine ⟨by simp [endCleanup], ?_, by simp [endCleanup, lostFor]⟩
      simp [endCleanup, closeVisit_visit]
    · have hend := runCleanup_closes hc hst hw (by
        rcases hdone with h | h
        · cases hf : c.failure <;> simp [hf] at h ⊢
        · cases hv : s.gate.visit with
          | none => simp
          | some v => simp [h v hv])
      rw [endCleanup_setCleanup] at hend
      intro t
      have ht : t = _ := hend
      have hcurrent : (closeVisit s).events.current = s.events.current := by
        have hfaults := faultsOf_closeVisit (s := s)
        simp only [faultsOf, Prod.mk.injEq] at hfaults
        exact hfaults.1
      cases hf : c.failure with
      | none =>
        simp only [hf] at ht
        rw [ht]
        refine ⟨by simp [closeVisit_visit], by simp, hasFlag_raise_self, fun _ => ⟨by simp, by simpa using hcurrent⟩,
          fun f hff => by simp at hff⟩
      | some g =>
        simp only [hf] at ht
        refine ⟨by rw [ht]; simp [closeVisit_visit], by rw [ht]; simp, by rw [ht]; exact hasFlag_raise_self,
          fun hnone => by simp at hnone, fun f hff => ?_⟩
        obtain rfl : g = f := Option.some.inj hff
        refine ⟨by rw [ht]; simp, by rw [ht]; simp, ?_, ht⟩
        rw [ht, hasFlag_raise_of_ne (by decide)]
        exact hasFlag_raise_self
  case feeder =>
    intro t kept
    have ht : t.gate = s.gate := rfl
    have hvisit (f : Visit → Visit) : updVisit f t = t.setGate { s.gate with visit := some (f v) } := updVisit_some hv
    have hres : t.resetting = true := by simp [State.resetting, ht, hr]
    refine ⟨fun hn => ⟨?_, ?_, ?_⟩, fun hn => ⟨?_, ?_⟩, ?_⟩
    · refine (completion_matched ho hx (isFor_iff.mpr ⟨hn, hi⟩)).trans ?_
      show Host.Outcome.next (settle (sendNext .feeder (afterLoad t))) = _
      rw [afterLoad, hvisit]
      dsimp only [State.setGate_gate]
      rw [if_pos (by exact hres)]
    · refine (completion_matched ho hx (isFor_iff.mpr ⟨hn, hi⟩)).trans ?_
      show Host.Outcome.next (settle (sendNext .feeder (emptyLoad t))) = _
      rw [emptyLoad, if_pos hres]
    · refine (completion_matched ho hx (isFor_iff.mpr ⟨hn, hi⟩)).trans ?_
      show Host.Outcome.next (settle (sendNext .feeder (gateJam t))) = _
      rw [gateJam_resetting (s := t) hr, keepFailure_eq (s := t) _ hc hv]
      rfl
    · refine (completion_matched ho hx (isFor_iff.mpr ⟨hn, hi⟩)).trans ?_
      show Host.Outcome.next (settle (sendNext .feeder (returnDone .ok t))) = Host.Outcome.next _
      simp only [returnDone, hvisit]
      rw [if_pos (by exact hres)]
    · refine (completion_matched ho hx (isFor_iff.mpr ⟨hn, hi⟩)).trans ?_
      show Host.Outcome.next (settle (sendNext .feeder (gateJam t))) = _
      rw [gateJam_resetting (s := t) hr, keepFailure_eq (s := t) _ hc hv]
      rfl
    · obtain ⟨-, -, -, -, -, hresetting, hcleanup⟩ := Told.afterTimeout (s := s) (u := .feeder) rfl o
      have htimed : timedOut .feeder o s = absentUnit .feeder ((s.slot .feeder).waiting.foldl (withdraw .feeder)
          (changeSlot .feeder .absent (updSlot .feeder (fun y => { y with waiting := [] }) (keepFailure .unitTimeout t)))) := by
        simp only [timedOut, takeTimeout, hi]
        rfl
      rw [keepFailure_eq (s := t) _ hc hv, withdraws_eq_answersLost rfl] at htimed
      have hgate : (timedOut .feeder o s).gate = { s.gate with cleanup := some (kept .unitTimeout) } := by
        rw [htimed]
        simp [absentUnit, ht, kept]
      obtain ⟨-, hfaults⟩ := hresetting (by rw [hgate]; exact hr)
      rw [hcleanup, hgate]
      refine ⟨rfl, ?_⟩
      simp only [faultsOf, Prod.mk.injEq] at hfaults
      rw [hfaults.1, htimed]
      simp [changeSlot, t]
  case meter =>
    intro t
    have hplain (x : Slot) (h1 : x.outstanding = none) (h2 : x.waiting = []) : .cutPhase ∉ x.issuers := by
      simp [Slot.issuers, h1, h2]
    refine ⟨fun r hcmd hf => ?_, fun z r hcmd hf => ?_, ?_, ?_, ?_, fun x => ?_⟩
    · refine (completion_matched ho rfl (by simp [meterIssuer, UnitCmd.name, hcmd, hi, hf])).trans ?_
      rw [if_neg (by simp [hi])]
      rfl
    · refine (completion_matched ho rfl (by simp [meterIssuer, UnitCmd.name, hcmd, hi, hf])).trans ?_
      rw [if_neg (by simp [hi])]
      rfl
    · show execUnitCommandTimeout .meter s = _
      rw [execUnitCommandTimeout, ho]
    · have hout : (t.slot .meter).outstanding = none := rfl
      have hwaiting : (t.slot .meter).waiting = (s.slot .meter).waiting := rfl
      cases hl : (s.slot .meter).waiting with
      | nil =>
        rw [sendNext_idle (.inr (hwaiting.trans hl))]
        exact hplain _ hout (hwaiting.trans hl)
      | cons d rest =>
        rw [sendNext_sends hout (hwaiting.trans hl)]
        have hall (w : Issued) (hmem : w ∈ d :: rest) : w.issuer ≠ .cutPhase := hw w (hl ▸ hmem)
        intro hmem
        have hissuers : Issuer.cutPhase = d.issuer ∨ ∃ w ∈ rest, w.issuer = .cutPhase := by
          simpa [State.slot, State.setSlot, Bus.set, Bus.get, Slot.issuers] using hmem
        obtain h | ⟨w, hmem, h⟩ := hissuers
        · exact hall d (by simp) h.symm
        · exact hall w (by simp [hmem]) h
    · rw [(Told.afterTimeout rfl o).slots .meter (.inl (by simp))]
      obtain ⟨-, -, hout, hwaiting⟩ := slot_timedOut .meter o s
      exact hplain _ hout hwaiting
    · obtain ⟨-, -, hout, hwaiting⟩ := slot_meterLost x s
      exact hplain _ hout hwaiting

end Sys2Proof.Machine
end


section
/-!
O31: LINK RESET, from its entry and the fall of the lines to the end of its step.
-/

namespace Sys2Proof.Machine

variable {s t u : State} {v : Visit} {c : Cleanup} {k : Back} {n : Nat}

/-! ## A step's end with the queues empty -/

/-- No order, no wanted set and no waiting report: what LINK RESET leaves for the cleanup. -/
structure Emptied (s : State) : Prop where
  orders : s.queue.orders = []
  ending : s.queue.ending = []
  wantedStock : s.queue.wantedStock = []
  wantedMagazine : s.queue.wantedMagazine = []
  reports : ∀ k, (s.roll k).report = none

theorem Emptied.drainReports (h : Emptied s) : drainReports s = s := by
  have hoffers : offers s = [] := by
    simp [offers, rollOffer, h.ending, h.reports]
  unfold Machine.drainReports
  generalize Config.reportCapacity + 1 - s.link.reports.length = i
  cases i with
  | zero => rfl
  | succ i =>
    unfold drainFuel
    rw [hoffers]
    split <;> rfl

theorem Emptied.refreshWanted (h : Emptied s) : refreshWanted s = s := by
  have hstocks : s.wantedStocks = [] := by simp [State.wantedStocks, h.orders]
  have hmagazines : s.wantedMagazines = [] := by simp [State.wantedMagazines, h.orders]
  have hqueue : ({ s.queue with orders := [], wantedStock := [], wantedMagazine := [] } : Queue) = s.queue := by
    obtain ⟨ho, -, hs, hm, -⟩ := h
    revert ho hs hm
    generalize s.queue = q
    cases q
    rintro rfl rfl rfl
    rfl
  simp only [Machine.refreshWanted, hstocks, hmagazines, h.orders, List.map_nil, entering, List.filter_nil, List.length_nil,
    raiseTimes]
  exact congrArg s.setQueue hqueue

theorem Emptied.closeVisit (h : Emptied s) (hv : s.gate.visit = some v) :
    closeVisit s = setLabelWait false (s.setGate { s.gate with visit := none, resume := none }) := by
  have hwith (w : Bool) : membersWith w v s = [] := by simp [membersWith, h.orders]
  have hrequeue : requeue (membersWith true v s) s = s := by rw [hwith]; rfl
  have hend : endVisit s = setLabelWait false (s.setGate { s.gate with visit := none, resume := none }) := by
    rw [endVisit_eq hv, hrequeue, hwith]
    rfl
  have hempty : Emptied (setLabelWait false (s.setGate { s.gate with visit := none, resume := none })) :=
    ⟨h.orders, h.ending, h.wantedStock, h.wantedMagazine, h.reports⟩
  rw [closeVisit_some _ hv, hend, hempty.drainReports, hempty.refreshWanted]

/-- What a stage of the cleanup leaves, with the queues empty. -/
structure Cleaned (s t : State) : Prop where
  queue : t.queue = s.queue
  labels : t.labels.queue = s.labels.queue
  rolls : t.rolls = s.rolls
  charge : t.charge = s.charge
  stepMode : t.gate.stepMode = s.gate.stepMode
  resume : s.gate.resume = none → t.gate.resume = none
  engine : s.gate.engine = .resetting ∨ s.gate.engine = .stopped ∨ s.gate.engine = .faulted →
    t.gate.engine = .resetting ∨ t.gate.engine = .stopped ∨ t.gate.engine = .faulted
  pendingFault : t.events.pendingFault = s.events.pendingFault
  traps : t.events.traps = s.events.traps
  slots : ∀ x, x ≠ .feeder → t.slot x = s.slot x
  reports : s.link.reports = [] → t.link.reports = []

theorem Cleaned.refl (s : State) : Cleaned s s :=
  ⟨rfl, rfl, rfl, rfl, rfl, id, id, rfl, rfl, fun _ _ => rfl, id⟩

theorem Cleaned.trans (h : Cleaned s u) (g : Cleaned u t) : Cleaned s t :=
  ⟨g.queue.trans h.queue, g.labels.trans h.labels, g.rolls.trans h.rolls, g.charge.trans h.charge,
    g.stepMode.trans h.stepMode, g.resume ∘ h.resume, g.engine ∘ h.engine, g.pendingFault.trans h.pendingFault,
    g.traps.trans h.traps, fun x hx => (g.slots x hx).trans (h.slots x hx), g.reports ∘ h.reports⟩

theorem Cleaned.emptied (h : Cleaned s t) (hs : Emptied s) : Emptied t :=
  ⟨by rw [h.queue, hs.orders], by rw [h.queue, hs.ending], by rw [h.queue, hs.wantedStock],
    by rw [h.queue, hs.wantedMagazine], fun k => by rw [roll_congr h.rolls, hs.reports]⟩

theorem arbiter_noReports (h : s.link.reports = []) : (arbiter s).link.reports = [] := by
  obtain ⟨he, -⟩ | ⟨-, ⟨r, rest, -, he⟩ | ⟨-, -, he⟩ | ⟨r, rest, -, -, hr, he⟩⟩ := arbiter_cases s
  · rwa [he]
  · rwa [he]
  · rwa [he]
  · simp [hr] at h

theorem Cleaned.raise (h : Cleaned s u) (f : EventFlag) : Cleaned s (raise f u) := by
  refine h.trans ⟨by simp, by simp, by simp, by simp, by simp, by simp, by simp, by simp, by simp,
    fun x _ => slot_raise f x u, fun hr => ?_⟩
  obtain ⟨-, -, he⟩ | ⟨-, he⟩ := raise_cases u f <;> rw [he]
  · exact arbiter_noReports hr
  · exact hr

/-- A change of the gate that leaves its engine, STEP mode and resume record. -/
theorem Cleaned.gate (h : Cleaned s u) {g : Gate} (hg : g.engine = u.gate.engine ∧ g.stepMode = u.gate.stepMode ∧
    (u.gate.resume = none → g.resume = none)) : Cleaned s (u.setGate g) := by
  obtain ⟨h1, h2, h3⟩ := hg
  exact h.trans ⟨rfl, rfl, rfl, rfl, h2, h3, fun h => by rwa [State.setGate_gate, h1], rfl, rfl, fun _ _ => rfl, id⟩

/-- A change of the gate at which the engine stops. -/
theorem Cleaned.stops (h : Cleaned s u) {g : Gate} (hg : (g.engine = .stopped ∨ g.engine = .faulted) ∧
    g.stepMode = u.gate.stepMode ∧ (u.gate.resume = none → g.resume = none)) : Cleaned s (u.setGate g) := by
  obtain ⟨h1, h2, h3⟩ := hg
  exact h.trans ⟨rfl, rfl, rfl, rfl, h2, h3, fun _ => .inr h1, rfl, rfl, fun _ _ => rfl, id⟩

theorem Cleaned.setEvents (h : Cleaned s u) {e : Events} (hp : e.pendingFault = u.events.pendingFault)
    (ht : e.traps = u.events.traps) : Cleaned s (u.setEvents e) :=
  h.trans ⟨rfl, rfl, rfl, rfl, rfl, id, id, hp, ht, fun _ _ => rfl, id⟩

theorem Cleaned.updFeeder (h : Cleaned s u) (f : Slot → Slot) : Cleaned s (updSlot .feeder f u) :=
  h.trans ⟨rfl, rfl, rfl, rfl, rfl, id, id, rfl, rfl, fun _ hx => updSlot_other _ _ _ _ hx, id⟩

theorem Cleaned.issueFeeder (h : Cleaned s u) (cmd : UnitCmd) (i : Issuer) : Cleaned s (issue .feeder cmd i u) :=
  h.trans ⟨by simp, by simp, by simp, by simp, by simp, by simp, by simp, by simp, by simp,
    fun _ hx => issue_other _ _ _ _ _ hx, by simp⟩

theorem Cleaned.closeVisit (h : Cleaned s u) (hu : Emptied u) : Cleaned s (closeVisit u) := by
  rcases hv : u.gate.visit with _ | v
  · rwa [closeVisit_none _ hv]
  · rw [hu.closeVisit hv]
    have hg : Cleaned s (u.setGate { u.gate with visit := none, resume := none }) := h.gate ⟨rfl, rfl, fun _ => rfl⟩
    exact hg.trans ⟨rfl, rfl, rfl, rfl, rfl, id, id, rfl, rfl, fun _ _ => rfl, id⟩

theorem Cleaned.returnSlide (h : Cleaned s u) (c : Cleanup) : Cleaned s (returnSlide c u) := by
  have hback := h.gate (g := { u.gate with visit := u.gate.visit.map (fun v => { v with state := .returning }) })
    ⟨rfl, rfl, id⟩
  unfold Machine.returnSlide
  split
  · exact h
  · split
    · dsimp only
      split
      · exact hback.issueFeeder _ _
      · exact (hback.gate ⟨rfl, rfl, id⟩).gate ⟨rfl, rfl, id⟩
    · exact h.gate ⟨rfl, rfl, id⟩

theorem Cleaned.endCleanup (h : Cleaned s u) (hu : Emptied u) (c : Cleanup) : Cleaned s (endCleanup c u) := by
  have hclose := h.closeVisit hu
  unfold Machine.endCleanup
  dsimp only
  split
  · have hdone := hclose.gate (g := { (Machine.closeVisit u).gate with cleanup := none }) ⟨rfl, rfl, id⟩
    refine Cleaned.raise (Cleaned.stops hdone ?_) _
    exact ⟨.inl rfl, rfl, id⟩
  · next f _ =>
    have hfault := hclose.setEvents (e := { (Machine.closeVisit u).events with current := some f }) rfl rfl
    refine Cleaned.raise (Cleaned.raise (Cleaned.stops hfault ?_) _) _
    exact ⟨.inr rfl, rfl, id⟩

theorem Cleaned.cleanupStep (h : Cleaned s u) (hu : Emptied u) : Cleaned s (cleanupStep u) := by
  unfold Machine.cleanupStep
  split
  · exact h
  · split
    · split
      exacts [h.gate ⟨rfl, rfl, id⟩, h]
    · split
      exacts [(h.updFeeder _).gate ⟨rfl, rfl, id⟩, h]
    · exact h.returnSlide _
    · exact h.endCleanup hu _

theorem Cleaned.runCleanup (hs : Emptied s) : Cleaned s (runCleanup s) := by
  have h1 := (Cleaned.refl s).cleanupStep hs
  have h2 := h1.cleanupStep (h1.emptied hs)
  have h3 := h2.cleanupStep (h2.emptied hs)
  exact h3.cleanupStep (h3.emptied hs)

/-- With the queues empty and the engine RESETTING, the cleanup is the whole end of the step. -/
theorem settle_emptied (hs : Emptied s) (hr : s.gate.engine = .resetting) : settle s = runCleanup s := by
  have h := Cleaned.runCleanup hs
  have hengine := h.engine (.inl hr)
  unfold settle
  rw [(h.emptied hs).refreshWanted]
  have hstop : stopEnds (runCleanup s) = runCleanup s := by
    refine if_neg ?_
    rcases hengine with he | he | he <;> simp [stopDone, he]
  rw [hstop]
  refine if_neg ?_
  rcases hengine with he | he | he <;> simp [he]

/-! ## The accounts (R20, R131, R137) -/

/-- An account once the orders of a list that are its own have been settled on it. -/
def settledBy (os : List Order) (a : Account) : Account :=
  let mine := os.filter (fun o => o.account == a.number)
  if mine = [] then a
  else { a with charged := a.charged + (mine.map settledAmount).sum,
                committed := a.committed - (mine.map (fun o => o.held)).sum,
                goodFrames := min 16777215 (a.goodFrames + (mine.map (fun o => o.goodFrames)).sum),
                settledOrders := min 65535 (a.settledOrders + mine.length) }

theorem settledBy_cons (o : Order) (os : List Order) (a : Account) :
    settledBy os (if a.number = o.account then a.settle o else a) = settledBy (o :: os) a := by
  by_cases ha : a.number = o.account
  · have hcons : (o :: os).filter (fun o => o.account == a.number) = o :: os.filter (fun o => o.account == a.number) := by
      rw [List.filter_cons_of_pos (by simp [ha])]
    rw [if_pos ha]
    simp only [settledBy]
    rw [hcons, show (a.settle o).number = a.number from rfl, if_neg (List.cons_ne_nil _ _)]
    generalize os.filter (fun o => o.account == a.number) = mine
    by_cases hm : mine = []
    · rw [if_pos hm, hm]
      simp [Account.settle, satAdd, Config.maxSum, Config.maxCount]
    · rw [if_neg hm]
      simp only [Account.settle, satAdd, Config.maxSum, Config.maxCount, List.map_cons, List.sum_cons, List.length_cons,
        Account.mk.injEq, true_and]
      omega
  · have hcons : (o :: os).filter (fun o => o.account == a.number) = os.filter (fun o => o.account == a.number) := by
      rw [List.filter_cons_of_neg (by simpa using Ne.symm ha)]
    rw [if_neg ha]
    simp only [settledBy, hcons]

theorem settleOrder_some {o : Order} (h : s.order? n = some o) : settleOrder n s =
    updOrder n (Order.settledAt (settledAmount o)) (updAccount o.account (fun a => a.settle o) s) := by
  simp only [settleOrder, h]
  rfl

theorem settleOrders_charge (os : List Order) (hn : (os.map (fun o => o.number)).Nodup)
    (h : ∀ o ∈ os, s.order? o.number = some o) :
    ((os.map (fun o => o.number)).foldl (fun t n => settleOrder n t) s).charge =
      { s.charge with accounts := s.charge.accounts.map (settledBy os) } := by
  induction os generalizing s with
  | nil =>
    have hid : settledBy [] = id := rfl
    rw [hid, List.map_id]
    rfl
  | cons o os ih =>
    obtain ⟨hnot, hn⟩ := List.nodup_cons.mp (show (o.number :: os.map (fun o => o.number)).Nodup from hn)
    rw [List.map_cons, List.foldl_cons, settleOrder_some (h o (by simp)), ih hn fun p hp => ?_]
    · simp only [updOrder, updAccount, State.setQueue_charge, State.setCharge_charge, List.map_map]
      refine congrArg (fun l => ({ s.charge with accounts := l } : Charge)) (List.map_congr_left fun a _ => ?_)
      exact settledBy_cons o os a
    · have hne : p.number ≠ o.number := fun he => hnot (he ▸ List.mem_map_of_mem hp)
      have hsettled : ∀ x : Order, (Order.settledAt (settledAmount o) x).number = x.number := fun _ => rfl
      rw [order?_updOrder_other hsettled hne]
      exact h p (List.mem_cons_of_mem _ hp)

theorem charge_resetOrders (hn : (s.queue.orders.map (fun o => o.number)).Nodup) : (resetOrders s).charge =
    { s.charge with accounts := s.charge.accounts.map (settledBy (s.queue.orders.filter Order.live)) } := by
  show (List.foldl _ s _).charge = _
  refine settleOrders_charge _ (hn.sublist (List.filter_sublist.map _)) fun o ho => ?_
  exact order?_of_mem hn (List.mem_of_mem_filter ho)

/-- The orders settled charge no frame to the house account. -/
theorem house_resetOrders : (resetOrders s).charge.house = s.charge.house := by
  show (List.foldl _ s _).charge.house = _
  generalize (s.queue.orders.filter Order.live).map (fun o => o.number) = ns
  induction ns generalizing s with
  | nil => rfl
  | cons n ns ih =>
    rw [List.foldl_cons, ih]
    cases h : s.order? n with
    | none => simp [settleOrder, h]
    | some o => rw [settleOrder_some h]; rfl

/-! ## The fall of the lines (R84, R138, R164) -/

/-- A frame record SPOILED LAMP. -/
def FrameRec.spoiled (f : FrameRec) : FrameRec := { f with lampSpoiled := true }

theorem spoilFrame_frames (k j : Back) (s : State) : (spoilFrame k s).timer.frames.get j =
    if j = k then (s.timer.frames.get j).map FrameRec.spoiled else s.timer.frames.get j := by
  unfold spoilFrame
  by_cases hj : j = k
  · subst hj
    rw [if_pos rfl]
    split
    · next hf => rw [hf]; rfl
    · next f hf =>
      by_cases hl : f.lampSpoiled = true
      · have hspoiled : f.spoiled = f := by rw [FrameRec.spoiled, ← hl]
        rw [if_pos hl, hf, Option.map_some, hspoiled]
      · rw [if_neg hl, hf]
        simp [chargeFrames, FrameRec.spoiled]
  · rw [if_neg hj]
    split
    · rfl
    · split
      · rfl
      · simp [chargeFrames, hj]

theorem spoilFrame_timer (k : Back) (s : State) :
    (spoilFrame k s).timer = { s.timer with frames := (spoilFrame k s).timer.frames } := by
  unfold spoilFrame
  split
  · rfl
  · split <;> rfl

theorem spoilFrame_charge (k : Back) (s : State) : (spoilFrame k s).charge =
    if (s.timer.frames.get k).any (fun f => !f.lampSpoiled) then
      { s.charge with house := s.charge.house.waste .spoiled (s.framePrice k) 1 } else s.charge := by
  unfold spoilFrame
  cases hf : s.timer.frames.get k with
  | none => rfl
  | some f =>
    by_cases hl : f.lampSpoiled = true
    · simp [hl]
    · simp only [Option.any_some, hl, Bool.not_false, Bool.false_eq_true, ↓reduceIte, chargeFrames, Nat.one_mul]
      rfl

theorem spoilFrame_price (k j : Back) (s : State) : (spoilFrame k s).framePrice j = s.framePrice j := by
  have hrolls : (spoilFrame k s).roll j = s.roll j := roll_congr (by simp) j
  have hstock : (spoilFrame k s).stock? = s.stock? := by
    funext code
    simp [State.stock?]
  rw [State.framePrice, State.framePrice, hrolls, hstock]

theorem mem_issuers_issue {i : Issuer} (x u : UnitSlot) (cmd : UnitCmd) (j : Issuer) (h : i ∈ (s.slot x).issuers) :
    i ∈ ((issue u cmd j s).slot x).issuers := by
  by_cases hx : x = u
  · subst hx
    obtain ⟨ho, hw, -⟩ | ⟨-, he⟩ := issue_slot s x cmd j
    · simp [Slot.issuers, ho, hw] at h
    · rw [he]
      simp only [Slot.issuers, List.map_append, ← List.append_assoc]
      exact List.mem_append_left _ h
  · rwa [issue_other _ _ _ _ _ hx]

theorem issuer_mem_issue (u : UnitSlot) (cmd : UnitCmd) (i : Issuer) (s : State) :
    i ∈ ((issue u cmd i s).slot u).issuers := by
  obtain ⟨-, -, he⟩ | ⟨-, he⟩ := issue_slot s u cmd i
  · rw [he]
    exact List.mem_append_left _ (List.mem_singleton_self _)
  · rw [he]
    simp [Slot.issuers]

/-- Each back that owes an advance has it at its slot. -/
theorem mem_issuers_oweAdvances {ks : List Back} (hk : k ∈ ks) :
    .firing ∈ ((oweAdvances ks s).slot k.slot).issuers := by
  have hkeeps (js : List Back) (s : State) (h : .firing ∈ (s.slot k.slot).issuers) :
      .firing ∈ ((oweAdvances js s).slot k.slot).issuers := by
    induction js generalizing s with
    | nil => exact h
    | cons j js ih => exact ih _ (mem_issuers_issue _ _ _ _ h)
  induction ks generalizing s with
  | nil => nomatch hk
  | cons j ks ih =>
    obtain rfl | hk := List.mem_cons.mp hk
    · exact hkeeps ks _ (issuer_mem_issue _ _ _ _)
    · exact ih hk

theorem timer_oweAdvances (ks : List Back) (s : State) : (oweAdvances ks s).timer = s.timer := by simp

theorem charge_oweAdvances (ks : List Back) (s : State) : (oweAdvances ks s).charge = s.charge := by simp

/-- The frame records as the lines fall: one for each back in the firing, not yet SPOILED. -/
def fallenFrames (s : State) : PerBack (Option FrameRec) :=
  match s.timer.firing with
  | some f => framesAfter s f false
  | none => s.timer.frames

theorem resetFiring_eq (s : State) : resetFiring s =
    oweAdvances (includedBacks s) (spoilFrame .b (spoilFrame .a (dropLines (fallenFrames s) s))) := rfl

theorem fallenFrames_of_shot {f : Firing} {x : Shot} (hf : s.timer.firing = some f) (hx : s.shot? k = some x) :
    (fallenFrames s).get k = some (frameOf f x false) := by
  rw [fallenFrames, hf]
  cases k <;> simp [framesAfter, PerBack.get, hx]

theorem fallenFrames_of_none (hx : s.shot? k = none) : (fallenFrames s).get k = s.timer.frames.get k := by
  unfold fallenFrames
  split
  · cases k <;> simp [framesAfter, PerBack.get, hx]
  · rfl

theorem firing_of_shot {x : Shot} (hx : s.shot? k = some x) : ∃ f, s.timer.firing = some f := by
  cases hf : s.timer.firing with
  | none => simp [State.shot?, hf] at hx
  | some f => exact ⟨f, rfl⟩

theorem resetFiring_timer (s : State) : (resetFiring s).timer = { s.timer with
    firing := none, count := none, lamp := false, shutters := ⟨false, false⟩, frames := (resetFiring s).timer.frames } := by
  rw [resetFiring_eq, timer_oweAdvances, spoilFrame_timer, spoilFrame_timer]
  rfl

theorem resetFiring_frames (k : Back) (s : State) :
    (resetFiring s).timer.frames.get k = ((fallenFrames s).get k).map FrameRec.spoiled := by
  rw [resetFiring_eq, timer_oweAdvances, spoilFrame_frames, spoilFrame_frames]
  cases k <;> simp [dropLines]

theorem unspoiled_fallenFrames (k : Back) (s : State) : ((fallenFrames s).get k).any (fun f => !f.lampSpoiled) =
    ((s.shot? k).isSome || (s.timer.frames.get k).any (fun f => !f.lampSpoiled)) := by
  cases hx : s.shot? k with
  | none => simp [fallenFrames_of_none hx]
  | some x =>
    obtain ⟨f, hf⟩ := firing_of_shot hx
    simp [fallenFrames_of_shot hf hx, frameOf]

/-- The charges of the two backs together. -/
theorem houseSpoiled (p : Back → Bool) (price : Back → Nat) (x : Charge) :
    (let y := if p .a then { x with house := x.house.waste .spoiled (price .a) 1 } else x
     if p .b then { y with house := y.house.waste .spoiled (price .b) 1 } else y) =
    { x with house := if [Back.a, .b].filter p = [] then x.house else
      { x.house with
        charged := min 16777215 (x.house.charged + (([Back.a, .b].filter p).map price).sum)
        spoiled := min 65535 (x.house.spoiled + ([Back.a, .b].filter p).length) } } := by
  cases ha : p .a <;> cases hb : p .b <;>
    simp [ha, hb, House.waste, satAdd, Config.maxSum, Config.maxCount]
  omega

/-- The house account is charged once for each frame not SPOILED before. -/
theorem resetFiring_house (s : State) : (resetFiring s).charge =
    let spoiled := [Back.a, .b].filter (fun k => (s.shot? k).isSome || (s.timer.frames.get k).any (fun f => !f.lampSpoiled))
    { s.charge with house := if spoiled = [] then s.charge.house else
        { s.charge.house with
          charged := min 16777215 (s.charge.house.charged + (spoiled.map s.framePrice).sum)
          spoiled := min 65535 (s.charge.house.spoiled + spoiled.length) } } := by
  have hother : (spoilFrame .a (dropLines (fallenFrames s) s)).timer.frames.get .b = (fallenFrames s).get .b := by
    rw [spoilFrame_frames]
    rfl
  have hprice : (dropLines (fallenFrames s) s).framePrice = s.framePrice := by
    funext k
    rfl
  have hsame : (dropLines (fallenFrames s) s).timer.frames.get .a = (fallenFrames s).get .a := rfl
  have hcharge : (dropLines (fallenFrames s) s).charge = s.charge := rfl
  rw [resetFiring_eq, charge_oweAdvances, spoilFrame_charge, hother, spoilFrame_price, spoilFrame_charge, hsame, hprice,
    hcharge, unspoiled_fallenFrames, unspoiled_fallenFrames]
  exact houseSpoiled (fun k => (s.shot? k).isSome || (s.timer.frames.get k).any (fun f => !f.lampSpoiled)) s.framePrice
    s.charge

/-! ## LINK RESET (R20, R163) -/

theorem nextNumber_resetOrders : (resetOrders s).queue.nextNumber = s.queue.nextNumber := by
  show (List.foldl _ s _).queue.nextNumber = _
  generalize (s.queue.orders.filter Order.live).map (fun o => o.number) = ns
  induction ns generalizing s with
  | nil => rfl
  | cons n ns ih =>
    rw [List.foldl_cons, ih]
    cases h : s.order? n with
    | none => simp [settleOrder, h]
    | some o => rw [settleOrder_some h]; rfl

theorem resetEntry_link (s : State) : (resetEntry s).link =
    { s.link with buffer := [], replies := [], reserved := 0, notice := false, reports := [] } := by
  simp [resetEntry, resetLinkQueues, resetBusCommands, resetLabelQueue, resetFlags]

theorem resetEntry_charge (s : State) : (resetEntry s).charge = (resetOrders s).charge := by
  simp [resetEntry, resetLinkQueues, resetBusCommands, resetLabelQueue, resetFlags]

theorem resetEntry_roll (k : Back) (s : State) : (resetEntry s).roll k = resetRoll (s.roll k) := by
  cases k <;> simp [resetEntry, resetLinkQueues, resetBusCommands, resetLabelQueue, resetFlags, State.roll, PerBack.get]

/-- The reply of LINK RESET. -/
def resetReply (tag : Byte) : Reply := { cls := 3#8, tag := tag, command := 8, result := .ok, data := .engine .resetting none }

/-- The state of LINK RESET past its entry, with its reply. -/
def resetAnswered (tag : Byte) (s : State) : State := addReply (resetReply tag) (resetEntry s)

theorem linkReset_eq (tag : Byte) (s : State) :
    linkReset tag () s = updSlot .meter cutMeterSlot (cutMetering (resetFiring (resetAnswered tag s))) := rfl

theorem linkReset_timer (tag : Byte) (s : State) : (linkReset tag () s).timer = (resetFiring (resetAnswered tag s)).timer := by
  have hlamp : (resetFiring (resetAnswered tag s)).timer.lamp = false := by rw [resetFiring_timer]
  rw [linkReset_eq]
  show (cutMetering _).timer = _
  unfold cutMetering
  split
  · show ({ (resetFiring (resetAnswered tag s)).timer with lamp := false } : Timer) = _
    rw [← hlamp]
  · rfl

theorem resetAnswered_timer (tag : Byte) (s : State) : (resetAnswered tag s).timer = s.timer := by
  simp [resetAnswered]

theorem resetAnswered_price (tag : Byte) (k : Back) (s : State) : (resetAnswered tag s).framePrice k = s.framePrice k := by
  have hroll : ((resetAnswered tag s).roll k).stock? = (s.roll k).stock? := by
    rw [resetAnswered, roll_congr (t := resetEntry s) (by simp), resetEntry_roll]
    rfl
  have hstock : (resetAnswered tag s).stock? = s.stock? := by
    funext code
    simp [State.stock?, resetAnswered]
  rw [State.framePrice, State.framePrice, hroll, hstock]

theorem linkReset_frame_get (tag : Byte) (k : Back) (s : State) :
    (linkReset tag () s).timer.frames.get k = ((fallenFrames s).get k).map FrameRec.spoiled := by
  have hfallen : fallenFrames (resetAnswered tag s) = fallenFrames s := by
    have ht := resetAnswered_timer tag s
    have hshot (k : Back) := shot?_congr ht k
    unfold fallenFrames framesAfter
    simp only [ht, hshot]
  rw [linkReset_timer, resetFiring_frames, hfallen]

theorem linkReset_link (tag : Byte) (s : State) : (linkReset tag () s).link =
    if s.link.mayBegin then { s.link with
      buffer := [], replies := [], reserved := 0, notice := false, reports := [], sending := some (.reply (resetReply tag)) }
    else { s.link with
      buffer := [], replies := [resetReply tag], reserved := 0, notice := false, reports := [] } := by
  have hreplied : (linkReset tag () s).link = repliedLink (resetReply tag) (resetEntry s).link := by
    rw [linkReset_eq]
    simp [resetAnswered, addReply_eq_setLink]
  rw [hreplied, resetEntry_link]
  rfl

theorem linkReset_queue (tag : Byte) (s : State) : (linkReset tag () s).queue = (resetOrders s).queue := by
  simp [linkReset, answer, resetEntry, resetLinkQueues, resetBusCommands, resetLabelQueue, resetFlags]

theorem linkReset_emptied (tag : Byte) (s : State) : Emptied (linkReset tag () s) := by
  have hqueue := linkReset_queue tag s
  refine ⟨by rw [hqueue]; rfl, by rw [hqueue]; rfl, by rw [hqueue]; rfl, by rw [hqueue]; rfl, fun k => ?_⟩
  have hroll : (linkReset tag () s).roll k = resetRoll (s.roll k) := by
    rw [← resetEntry_roll]
    exact roll_congr (by simp [linkReset, answer]) k
  rw [hroll]
  rfl

theorem linkReset_charge (tag : Byte) (s : State) : (linkReset tag () s).charge =
    let spoiled := [Back.a, .b].filter (fun k => (s.shot? k).isSome || (s.timer.frames.get k).any (fun f => !f.lampSpoiled))
    { (resetOrders s).charge with house := if spoiled = [] then s.charge.house else
        { s.charge.house with
          charged := min 16777215 (s.charge.house.charged + (spoiled.map s.framePrice).sum)
          spoiled := min 65535 (s.charge.house.spoiled + spoiled.length) } } := by
  have hcharge : (resetAnswered tag s).charge = (resetOrders s).charge := by
    rw [← resetEntry_charge]
    simp [resetAnswered]
  have hprice : (resetAnswered tag s).framePrice = s.framePrice := funext fun k => resetAnswered_price tag k s
  have hshot (k : Back) := shot?_congr (resetAnswered_timer tag s) k
  have hfiring : (linkReset tag () s).charge = (resetFiring (resetAnswered tag s)).charge := by
    rw [linkReset_eq]
    simp
  rw [hfiring, resetFiring_house, hcharge, hprice, resetAnswered_timer, house_resetOrders]
  simp only [hshot]

theorem oweAdvances_gate (ks : List Back) (s : State) : ∃ v, (oweAdvances ks s).gate = { s.gate with visit := v } := by
  induction ks generalizing s with
  | nil => exact ⟨s.gate.visit, rfl⟩
  | cons k ks ih =>
    obtain ⟨v, hv⟩ := ih (oweAdvance k s)
    have hone : (oweAdvance k s).gate = { s.gate with visit := (oweAdvance k s).gate.visit } := by simp [oweAdvance, updVisit]
    exact ⟨v, by rw [oweAdvances, List.foldl_cons, ← oweAdvances, hv, hone]⟩

theorem linkReset_gate (tag : Byte) (s : State) : (linkReset tag () s).gate = { s.gate with
    engine := .resetting, stopKind := none, stepMode := false, resume := none,
    cleanup := some { stage := .lines, failure := none }, visit := (linkReset tag () s).gate.visit } := by
  obtain ⟨v, hv⟩ := oweAdvances_gate (includedBacks (resetAnswered tag s))
    (spoilFrame .b (spoilFrame .a (dropLines (fallenFrames (resetAnswered tag s)) (resetAnswered tag s))))
  have hcut (u : State) : (cutMetering u).gate = { u.gate with visit := (cutMetering u).gate.visit } := by
    unfold cutMetering
    split <;> rfl
  have hentry : (resetAnswered tag s).gate = (resetEngine s).gate := by
    simp [resetAnswered, resetEntry, resetLinkQueues, resetBusCommands, resetLabelQueue, resetFlags, resetEngine]
  have hdropped (x : PerBack (Option FrameRec)) : (spoilFrame .b (spoilFrame .a (dropLines x (resetAnswered tag s)))).gate =
      (resetAnswered tag s).gate := by simp [dropLines]
  have hreset : (linkReset tag () s).gate = (cutMetering (resetFiring (resetAnswered tag s))).gate := rfl
  rw [hreset, hcut, resetFiring_eq, hv, hdropped, hentry]
  rfl

/-- Settles O31. -/
theorem linkReset_holds : Obligations.LinkReset := by
  intro tag s t ht hr
  have hempty := linkReset_emptied tag t
  have hgate := linkReset_gate tag t
  have hengine : (linkReset tag () t).gate.engine = .resetting := by rw [hgate]
  have hclean := Cleaned.runCleanup hempty
  have honward := (Onward.refl (linkReset tag () t)).runCleanup
  have hlink := linkReset_link tag t
  have hblocked : (linkReset tag () t).link.mayBegin = false := by
    rw [hlink]
    split
    · exact not_mayBegin (.inl rfl)
    · next h => exact Bool.eq_false_iff.mpr h
  obtain ⟨hreplies, hsending⟩ := honward.held hblocked
  rw [List.append_nil] at hreplies
  have htimer : (runCleanup (linkReset tag () t)).timer = (linkReset tag () t).timer := by simp
  have hlines : (linkReset tag () t).timer = { t.timer with
      firing := none, count := none, lamp := false, shutters := ⟨false, false⟩,
      frames := (linkReset tag () t).timer.frames } := by
    rw [linkReset_timer, resetFiring_timer, resetAnswered_timer]
  have hframe (k : Back) := linkReset_frame_get tag k t
  have hcharge := hclean.charge.trans (linkReset_charge tag t)
  refine ⟨runCleanup (linkReset tag () t), ?_, ?_, ?_, ?_, ?_, ?_, ?_, ?_, ?_, ?_, ?_, ?_, ?_, ?_, ?_, ?_, ?_, ?_, ?_, ?_, ?_,
    ?_, ?_, ?_, ?_, fun k f hf => ?_, fun k f x hf hx => ⟨?_, ?_⟩, fun k hx => ?_, ?_, ⟨fun h => ?_, fun h1 h2 => ?_⟩, fun hn => ?_⟩
  · rw [← settle_emptied hempty hengine]
    exact exec_checked rfl ht hr rfl
  · exact (hclean.emptied hempty).orders
  · exact (hclean.emptied hempty).ending
  · exact (hclean.emptied hempty).wantedStock
  · exact (hclean.emptied hempty).wantedMagazine
  · rw [hclean.queue, linkReset_queue, nextNumber_resetOrders]
  · rw [hclean.labels]
    simp [linkReset, answer, resetEntry, resetLinkQueues, resetBusCommands, resetLabelQueue]
  · simp [linkReset]
  · rw [honward.buffer, hlink]
    split <;> rfl
  · refine hclean.reports ?_
    rw [hlink]
    split <;> rfl
  · rw [honward.reserved, hlink]
    split <;> rfl
  · rw [honward.receiver, hlink]
    split <;> rfl
  · intro hs
    rw [hsending, hlink, if_neg (by simp [not_mayBegin (.inl hs)])]
  · rw [hclean.traps]
    simp [linkReset, answer, resetEntry, resetLinkQueues, resetBusCommands, resetLabelQueue, resetFlags]
  · rw [hclean.pendingFault]
    simp [linkReset, answer, resetEntry, resetLinkQueues, resetBusCommands, resetLabelQueue, resetFlags]
  · rw [hclean.stepMode, hgate]
  · exact hclean.resume (by rw [hgate])
  · exact hclean.engine (.inl hengine)
  · simp [linkReset]
  · simp [linkReset]
  · simp [linkReset]
  · rw [htimer, hlines]
  · rw [htimer, hlines]
  · rw [htimer, hlines]
  · rw [htimer, hlines]
  · rw [htimer, hframe] at hf
    obtain ⟨g, -, rfl⟩ := Option.map_eq_some_iff.mp hf
    rfl
  · rw [htimer, hframe, fallenFrames_of_shot hf hx]
    rfl
  · have hmem : k ∈ includedBacks (resetAnswered tag t) := by
      refine List.mem_filter.mpr ⟨by cases k <;> simp [bothBacks], ?_⟩
      rw [shot?_congr (resetAnswered_timer tag t), hx]
      rfl
    have hslot : (linkReset tag () t).slot k.slot = (resetFiring (resetAnswered tag t)).slot k.slot := by
      rw [linkReset_eq, updSlot_other _ _ _ _ (by cases k <;> simp [Back.slot])]
      exact slot_congr (by simp) _
    rw [hclean.slots _ (by cases k <;> simp [Back.slot]), hslot, resetFiring_eq]
    exact mem_issuers_oweAdvances hmem
  · rw [htimer, hframe, fallenFrames_of_none hx]
    rfl
  · rw [hcharge]
    rfl
  · rw [hreplies, hsending, hlink, if_neg (by simp [not_mayBegin h])]
    exact ⟨rfl, rfl⟩
  · rw [hreplies, hsending, hlink, if_pos (by simp [Link.mayBegin, h1, h2])]
    exact ⟨rfl, rfl⟩
  · rw [hcharge, charge_resetOrders hn]
    refine List.map_congr_left fun a _ => ?_
    have hmine : (t.queue.orders.filter Order.live).filter (fun o => o.account == a.number) =
        t.queue.orders.filter (fun o => o.state != .ending && o.account == a.number) := by
      rw [List.filter_filter]
      refine List.filter_congr fun o _ => ?_
      rw [Bool.and_comm]
      rfl
    rw [settledBy, hmine]
    rfl

end Sys2Proof.Machine
end


section
/-!
O59: the events of a firing, and what its end or abort leaves.
-/

namespace Sys2Proof.Machine

variable {s t u : State} {v : Visit} {f : Firing} {x : Shot} {k : Back} {n c : Nat}

/-! ## Shutters that fall leave the firing's end as it is (R74 to R76) -/

theorem shot?_closeShutters (hf : s.timer.firing = some f) (k : Back) :
    (closeShutters c f s).shot? k = (s.shot? k).map (f.closedAt c) := by
  have hcut (x : Shot) : ((f.closedAt c x).shutter != .cut) = (x.shutter != .cut) := by
    unfold Firing.closedAt
    split
    · next h => rw [h.1]; rfl
    · rfl
  have hshots : (closeShutters c f s).timer.firing.bind (fun f => f.shots.get k) = (f.shots.get k).map (f.closedAt c) := by
    cases k <;> rfl
  rw [State.shot?, hshots, State.shot?, hf, Option.bind_some, Option.filter_map]
  simp only [Function.comp_def, hcut]

theorem closedAt_item (y : Shot) : f.closedAt c y = { y with shutter := (f.closedAt c y).shutter } := by
  unfold Firing.closedAt
  split <;> rfl

theorem includedBacks_closeShutters (hf : s.timer.firing = some f) :
    includedBacks (closeShutters c f s) = includedBacks s := by
  simp only [includedBacks, shot?_closeShutters hf, Option.isSome_map]

/-- The lines dropped after shutters fall are the lines dropped before. -/
theorem dropLines_closeShutters (hf : s.timer.firing = some f) (lamp : Bool) (g : PerBack (Option Shot)) :
    dropLines (framesAfter (closeShutters c f s) { f with shots := g } lamp) (closeShutters c f s) =
      dropLines (framesAfter s f lamp) s := by
  have hframe (y : Shot) : frameOf { f with shots := g } (f.closedAt c y) lamp = frameOf f y lamp := by
    rw [closedAt_item]
    rfl
  have hframes : framesAfter (closeShutters c f s) { f with shots := g } lamp = framesAfter s f lamp := by
    unfold framesAfter
    simp only [shot?_closeShutters hf]
    cases s.shot? .a <;> cases s.shot? .b <;> simp [hframe, closeShutters]
  rw [hframes]
  rfl

theorem endFiring_eq (hf : s.timer.firing = some f) :
    endFiring s = testVisit (oweAdvances (includedBacks s) (dropLines (framesAfter s f false) s)) := by
  simp only [endFiring, hf]

/-- What an abort does before the tests of the visit. -/
def aborted (f : Firing) (s : State) : State :=
  oweAdvances (includedBacks s) (abortFiring.cutOutcomeIncluded f.serial s (raiseFault (lampFault s)
    (spoilShot .b (s.shot? .b) (spoilShot .a (s.shot? .a) (dropLines (framesAfter s f true) s)))))

theorem abortFiring_eq (hf : s.timer.firing = some f) : abortFiring s = testVisit (aborted f s) := by
  simp only [abortFiring, hf]
  rfl

theorem endFiring_closeShutters (hf : s.timer.firing = some f) : endFiring (closeShutters c f s) = endFiring s := by
  rw [endFiring_eq hf, endFiring_eq (s := closeShutters c f s) rfl, includedBacks_closeShutters hf, dropLines_closeShutters hf]

theorem abortFiring_closeShutters (hf : s.timer.firing = some f) : abortFiring (closeShutters c f s) = abortFiring s := by
  have hspoil (j : Back) (y : Option Shot) (w : State) : spoilShot j (y.map (f.closedAt c)) w = spoilShot j y w := by
    cases y with
    | none => rfl
    | some y =>
      rw [Option.map_some, closedAt_item]
      rfl
  have hfault : lampFault (closeShutters c f s) = lampFault s := by
    unfold lampFault
    simp only [shot?_closeShutters hf]
    cases ha : s.shot? .a with
    | some y =>
      rw [Option.map_some, closedAt_item]
      rfl
    | none =>
      cases hb : s.shot? .b with
      | some y =>
        rw [Option.map_some, closedAt_item]
        rfl
      | none => rfl
  rw [abortFiring_eq hf, abortFiring_eq (s := closeShutters c f s) rfl, aborted, aborted, includedBacks_closeShutters hf,
    dropLines_closeShutters hf, hfault]
  simp only [shot?_closeShutters hf, hspoil, abortFiring.cutOutcomeIncluded, includedBacks_closeShutters hf]

/-! ## What is told of a LAMP spoil (R75, R80) -/

/-- An order with a LAMP spoil of an item of its own told, unless it is ENDING. -/
def Order.lampTold (w : WorkItem) (o : Order) : Order :=
  if w.order = o.number ∧ o.state ≠ .ending then o.lampSpoil (w.copy, w.step) else o

theorem lampSpoil_eq (o : Order) (i : Nat × Nat) : o.lampSpoil i = { o with
    lampSpoils := min 255 (o.lampSpoils + 1)
    redo := if o.cancelRequested = true ∨ i ∈ o.redo then o.redo else o.redo ++ [i] } := by
  by_cases hc : o.cancelRequested = true
  · simp [Order.lampSpoil, satAdd, hc]
  · by_cases hi : i ∈ o.redo <;> simp [Order.lampSpoil, Order.owe, satAdd, hc, hi]

theorem lampSpoil_number (o : Order) (i : Nat × Nat) : (o.lampSpoil i).number = o.number := by rw [lampSpoil_eq]

theorem lampSpoil_fields (o : Order) (i : Nat × Nat) :
    (o.lampSpoil i).state = o.state ∧ (o.lampSpoil i).cancelRequested = o.cancelRequested := by
  rw [lampSpoil_eq]
  exact ⟨rfl, rfl⟩

theorem tellLampSpoil_of_live {w : WorkItem} {o : Order} (h : s.live? w.order = some o) : tellLampSpoil k w s =
    if o.cancelRequested then updOrder w.order (fun x => x.lampSpoil (w.copy, w.step)) s
    else placeRedo k w (updOrder w.order (fun x => x.lampSpoil (w.copy, w.step)) s) := by
  simp only [tellLampSpoil, h]

theorem order?_tellLampSpoil (k : Back) (w : WorkItem) (m : Nat) (s : State) :
    (tellLampSpoil k w s).order? m = (s.order? m).map (Order.lampTold w) := by
  cases hl : s.live? w.order with
  | none =>
    have hsame : tellLampSpoil k w s = s := by simp only [tellLampSpoil, hl]
    rw [hsame]
    refine ((Option.map_congr fun o ho => ?_).trans Option.map_id').symm
    refine if_neg fun ⟨hn, hlive⟩ => ?_
    rw [hn, (mem_of_order? ho).2] at hl
    rw [live?_of_live ho hlive] at hl
    simp at hl
  | some o =>
    obtain ⟨ho, hlive⟩ := live?_eq_some.mp hl
    have hqueue : (tellLampSpoil k w s).queue = (updOrder w.order (fun x => x.lampSpoil (w.copy, w.step)) s).queue := by
      rw [tellLampSpoil_of_live hl]
      split <;> simp
    rw [order?_congr hqueue, order?_updOrder (fun o => lampSpoil_number o _)]
    refine Option.map_congr fun p hp => ?_
    by_cases hn : p.number = w.order
    · have hpo : p = o := by
        rw [← (mem_of_order? hp).2, hn, ho] at hp
        exact (Option.some.inj hp).symm
      rw [if_pos hn, Order.lampTold, if_pos ⟨hn.symm, hpo ▸ hlive⟩]
    · rw [if_neg hn, Order.lampTold, if_neg fun h => hn h.1.symm]

/-- A REDO item heads its back's list, in force. -/
def Visit.withRedo (k : Back) (w : WorkItem) (v : Visit) : Visit :=
  if v.dropped.get k then v else { v with lists := v.lists.set k ({ w with kind := .redo } :: v.lists.get k) }

theorem tellLampSpoil_visit (k : Back) (w : WorkItem) (s : State) : (tellLampSpoil k w s).gate.visit =
    if (s.order? w.order).all (fun o => o.state == .ending || o.cancelRequested) then s.gate.visit
    else s.gate.visit.map (Visit.withRedo k w) := by
  cases ho : s.order? w.order with
  | none => simp [tellLampSpoil, live?_of_unknown ho]
  | some o =>
    by_cases hlive : o.state = .ending
    · simp [tellLampSpoil, live?_of_ending ho hlive, hlive]
    · rw [tellLampSpoil_of_live (live?_of_live ho hlive)]
      cases hc : o.cancelRequested
      · rw [if_neg (by simp), if_neg (by simp [hlive, hc])]
        rfl
      · rw [if_pos rfl, if_pos (by simp [hc])]
        rfl

theorem withRedo_keeps (k : Back) (w : WorkItem) (v : Visit) : (v.withRedo k w).state = v.state ∧
    (v.withRedo k w).dropped = v.dropped ∧ (v.withRedo k w).lists.get k.other = v.lists.get k.other ∧
    (v.withRedo k w).lists.get k =
      if v.dropped.get k then v.lists.get k else { w with kind := .redo } :: v.lists.get k := by
  unfold Visit.withRedo
  split
  · next h => exact ⟨rfl, rfl, rfl, rfl⟩
  · exact ⟨rfl, rfl, by simp [Back.other_ne], by simp⟩

/-! ## The visit's lists past a fault and the advances owed -/

/-- The open visit's state, lists and lists dropped. -/
def workOf (s : State) : Option (VisitState × PerBack (List WorkItem) × PerBack Bool) :=
  s.gate.visit.map fun v => (v.state, v.lists, v.dropped)

theorem workOf_raiseFault (f : FaultRec) (s : State) : workOf (raiseFault f s) = workOf s := by
  by_cases hr : s.gate.engine = .resetting
  · rw [raiseFault_resetting hr]
  · by_cases hf : s.gate.engine = .faulted
    · rw [raiseFault_faulted hf]
      simp [workOf]
    · rw [raiseFault_eq_hold hr hf]
      have hvisit : (faulted f s).gate.visit = s.gate.visit := by simp [faulted]
      unfold holdVisit
      split
      · next h => rw [workOf, h, workOf, ← hvisit, h]
      · next v h => rw [workOf, workOf, ← hvisit, h]; rfl

theorem workOf_oweAdvances (ks : List Back) (s : State) : workOf (oweAdvances ks s) = workOf s := by
  induction ks generalizing s with
  | nil => rfl
  | cons k ks ih =>
    rw [oweAdvances, List.foldl_cons, ← oweAdvances, ih]
    simp only [workOf, oweAdvance, issue_frame, updVisit, State.setGate_gate, Option.map_map]
    rfl

theorem owed_oweAdvances {ks : List Back} (hk : k ∈ ks) (hv : (oweAdvances ks s).gate.visit = some v) :
    v.owed.get k = true := by
  have hkeeps (js : List Back) (s : State) (h : ∀ v, s.gate.visit = some v → v.owed.get k = true) :
      ∀ v, (oweAdvances js s).gate.visit = some v → v.owed.get k = true := by
    induction js generalizing s with
    | nil => exact h
    | cons j js ih =>
      refine ih (oweAdvance j s) fun v hv => ?_
      obtain ⟨w, hw, rfl⟩ : ∃ w, s.gate.visit = some w ∧ { w with owed := w.owed.set j true } = v := by
        simpa [oweAdvance, updVisit] using hv
      by_cases hj : k = j
      · simp [hj]
      · simpa [hj] using h w hw
  induction ks generalizing s with
  | nil => nomatch hk
  | cons j ks ih =>
    obtain rfl | hk := List.mem_cons.mp hk
    · refine hkeeps ks (oweAdvance k s) (fun v hv => ?_) v hv
      obtain ⟨w, -, rfl⟩ : ∃ w, s.gate.visit = some w ∧ { w with owed := w.owed.set k true } = v := by
        simpa [oweAdvance, updVisit] using hv
      simp
    · exact ih hk hv

/-- An advance owed keeps the visit in EXPOSING, and with the engine not RUNNING no firing starts. -/
theorem testVisit_owed (hne : s.gate.engine ≠ .running) (howed : ∀ v, s.gate.visit = some v → v.owed.get k = true) :
    testVisit s = s ∨ testVisit s = setLabelWait false s := by
  have hstays (w : State) (hw : w.gate = s.gate) : testReturning w = w := by
    cases hv : w.gate.visit with
    | none => simp [testReturning, hv]
    | some v =>
      refine testReturning_of_stays hv fun h => ?_
      obtain ⟨-, -, -, hno, -⟩ := leavesExposing_iff.mp h
      have hyes := howed v (hw ▸ hv)
      rw [hno] at hyes
      cases k <;> simp [PerBack.get] at hyes
  have htest : testFiring s = s ∨ testFiring s = setLabelWait false s := by
    unfold testFiring
    split
    · exact .inl rfl
    · split
      · exact .inl rfl
      · exact .inr (if_pos (by simp [firingConditions, hne]))
  rcases htest with h | h
  · exact .inl (by rw [testVisit, h, hstays s rfl])
  · exact .inr (by rw [testVisit, h]; exact hstays _ rfl)

/-! ## The abort, part by part (R75, R76, R80) -/

/-- The order past the LAMP spoils of both backs. -/
theorem order?_aborted (m : Nat) : (aborted f s).order? m =
    (s.order? m).map (fun o => (s.shot? .b).elim ((s.shot? .a).elim o fun y => o.lampTold y.item)
      fun z => ((s.shot? .a).elim o fun y => o.lampTold y.item).lampTold z.item) := by
  have hspoil (k : Back) (x : Option Shot) (w : State) :
      (spoilShot k x w).order? m = (w.order? m).map (fun o => x.elim o fun y => o.lampTold y.item) := by
    cases x with
    | none => exact Option.map_id'.symm
    | some y => rw [spoilShot, order?_congr (t := tellLampSpoil k y.item w) (by simp), order?_tellLampSpoil]; rfl
  rw [aborted, order?_congr (t := spoilShot .b (s.shot? .b) (spoilShot .a (s.shot? .a) (dropLines (framesAfter s f true) s)))
    (by simp), hspoil, hspoil, Option.map_map]
  rfl

theorem charge_aborted (hx : s.shot? k = some x) :
    let cost (j : Back) : Nat := if (s.shot? j).isSome then s.framePrice j else 0
    let spoils : Nat := (if (s.shot? .a).isSome then 1 else 0) + (if (s.shot? .b).isSome then 1 else 0)
    (aborted f s).charge = { s.charge with house := { s.charge.house with
      charged := min 16777215 (s.charge.house.charged + cost .a + cost .b)
      spoiled := min 65535 (s.charge.house.spoiled + spoils) } } := by
  have hspoil (k : Back) (x : Option Shot) (w : State) (hp : w.framePrice k = s.framePrice k) : (spoilShot k x w).charge =
      if x.isSome then { w.charge with house := w.charge.house.waste .spoiled (s.framePrice k) 1 } else w.charge := by
    cases x with
    | none => rfl
    | some y =>
      have hprice : (tellLampSpoil k y.item w).framePrice k = w.framePrice k := by
        rw [framePrice_eq, framePrice_eq]
        simp [State.roll, State.stock?]
      rw [spoilShot, chargeFrames, hprice, hp, Nat.one_mul]
      simp
  have hprice : (spoilShot .a (s.shot? .a) (dropLines (framesAfter s f true) s)).framePrice .b = s.framePrice .b := by
    rw [framePrice_eq, framePrice_eq]
    simp [State.roll, State.stock?, dropLines]
  intro cost spoils
  have hcharge : (aborted f s).charge =
      (spoilShot .b (s.shot? .b) (spoilShot .a (s.shot? .a) (dropLines (framesAfter s f true) s))).charge := by simp [aborted]
  rw [hcharge, hspoil .b _ _ hprice, hspoil .a _ (dropLines (framesAfter s f true) s) rfl]
  simp only [cost, spoils]
  cases ha : s.shot? .a <;> cases hb : s.shot? .b
  · cases k <;> simp [ha, hb] at hx
  all_goals simp [House.waste, satAdd, Config.maxSum, Config.maxCount, dropLines]
  omega

theorem timer_aborted : (aborted f s).timer = (dropLines (framesAfter s f true) s).timer := by simp [aborted]

theorem workOf_aborted : workOf (aborted f s) =
    workOf (spoilShot .b (s.shot? .b) (spoilShot .a (s.shot? .a) (dropLines (framesAfter s f true) s))) := by
  have hcut (n : Nat) (b w : State) : workOf (abortFiring.cutOutcomeIncluded n b w) = workOf w := by
    unfold abortFiring.cutOutcomeIncluded
    generalize includedBacks b = ks
    induction ks generalizing w with
    | nil => rfl
    | cons k ks ih => rw [List.foldl_cons, ih]; rfl
  rw [aborted, workOf_oweAdvances, hcut, workOf_raiseFault]

theorem engine_raiseFault (g : FaultRec) (s : State) :
    (raiseFault g s).gate.engine = if s.gate.engine = .resetting then .resetting else .faulted := by
  by_cases hr : s.gate.engine = .resetting
  · rw [raiseFault_resetting hr, if_pos hr, hr]
  · rw [if_neg hr]
    by_cases hf : s.gate.engine = .faulted
    · rw [raiseFault_faulted hf]
      simpa using hf
    · rw [raiseFault_eq_hold hr hf]
      unfold holdVisit
      split <;> simp [faulted]

theorem engine_spoilShot (k : Back) (x : Option Shot) (s : State) : (spoilShot k x s).gate.engine = s.gate.engine := by
  cases x with
  | none => rfl
  | some y =>
    simp only [spoilShot, tellLampSpoil, placeRedo, updVisit]
    (repeat' split) <;> rfl

theorem engine_aborted : (aborted f s).gate.engine = if s.gate.engine = .resetting then .resetting else .faulted := by
  have hview : (aborted f s).gate.engine = _ :=
    congrArg EngineView.engine ((engineView_oweAdvances _).trans (engineView_cutOutcomeIncluded _ _))
  rw [hview]
  show (raiseFault _ _).gate.engine = _
  rw [engine_raiseFault, engine_spoilShot, engine_spoilShot]
  rfl

theorem faultsOf_aborted (hr : s.gate.engine ≠ .resetting) (hf : s.gate.engine ≠ .faulted) :
    (aborted f s).events.current = some (lampFault s) := by
  have hevents : (aborted f s).events = (raiseFault (lampFault s) (spoilShot .b (s.shot? .b) (spoilShot .a (s.shot? .a)
    (dropLines (framesAfter s f true) s)))).events := by simp [aborted]
  rw [hevents]
  exact raiseFault_current (by rwa [engine_spoilShot, engine_spoilShot]) (by rwa [engine_spoilShot, engine_spoilShot])

/-- An abort is what is done before the tests of the visit, but for the label wait. -/
theorem abortFiring_cases (hf : s.timer.firing = some f) (hx : s.shot? k = some x) :
    abortFiring s = aborted f s ∨ abortFiring s = setLabelWait false (aborted f s) := by
  have hmem : k ∈ includedBacks s := List.mem_filter.mpr ⟨by cases k <;> simp [bothBacks], by rw [hx]; rfl⟩
  rw [abortFiring_eq hf]
  refine testVisit_owed ?_ fun v hv => owed_oweAdvances hmem hv
  rw [engine_aborted]
  split <;> simp

/-- The work lists of the visit past the LAMP spoil of a back's shot. -/
theorem lists_spoilShot {x : Shot} (hv : s.gate.visit = some v) : ∃ z, (spoilShot k (some x) s).gate.visit = some z ∧
    z.state = v.state ∧ z.dropped = v.dropped ∧ z.lists.get k.other = v.lists.get k.other ∧ z.lists.get k =
      if (s.order? x.item.order).all (fun o => o.state == .ending || o.cancelRequested) || v.dropped.get k
      then v.lists.get k else { x.item with kind := .redo } :: v.lists.get k := by
  have hvisit : (spoilShot k (some x) s).gate.visit = _ := tellLampSpoil_visit k x.item s
  rw [hv, Option.map_some] at hvisit
  obtain ⟨hst, hdr, hother, hlist⟩ := withRedo_keeps k x.item v
  by_cases hall : (s.order? x.item.order).all (fun o => o.state == .ending || o.cancelRequested) = true
  · rw [if_pos hall] at hvisit
    exact ⟨v, hvisit, rfl, rfl, rfl, by simp [hall]⟩
  · rw [if_neg hall] at hvisit
    refine ⟨_, hvisit, hst, hdr, hother, ?_⟩
    rw [hlist]
    simp [hall]

/-- The other back's spoil leaves a back's list, and whether an order is to be owed an item. -/
theorem lists_spoilShot_other (x : Option Shot) (hv : s.gate.visit = some v) : ∃ z,
    (spoilShot k x s).gate.visit = some z ∧ z.dropped = v.dropped ∧ z.lists.get k.other = v.lists.get k.other ∧
    ∀ m, ((spoilShot k x s).order? m).all (fun o => o.state == .ending || o.cancelRequested) =
      (s.order? m).all (fun o => o.state == .ending || o.cancelRequested) := by
  cases x with
  | none => exact ⟨v, hv, rfl, rfl, fun _ => rfl⟩
  | some y =>
    obtain ⟨z, hz, -, hdr, hother, -⟩ := lists_spoilShot (k := k) (x := y) hv
    refine ⟨z, hz, hdr, hother, fun m => ?_⟩
    rw [spoilShot, order?_congr (t := tellLampSpoil k y.item s) (by simp), order?_tellLampSpoil]
    cases s.order? m with
    | none => rfl
    | some o =>
      simp only [Option.map_some, Option.all_some, Order.lampTold]
      split
      · rw [(lampSpoil_fields o _).1, (lampSpoil_fields o _).2]
      · rfl

/-- The work lists of the visit past the spoils of both backs: a back's list changes with its own shot alone. -/
theorem lists_aborted {x : Shot} (hx : s.shot? k = some x) (hv : s.gate.visit = some v) :
    ∃ z, (aborted f s).gate.visit = some z ∧ z.lists.get k =
      if (s.order? x.item.order).all (fun o => o.state == .ending || o.cancelRequested) || v.dropped.get k
      then v.lists.get k else { x.item with kind := .redo } :: v.lists.get k := by
  obtain ⟨y, hy, hlist⟩ : ∃ y, (spoilShot .b (s.shot? .b) (spoilShot .a (s.shot? .a)
      (dropLines (framesAfter s f true) s))).gate.visit = some y ∧ y.lists.get k =
      if (s.order? x.item.order).all (fun o => o.state == .ending || o.cancelRequested) || v.dropped.get k
      then v.lists.get k else { x.item with kind := .redo } :: v.lists.get k := by
    have hdropped : (dropLines (framesAfter s f true) s).gate.visit = some v := hv
    cases k with
    | a =>
      rw [hx]
      obtain ⟨y, hy, -, -, -, hlist⟩ := lists_spoilShot (k := .a) (x := x) hdropped
      obtain ⟨z, hz, -, hkept, -⟩ := lists_spoilShot_other (k := .b) (s.shot? .b) hy
      exact ⟨z, hz, Eq.trans hkept hlist⟩
    | b =>
      obtain ⟨y, hy, hdr, hkept, hall⟩ := lists_spoilShot_other (k := .a) (s.shot? .a) hdropped
      obtain ⟨z, hz, -, -, -, hlist⟩ := lists_spoilShot (k := .b) (x := x) hy
      have hkept : y.lists.get .b = v.lists.get .b := hkept
      rw [hall, hdr, hkept] at hlist
      rw [hx]
      exact ⟨z, hz, hlist⟩
  have hwork := workOf_aborted (f := f) (s := s)
  rw [workOf, workOf, hy, Option.map_some] at hwork
  obtain ⟨z, hz, hfields⟩ := Option.map_eq_some_iff.mp hwork
  refine ⟨z, hz, ?_⟩
  rw [← hlist, (Prod.mk.inj (Prod.mk.inj hfields).2).1]

/-! ## Shutters that fall together (R73, R74) -/

theorem closeShutters_eq (t : Nat) : closeShutters (f.preOpen + t) f s =
    let due (y : Shot) : Bool := y.shutter == .open_ && y.time == t
    let falls (j : Back) : Bool := (f.shots.get j).any due
    let after (j : Back) : Option Shot := (f.shots.get j).map (fun y => if due y then { y with shutter := .closed } else y)
    s.setTimer { s.timer with
      count := some (f.preOpen + t)
      shutters := ⟨s.timer.shutters.a && !falls .a, s.timer.shutters.b && !falls .b⟩
      firing := some { f with shots := ⟨after .a, after .b⟩ } } := by
  have hclosed : f.closedAt (f.preOpen + t) =
      fun y => if (y.shutter == .open_ && y.time == t) = true then { y with shutter := .closed } else y := by
    funext y
    exact if_congr (by simp) rfl rfl
  have hfalls (j : Back) : f.fallsAt (f.preOpen + t) j = (f.shots.get j).any (fun y => y.shutter == .open_ && y.time == t) := by
    rw [Firing.fallsAt]
    congr 1
    funext y
    congr 1
    rw [Bool.eq_iff_iff]
    simp
  rw [closeShutters, hclosed, hfalls, hfalls]
  rfl

/-- No shutter falls at a count at which none is due. -/
theorem closeShutters_none (hf : s.timer.firing = some f)
    (h : ∀ j y, f.shots.get j = some y → y.shutter = .open_ → f.preOpen + y.time ≠ c) :
    closeShutters c f s = s.setTimer { s.timer with count := some c } := by
  have hclosed (j : Back) : (f.shots.get j).map (f.closedAt c) = f.shots.get j := by
    refine (Option.map_congr fun y hy => ?_).trans Option.map_id'
    exact if_neg fun ⟨ho, hc⟩ => h j y hy ho hc
  have hfalls (j : Back) : f.fallsAt c j = false := by
    rw [Firing.fallsAt]
    cases hy : f.shots.get j with
    | none => rfl
    | some y =>
      rw [Option.any_some, Bool.and_eq_false_imp]
      intro ho
      simpa using h j y hy (by simpa using ho)
  have ha : f.shots.a.map (f.closedAt c) = f.shots.a := hclosed .a
  have hb : f.shots.b.map (f.closedAt c) = f.shots.b := hclosed .b
  rw [closeShutters, hfalls, hfalls, ha, hb]
  simp [← hf]

/-! ## The obligation -/

/-- Settles O59. -/
theorem firingsAndTheirLines : Obligations.FiringsAndTheirLines := by
  unfold Obligations.FiringsAndTheirLines
  refine ⟨fun f k x s hf => ?events, fun k s hf => ?idle, fun f k x s hf hx => ?ends⟩
  case events =>
    have hfiring (p : Firing → Bool) : s.firingIf p = if p f then some f else none := by
      rw [State.firingIf, hf]
      simp [Option.filter]
    have hphase {p : Firing → Bool} (h : p f = true) : s.firingIf p = some f := (hfiring p).trans (if_pos h)
    have hother {p : Firing → Bool} (h : p f = false) : s.firingIf p = none := (hfiring p).trans (if_neg (by simp [h]))
    have hshutter (hp : f.phase ≠ .opening) (hx : f.shots.get k = some x) (hopen : x.shutter = .open_) :
        exec (.shutterFallExpiry k) s = .next (settle (expireAt (f.preOpen + x.time) f s)) := by
      show execShutterFallExpiry k s = _
      simp only [execShutterFallExpiry, hphase (p := fun f => f.phase != .opening) (by simp [hp]), hx, Option.filter, hopen,
        beq_self_eq_true, if_true]
    have hlampFall (hp : f.phase ≠ .opening) : exec .lampFallExpiry s = .next (settle (expireAt f.lampFall f s)) := by
      show execLampFallExpiry s = _
      simp only [execLampFallExpiry, hphase (p := fun f => f.phase != .opening) (by simp [hp])]
    have hdeadline (hp : f.phase ≠ .opening) : exec .senseDeadlineExpiry s = .next (settle (expireAt f.deadline f s)) := by
      show execSenseDeadlineExpiry s = _
      simp only [execSenseDeadlineExpiry, hphase (p := fun f => f.phase != .opening) (by simp [hp])]
    refine ⟨fun h => ?_, fun hp hx hopen => ⟨fun h1 h2 => ?_, fun h => ?_, fun h => ?_⟩, fun h => ?_, fun h => ?_, fun h => ?_,
      fun h => ?_, fun h => ?_, fun h => ?_, fun h => ?_, fun h hd hno => ?_, fun h => ?_, fun h => ?_, fun h => ⟨?_, ?_⟩⟩
    · show execLampRiseExpiry s = _
      simp only [execLampRiseExpiry, hphase (p := fun f => f.phase == .opening) (by simp [h])]
    · rw [hshutter hp hx hopen, expireAt, if_neg h1, if_neg fun ⟨hd, hl⟩ => h2.elim (· hd) (fun h => by simp [h] at hl),
        closeShutters_eq]
    · rw [hshutter hp hx hopen, hlampFall hp, h]
    · rw [hshutter hp hx hopen, hdeadline hp, h]
    · rw [hlampFall (by simp [h]), expireAt, if_pos rfl, lampFalls, if_pos h, endFiring_closeShutters hf]
    · rw [hlampFall (by simp [h]), expireAt, if_pos rfl, lampFalls, if_neg (by simp [h]), abortFiring_closeShutters hf]
    · rw [hdeadline (by simp [h]), expireAt]
      by_cases hd : f.deadline = f.lampFall
      · rw [if_pos hd, lampFalls, if_neg (by simp [h]), abortFiring_closeShutters hf]
      · rw [if_neg hd, if_pos ⟨rfl, h⟩, abortFiring_closeShutters hf]
    · show execLampSenseActive s = _
      simp only [execLampSenseActive, hphase (p := fun f => f.phase == .lampRising) (by simp [h])]
      rfl
    · show execLampSenseInactive s = _
      simp only [execLampSenseInactive, hphase (p := fun f => f.phase == .lit) (by simp [h])]
    · show execLampSenseActive s = _
      simp only [execLampSenseActive, hother (p := fun f => f.phase == .lampRising) (by simp [h])]
    · show execLampSenseInactive s = _
      simp only [execLampSenseInactive, hother (p := fun f => f.phase == .lit) (by simp [h])]
    · rw [hdeadline (by simp [h]), expireAt, if_neg hd, if_neg (by simp [h]), closeShutters_none hf hno]
    · show execLampRiseExpiry s = _
      simp only [execLampRiseExpiry, hother (p := fun f => f.phase == .opening) (by simp [h])]
    · show execShutterFallExpiry k s = _
      by_cases hp : f.phase = .opening
      · simp only [execShutterFallExpiry, hother (p := fun f => f.phase != .opening) (by simp [hp])]
      · have hnone : (f.shots.get k).filter (fun x => x.shutter == .open_) = none := by
          cases hs : f.shots.get k with
          | none => rfl
          | some y => simpa [Option.filter] using h.resolve_left hp y hs
        simp only [execShutterFallExpiry, hphase (p := fun f => f.phase != .opening) (by simp [hp]), hnone]
    · show execLampFallExpiry s = _
      simp only [execLampFallExpiry, hother (p := fun f => f.phase != .opening) (by simp [h])]
    · show execSenseDeadlineExpiry s = _
      simp only [execSenseDeadlineExpiry, hother (p := fun f => f.phase != .opening) (by simp [h])]
  case idle =>
    have hnone (p : Firing → Bool) : s.firingIf p = none := by rw [State.firingIf, hf]; rfl
    refine ⟨?_, ?_, ?_, ?_, ?_, ?_⟩
    · show execLampSenseActive s = _
      simp only [execLampSenseActive, hnone]
    · show execLampSenseInactive s = _
      simp only [execLampSenseInactive, hnone]
    · show execLampRiseExpiry s = _
      simp only [execLampRiseExpiry, hnone]
    · show execShutterFallExpiry k s = _
      simp only [execShutterFallExpiry, hnone]
    · show execLampFallExpiry s = _
      simp only [execLampFallExpiry, hnone]
    · show execSenseDeadlineExpiry s = _
      simp only [execSenseDeadlineExpiry, hnone]
  case ends =>
    intro frame t u
    have hmem : k ∈ includedBacks s := List.mem_filter.mpr ⟨by cases k <;> simp [bothBacks], by rw [hx]; rfl⟩
    have hframes (lamp : Bool) : (framesAfter s f lamp).get k = some (frame lamp) := by
      cases k <;> simp [framesAfter, PerBack.get, hx] <;> rfl
    obtain ⟨hgate, htimer, hqueue, hcharge, hevents⟩ : u.gate = (aborted f s).gate ∧ u.timer = (aborted f s).timer ∧
        u.queue = (aborted f s).queue ∧ u.charge = (aborted f s).charge ∧ u.events = (aborted f s).events := by
      have hu : u = abortFiring s := rfl
      rcases abortFiring_cases hf hx with h | h <;> rw [hu, h] <;> exact ⟨rfl, rfl, rfl, rfl, rfl⟩
    rw [timer_aborted] at htimer
    rw [htimer, hgate, hcharge, hevents]
    refine ⟨endFiring_eq hf, rfl, rfl, rfl, rfl, hframes false, rfl, rfl, rfl, rfl, hframes true, ?_, fun v hv => ?_, ?_,
      fun j => ?_, fun hnf hnr => ?_⟩
    · rw [engine_aborted]
      split <;> simp
    · exact .inl (owed_oweAdvances hmem hv)
    · intro told cost spoils
      refine ⟨fun n o ho => ?_, charge_aborted hx, fun v hv hst => ?_⟩
      · have htold (j : Back) (o : Order) : told j o = (s.shot? j).elim o fun y => o.lampTold y.item := by
          simp only [told]
          cases s.shot? j with
          | none => rfl
          | some y => simp only [Option.elim_some, Order.lampTold, lampSpoil_eq]
        rw [order?_congr hqueue, order?_aborted, ho, Option.map_some, htold, htold]
      · obtain ⟨z, hz, hlist⟩ := lists_aborted (f := f) hx hv
        refine ⟨z, hz, fun o ho h1 h2 h3 => ?_, fun hall => ?_⟩
        · rw [hlist, ho, h3]
          simp [h1, h2]
        · rw [hlist]
          refine if_pos ?_
          cases ho : s.order? x.item.order with
          | none => rfl
          | some o => simpa [ho, or_assoc] using hall
    · rw [State.framePrice]
      cases (s.roll j).stock?.bind s.stock? <;> rfl
    · refine ⟨by rw [engine_aborted, if_neg hnr], lampFault s, faultsOf_aborted hnr hnf, ?_, ?_, fun hk => ?_⟩
      · unfold lampFault
        cases s.shot? .a <;> cases s.shot? .b <;> rfl
      · unfold lampFault
        cases s.shot? .a <;> cases s.shot? .b <;> rfl
      · have hfault : lampFault s = faultRec s .lampFail .lamp (some x.item.order) (some k) (some x.position) := by
          unfold lampFault
          cases k with
          | a => rw [hx]
          | b => rw [hk.resolve_left (by simp), hx]
        rw [hfault]
        exact ⟨rfl, rfl, rfl⟩

end Sys2Proof.Machine
end


section
/-!
O47: the loss of a roll, by its cut frames, its fog and its close.
-/

namespace Sys2Proof.Machine

variable {s t u : State} {v : Visit} {o : Order} {k : Back} {n m : Nat}

/-! ## The fog of an exposed item (R102) -/

theorem owe_eq (o : Order) (i : Nat × Nat) : o.owe i = { o with redo := if i ∈ o.redo then o.redo else o.redo ++ [i] } := by
  by_cases h : i ∈ o.redo <;> simp [Order.owe, h]

theorem fogged_eq (o : Order) (i : Nat × Nat) (l : Bool) : o.fogged i l = { o with
    goodFrames := o.goodFrames - 1
    goodLabels := o.goodLabels - (if l then 1 else 0)
    redo := if o.cancelRequested = true ∨ i ∈ o.redo then o.redo else o.redo ++ [i] } := by
  by_cases hc : o.cancelRequested = true
  · cases l <;> simp [Order.fogged, hc]
  · cases l <;> by_cases hi : i ∈ o.redo <;> simp [Order.fogged, owe_eq, hc, hi]

/-- An order with the fog of one of its frames told, unless it is ENDING. -/
def Order.fogTold (o : Order) (x : (Nat × Nat × Nat) × Bool) : Order :=
  if x.1.1 = o.number ∧ o.state ≠ .ending then o.fogged x.1.2 x.2 else o

theorem order?_updLiving {f : Order → Order} (hf : ∀ o, (f o).number = o.number) (n m : Nat) (s : State) :
    (if (s.live? n).isSome then updOrder n f s else s).order? m =
      (s.order? m).map (fun o => if n = o.number ∧ o.state ≠ .ending then f o else o) := by
  have hlive (o : Order) (hm : s.order? m = some o) (hn : n = m) : (s.live? n).isSome = true ↔ o.state ≠ .ending := by
    subst hn
    by_cases he : o.state = .ending
    · simp [live?_of_ending hm he, he]
    · simp [live?_of_live hm he, he]
  split
  · next hl =>
    rw [order?_updOrder hf]
    refine Option.map_congr fun o ho => ?_
    by_cases hn : o.number = n
    · rw [if_pos hn, if_pos ⟨hn.symm, (hlive o ho (hn.symm.trans (mem_of_order? ho).2)).mp hl⟩]
    · rw [if_neg hn, if_neg fun h => hn h.1.symm]
  · next hl =>
    refine ((Option.map_congr fun o ho => ?_).trans Option.map_id').symm
    exact if_neg fun ⟨hn, he⟩ => hl ((hlive o ho (hn.trans (mem_of_order? ho).2)).mpr he)

theorem order?_fogItem (k : Back) (x : (Nat × Nat × Nat) × Bool) (m : Nat) (s : State) :
    (fogItem k s x).order? m = (s.order? m).map (fun o => o.fogTold x) := by
  have hqueue : (fogItem k s x).queue =
      (if (s.live? x.1.1).isSome then updOrder x.1.1 (fun o => o.fogged x.1.2 x.2) s else s).queue := by
    unfold fogItem
    split <;> simp
  rw [order?_congr hqueue, order?_updLiving fun o => by rw [fogged_eq]]
  rfl

theorem order?_fogItems (k : Back) (l : List ((Nat × Nat × Nat) × Bool)) (m : Nat) (s : State) :
    (l.foldl (fogItem k) s).order? m = (s.order? m).map (fun o => l.foldl Order.fogTold o) := by
  induction l generalizing s with
  | nil => exact Option.map_id'.symm
  | cons x l ih => rw [List.foldl_cons, ih, order?_fogItem, Option.map_map]; rfl

theorem fogTold_state (o : Order) (x : (Nat × Nat × Nat) × Bool) : (o.fogTold x).state = o.state ∧
    (o.fogTold x).number = o.number ∧ (o.fogTold x).cancelRequested = o.cancelRequested := by
  unfold Order.fogTold
  split
  · rw [fogged_eq]
    exact ⟨rfl, rfl, rfl⟩
  · exact ⟨rfl, rfl, rfl⟩

/-- What the fog of a roll tells an order that is not ENDING: each frame of its own once, and each item owed once. -/
theorem foldl_fogTold (l : List ((Nat × Nat × Nat) × Bool)) (hlive : o.state ≠ .ending) :
    let mine := l.filter (fun x => x.1.1 == o.number)
    ∃ owed : List (Nat × Nat), l.foldl Order.fogTold o = { o with
        goodFrames := o.goodFrames - mine.length
        goodLabels := o.goodLabels - (mine.filter (fun x => x.2)).length
        redo := o.redo ++ owed } ∧
      (o.cancelRequested = true → owed = []) ∧
      (o.cancelRequested = false → owed.Nodup ∧ ∀ i, i ∈ owed ↔ i ∉ o.redo ∧ ∃ x ∈ mine, x.1.2 = i) := by
  induction l generalizing o with
  | nil => exact ⟨[], by simp, fun _ => rfl, fun _ => ⟨List.nodup_nil, by simp⟩⟩
  | cons x l ih =>
    by_cases hx : x.1.1 = o.number
    · have htold : o.fogTold x = o.fogged x.1.2 x.2 := if_pos ⟨hx, hlive⟩
      have hmine : (x :: l).filter (fun x => x.1.1 == o.number) = x :: l.filter (fun x => x.1.1 == o.number) :=
        List.filter_cons_of_pos (by simpa using hx)
      obtain ⟨hst, hno, hcancel⟩ := fogTold_state o x
      obtain ⟨owed, heq, hyes, hnot⟩ := ih (o := o.fogTold x) (by rwa [hst])
      rw [hno] at heq hnot
      rw [hcancel] at hyes hnot
      intro mine
      simp only [mine, hmine, List.foldl_cons]
      rw [heq, htold, fogged_eq]
      refine ⟨(if o.cancelRequested = true ∨ x.1.2 ∈ o.redo then [] else [x.1.2]) ++ owed, ?_, fun h => ?_, fun h => ?_⟩
      · have hredo : (if o.cancelRequested = true ∨ x.1.2 ∈ o.redo then o.redo else o.redo ++ [x.1.2]) ++ owed =
            o.redo ++ ((if o.cancelRequested = true ∨ x.1.2 ∈ o.redo then [] else [x.1.2]) ++ owed) := by
          split <;> simp
        cases hl : x.2 <;> simp [hredo, hl, Nat.sub_sub, Nat.add_comm]
      · rw [if_pos (.inl h), hyes h]
        rfl
      · obtain ⟨hnd, hmem⟩ := hnot h
        rw [htold, fogged_eq] at hmem
        simp only [h, Bool.false_eq_true, false_or] at hmem ⊢
        by_cases hin : x.1.2 ∈ o.redo
        · simp only [if_pos hin, List.nil_append] at hmem ⊢
          refine ⟨hnd, fun i => (hmem i).trans (and_congr_right fun hi => ?_)⟩
          simp only [List.mem_cons, exists_eq_or_imp]
          exact ⟨.inr, fun h => h.resolve_left fun he => hi (he ▸ hin)⟩
        · simp only [if_neg hin, List.singleton_append] at hmem ⊢
          refine ⟨List.nodup_cons.mpr ⟨fun hm => ((hmem _).mp hm).1 (by simp), hnd⟩, fun i => ?_⟩
          rw [List.mem_cons, hmem]
          simp only [List.mem_append, List.mem_cons, exists_eq_or_imp]
          by_cases hi : i = x.1.2
          · simp [hi, hin]
          · simp [hi, Ne.symm hi]
    · have htold : o.fogTold x = o := if_neg fun h => hx h.1
      have hmine : (x :: l).filter (fun x => x.1.1 == o.number) = l.filter (fun x => x.1.1 == o.number) :=
        List.filter_cons_of_neg (by simpa using hx)
      intro mine
      simp only [mine, hmine, List.foldl_cons, htold]
      exact ih hlive

/-! ## The exposed entries of a roll -/

/-- The items of the exposed entries of a map, each with whether it was labelled. -/
def itemsExposed (es : List MapEntry) : List ((Nat × Nat × Nat) × Bool) :=
  es.filterMap (fun e => if e.state = .exposed then e.item.map (fun i => (i, e.labelled)) else none)

theorem exposedItems_eq {r : Roll} {film : Film} (h : r.film = some film) : exposedItems r = itemsExposed film.map := by
  rw [exposedItems, h]
  rfl

/-- The items of a kind are those of the exposed entries whose item is of that kind. -/
theorem itemsExposed_filter (p : Nat × Nat × Nat → Bool) (es : List MapEntry) :
    (itemsExposed es).filter (fun x => p x.1) =
      ((es.filter (fun e => e.state == .exposed)).filter (fun e => e.item.any p)).map
        (fun e => (e.item.getD (0, 0, 0), e.labelled)) := by
  induction es with
  | nil => rfl
  | cons e es ih =>
    unfold itemsExposed at ih ⊢
    by_cases he : e.state = .exposed
    · rw [List.filter_cons_of_pos (by simp [he])]
      cases hi : e.item with
      | none =>
        rw [List.filter_cons_of_neg (by simp [hi]), ← ih, List.filterMap_cons_none (by simp [he, hi])]
      | some i =>
        rw [List.filterMap_cons_some (b := (i, e.labelled)) (by simp [he, hi])]
        by_cases hp : p i = true
        · rw [List.filter_cons_of_pos (by exact hp), List.filter_cons_of_pos (by simpa [hi] using hp), List.map_cons, ← ih, hi]
          rfl
        · rw [List.filter_cons_of_neg (by exact hp), List.filter_cons_of_neg (by simpa [hi] using hp), ← ih]
    · rw [List.filter_cons_of_neg (by simp [he]), ← ih, List.filterMap_cons_none (by simp [he])]

/-! ## The charge of the fog (R102, R138) -/

/-- The house account with frames fogged, each charged once. -/
def fogCharged (price i : Nat) (h : House) : House :=
  if i = 0 then h else { h with charged := min 16777215 (h.charged + i * price), fogged := min 65535 (h.fogged + i) }

theorem fogCharged_succ (price i : Nat) (h : House) :
    fogCharged price i (h.waste .fogged price 1) = fogCharged price (i + 1) h := by
  unfold fogCharged
  cases i with
  | zero => simp [House.waste, satAdd, Config.maxSum, Config.maxCount]
  | succ i =>
    rw [if_neg (Nat.succ_ne_zero _), if_neg (Nat.succ_ne_zero _)]
    simp only [House.waste, satAdd, Config.maxSum, Config.maxCount, House.mk.injEq, true_and, and_true, Nat.succ_mul]
    omega

theorem isSome_live?_fogItem (k : Back) (x : (Nat × Nat × Nat) × Bool) (m : Nat) (s : State) :
    ((fogItem k s x).live? m).isSome = (s.live? m).isSome := by
  rw [State.live?, State.live?, order?_fogItem]
  cases s.order? m with
  | none => rfl
  | some o =>
    obtain ⟨hst, -⟩ := fogTold_state o x
    cases h : o.state <;> simp [Option.filter, Order.live, hst, h]

theorem charge_fogItems (k : Back) (l : List ((Nat × Nat × Nat) × Bool)) (s : State) : (l.foldl (fogItem k) s).charge =
    { s.charge with
      house := fogCharged (s.framePrice k) (l.filter (fun x => (s.live? x.1.1).isSome)).length s.charge.house } := by
  induction l generalizing s with
  | nil => rfl
  | cons x l ih =>
    have hprice : (fogItem k s x).framePrice k = s.framePrice k := by
      rw [framePrice_eq, framePrice_eq]
      simp [State.roll, State.stock?]
    rw [List.foldl_cons, ih, hprice]
    simp only [isSome_live?_fogItem]
    by_cases hl : (s.live? x.1.1).isSome = true
    · have hitem : (fogItem k s x).charge =
          { s.charge with house := s.charge.house.waste .fogged (s.framePrice k) 1 } := by
        rw [fogItem, if_pos hl, chargeFrames, Nat.one_mul, framePrice_eq, framePrice_eq]
        rfl
      rw [List.filter_cons_of_pos (by exact hl), List.length_cons, hitem, fogCharged_succ]
    · rw [List.filter_cons_of_neg (by exact hl), fogItem, if_neg hl]

/-! ## The fog of a roll (R101, R102) -/

theorem order?_mapped {f : Order → Order} (hf : ∀ o, (f o).number = o.number) (m : Nat) (s : State) :
    (s.setQueue { s.queue with orders := s.queue.orders.map f }).order? m = (s.order? m).map f := by
  simp [State.order?, List.find?_map, hf]

/-- The roll with its exposed entries fogged, and the items of its exposed entries told. -/
theorem fogRoll_eq (k : Back) (s : State) : ∃ w, w = (exposedItems (s.roll k)).foldl (fogItem k)
      (updRoll k (fun x => { x with film := x.film.map (fun f => { f with map := f.map.map fogEntry }) }) s) ∧
    fogRoll k s = w.setQueue { w.queue with
      orders := w.queue.orders.map (fun o => if o.live then dropSpans k (s.roll k).id o else o) } := ⟨_, rfl, rfl⟩

theorem rolls_fogRoll (k : Back) (s : State) : (fogRoll k s).rolls =
    (updRoll k (fun x => { x with film := x.film.map (fun f => { f with map := f.map.map fogEntry }) }) s).rolls := by
  simp [fogRoll]

theorem roll_fogRoll (k : Back) (s : State) : (fogRoll k s).roll k =
    { s.roll k with film := (s.roll k).film.map (fun f => { f with map := f.map.map fogEntry }) } := by
  rw [roll_congr (rolls_fogRoll k s), updRoll_same]

theorem roll_fogRoll_other (k : Back) (s : State) : (fogRoll k s).roll k.other = s.roll k.other := by
  rw [roll_congr (rolls_fogRoll k s), roll_updRoll_other]

theorem order?_fogRoll (k : Back) (m : Nat) (s : State) : (fogRoll k s).order? m = (s.order? m).map (fun o =>
    let told := (exposedItems (s.roll k)).foldl Order.fogTold o
    if told.live then dropSpans k (s.roll k).id told else told) := by
  obtain ⟨w, hw, he⟩ := fogRoll_eq k s
  have hno : ∀ o : Order, (if o.live then dropSpans k (s.roll k).id o else o).number = o.number := by
    intro o
    split <;> rfl
  rw [he, order?_mapped hno, hw, order?_fogItems, Option.map_map]
  rfl

theorem charge_fogRoll (k : Back) (s : State) : (fogRoll k s).charge = { s.charge with
    house := fogCharged (s.framePrice k) ((exposedItems (s.roll k)).filter (fun x => (s.live? x.1.1).isSome)).length
      s.charge.house } := by
  obtain ⟨w, hw, he⟩ := fogRoll_eq k s
  have hprice : (updRoll k (fun x => { x with film := x.film.map (fun f => { f with map := f.map.map fogEntry }) })
      s).framePrice k = s.framePrice k := by
    rw [framePrice_eq, framePrice_eq, updRoll_same]
    cases (s.roll k).film <;> rfl
  rw [he]
  show w.charge = _
  rw [hw, charge_fogItems, hprice]
  rfl

/-- An order not ENDING has no span left on a roll that is fogged (R102). -/
theorem spans_fogRoll (k : Back) (s : State) : ∀ o ∈ (fogRoll k s).queue.orders, o.state ≠ .ending → ∀ x ∈ o.spans,
    ¬(x.back = k ∧ x.rollId = (s.roll k).id) := by
  obtain ⟨w, -, he⟩ := fogRoll_eq k s
  rw [he]
  intro o ho hlive x hx
  obtain ⟨o', -, rfl⟩ := List.mem_map.mp ho
  by_cases hl : o'.live = true
  · rw [if_pos hl] at hx
    have hmem := (List.mem_filter.mp (show x ∈ o'.spans.filter (fun x =>
      !(decide (x.back = k ∧ x.rollId = (s.roll k).id))) from hx)).2
    simpa only [not_and_or, Bool.not_eq_true', decide_eq_false_iff_not] using hmem
  · rw [if_neg hl] at hlive
    exact absurd hlive (by simpa [Order.live] using hl)

/-- Of a roll that is fogged, each exposed entry is FOGGED and the others stand (R102). -/
theorem entry?_fogRoll (k : Back) (p : Nat) (s : State) :
    ((fogRoll k s).roll k).entry? p = ((s.roll k).entry? p).map fogEntry := by
  rw [roll_fogRoll]
  unfold Roll.entry?
  split
  · rfl
  · cases (s.roll k).film <;> simp

/-- The fold of the fog leaves an ENDING order. -/
theorem foldl_fogTold_ending (l : List ((Nat × Nat × Nat) × Bool)) (he : o.state = .ending) :
    l.foldl Order.fogTold o = o := by
  induction l with
  | nil => rfl
  | cons x l ih => rw [List.foldl_cons, show o.fogTold x = o from if_neg fun h => h.2 he, ih]

/-! ## Frames written (R77, R101) -/

theorem roll_writeFrame (k : Back) (p : Nat) (e : MapEntry) (s : State) : (writeFrame k p e s).roll k =
    { writeEntry p (fun _ => e) (s.roll k) with counter := (s.roll k).counter + 1 } := by
  rw [writeFrame, updRoll_same]

theorem roll_writeFrame_other (k : Back) (p : Nat) (e : MapEntry) (s : State) :
    (writeFrame k p e s).roll k.other = s.roll k.other := by
  rw [writeFrame, roll_updRoll_other]

theorem entry?_writeEntry {r : Roll} {film : Film} (h : r.film = some film) {p q : Nat} (hp : 1 ≤ p) (hq : 1 ≤ q)
    (e : MapEntry) : (writeEntry p (fun _ => e) r).entry? q = if q = p then (r.entry? q).map (fun _ => e) else r.entry? q := by
  have hentry (r : Roll) : r.entry? q = r.film.bind (fun f => f.map[q - 1]?) := if_neg (by omega)
  rw [hentry, hentry, writeEntry, h]
  simp only [Option.map_some, Option.bind_some, List.getElem?_modify]
  by_cases hqp : q = p
  · simp [hqp]
  · have hne : ¬p - 1 = q - 1 := by omega
    simp [hne, hqp]

/-- A frame written at a position of a film: the counter moves on, and of the map that entry alone changes. -/
theorem writeFrame_written {film : Film} (h : (s.roll k).film = some film) {p : Nat} (hp : 1 ≤ p) (e : MapEntry) :
    ((writeFrame k p e s).roll k).counter = (s.roll k).counter + 1 ∧
    (p ≤ film.map.length → ((writeFrame k p e s).roll k).entry? p = some e) ∧
    (∀ q, q ≠ p → ((writeFrame k p e s).roll k).entry? q = (s.roll k).entry? q) ∧
    (writeFrame k p e s).roll k.other = s.roll k.other := by
  have hentry (q : Nat) : ((writeFrame k p e s).roll k).entry? q = (writeEntry p (fun _ => e) (s.roll k)).entry? q := by
    rw [roll_writeFrame]
    exact entry?_congr rfl q
  refine ⟨by rw [roll_writeFrame], fun hlen => ?_, fun q hq => ?_, roll_writeFrame_other _ _ _ _⟩
  · have hold : (s.roll k).entry? p = some film.map[p - 1] :=
      entry?_eq_some.mpr ⟨by omega, film, h, List.getElem?_eq_getElem (by omega)⟩
    rw [hentry, entry?_writeEntry h hp hp, if_pos rfl, hold]
    rfl
  · rw [hentry]
    by_cases hq0 : q = 0
    · subst hq0
      rfl
    · rw [entry?_writeEntry h hp (by omega), if_neg hq]

/-! ## Frames cut (R81, R83) -/

theorem cutFrame_eq (o : Order) (i : Nat × Nat) : (if o.live then o.cutFrame i else o) =
    if o.state = .ending ∨ o.cancelRequested = true ∨ i ∈ o.redo then o else { o with redo := o.redo ++ [i] } := by
  by_cases he : o.state = .ending
  · simp [Order.live, he]
  · by_cases hc : o.cancelRequested = true
    · simp [Order.cutFrame, hc]
    · rw [if_pos (by simp [Order.live, he]), Order.cutFrame, if_neg hc, owe_eq]
      by_cases hi : i ∈ o.redo
      · rw [if_pos hi, if_pos (.inr (.inr hi))]
      · rw [if_neg hi, if_neg (by simp [he, hc, hi])]

/-- A PENDING frame cut: its order is owed the item again, and the house account charged. -/
theorem cutPending_cut (n : Nat) (w : WorkItem) {p : Nat} (hp : s.framePrice k = p) :
    (∀ o, s.order? w.order = some o → (cutPending n k w s).order? w.order = some (
        if o.state = .ending ∨ o.cancelRequested = true ∨ (w.copy, w.step) ∈ o.redo then o
        else { o with redo := o.redo ++ [(w.copy, w.step)] })) ∧
      (cutPending n k w s).charge = { s.charge with house := { s.charge.house with
        charged := min 16777215 (s.charge.house.charged + p), cut := min 65535 (s.charge.house.cut + 1) } } := by
  have hno : ∀ o : Order, (if o.live then o.cutFrame (w.copy, w.step) else o).number = o.number := fun o => by
    rw [cutFrame_eq]
    split <;> rfl
  have hqueue : (cutPending n k w s).queue = (updLive w.order (fun o => o.cutFrame (w.copy, w.step)) s).queue := rfl
  refine ⟨fun o ho => ?_, ?_⟩
  · rw [order?_congr hqueue, updLive, order?_updOrder_same hno, ho, Option.map_some, cutFrame_eq]
  · have hprice : (updLive w.order (fun o => o.cutFrame (w.copy, w.step)) s).framePrice k = p := hp
    show (chargeFrames .cut k 1 _).charge = _
    rw [chargeFrames, hprice, Nat.one_mul]
    rfl

theorem framePrice_of_film {film : Film} (h : (s.roll k).film = some film) :
    s.framePrice k = ((s.stock? film.stock).map (fun e => e.price)).getD 0 := by rw [framePrice_eq, h]; rfl

theorem loseFrame_some {f : FrameRec} (h : s.timer.frames.get k = some f) : loseFrame k s =
    writeFrame k f.position (frameEntry f .spoiled (some (if f.lampSpoiled then .lamp else .timing)) none)
      (dropFrame k (if f.lampSpoiled then cutOutcome f.serial k .cut s else cutPending f.serial k f.item s)) := by
  simp only [loseFrame, h, cutFrameRec]

theorem loseShot_some {f : Firing} {x : Shot} (hf : s.timer.firing = some f) (hx : s.shot? k = some x) :
    loseShot k s = writeFrame k (s.roll k).counter (frameEntry (frameOf f x false) .spoiled (some .timing) none)
      (leaveFiring k s) := by
  simp only [loseShot, hf, hx]

/-- The firing without a back that leaves it. -/
def Firing.without (k : Back) (x : Shot) (f : Firing) : Firing :=
  { f with shots := f.shots.set k (some { x with shutter := .cut })
           lampFall := f.preOpen + largestTime (f.shots.set k (some { x with shutter := .cut })) }

theorem leaveFiring_some {f : Firing} {x : Shot} (hf : s.timer.firing = some f) (hx : s.shot? k = some x) :
    leaveFiring k s = endEmpty (cutPending f.serial k x.item
      (s.setTimer { s.timer with firing := some (f.without k x), shutters := s.timer.shutters.set k false })) := by
  simp only [leaveFiring, hf, hx]
  rfl

theorem shot?_eq_some {x : Shot} : s.shot? k = some x ↔
    ∃ f, s.timer.firing = some f ∧ f.shots.get k = some x ∧ x.shutter ≠ .cut := by
  rw [State.shot?, Option.filter_eq_some_iff, Option.bind_eq_some_iff]
  simp only [bne_iff_ne, ne_eq]
  exact ⟨fun ⟨⟨f, h1, h2⟩, h3⟩ => ⟨f, h1, h2, h3⟩, fun ⟨f, h1, h2, h3⟩ => ⟨⟨f, h1, h2⟩, h3⟩⟩

/-- The lines past the leaving of a back: with the other back in the firing it goes on to that back's time, else it ends. -/
theorem leaveFiring_timer {f : Firing} {x : Shot} (hf : s.timer.firing = some f) (hx : s.shot? k = some x) :
    (s.shot? k.other = none → (leaveFiring k s).timer = { s.timer with
      firing := none, count := none, lamp := false, shutters := ⟨false, false⟩ }) ∧
    (∀ y, s.shot? k.other = some y → (leaveFiring k s).timer =
      { s.timer with firing := some (f.without k x), shutters := s.timer.shutters.set k false }) := by
  have hleave := leaveFiring_some hf hx
  generalize hw : cutPending f.serial k x.item
    (s.setTimer { s.timer with firing := some (f.without k x), shutters := s.timer.shutters.set k false }) = w at hleave
  have htimer : w.timer = { s.timer with firing := some (f.without k x), shutters := s.timer.shutters.set k false } := by
    rw [← hw]
    simp
  have hself : w.shot? k = none := by
    rw [State.shot?, htimer]
    simp [Firing.without]
  have hother : w.shot? k.other = s.shot? k.other := by
    rw [State.shot?, htimer, State.shot?, hf]
    simp [Firing.without, Back.other_ne]
  have hempty : (includedBacks w).isEmpty = true ↔ s.shot? k.other = none := by
    rw [← hother, List.isEmpty_iff, includedBacks, List.filter_eq_nil_iff]
    cases k <;> simp_all [bothBacks, Back.other]
  rw [hleave]
  refine ⟨fun h => ?_, fun y hy => ?_⟩
  · rw [endEmpty, if_pos (hempty.mpr h)]
    simp [dropLines, htimer]
  · rw [endEmpty, if_neg (by rw [hempty, hy]; simp), htimer]

theorem lampFall_without {f : Firing} {x y : Shot} (hy : s.shot? k.other = some y) (hf : s.timer.firing = some f) :
    (f.without k x).lampFall = f.preOpen + y.time := by
  obtain ⟨g, hg, hshot, hcut⟩ := shot?_eq_some.mp hy
  obtain rfl : f = g := Option.some.inj (hf.symm.trans hg)
  cases k <;> simp_all [Firing.without, largestTime, PerBack.get, PerBack.set, Back.other]

theorem loseShot_none (h : s.shot? k = none) : loseShot k s = s := by
  unfold loseShot
  split
  · next hx => simp [h] at hx
  · rfl

theorem loseFrame_none (h : s.timer.frames.get k = none) : loseFrame k s = s := by simp only [loseFrame, h]

theorem afterLoss_none (hx : s.shot? k = none) (w : State) :
    afterLoss k s w = stepAfterFrame (s.timer.frames.get k) w := by
  unfold afterLoss
  split
  · next h => simp [hx] at h
  · rfl

/-- Past the report of a lost roll, only reports are told. -/
theorem Told.rollLost (hx : s.shot? k = none) (hf : s.timer.frames.get k = none) :
    Told (composeReport k .lost (updRoll k (fun r => { r with
      state := .lost, closeCause := some .lost, passThrough := .idle }) (fogRoll k s))) (rollLost k s) := by
  rw [Machine.rollLost, loseShot_none hx, loseFrame_none hf, afterLoss_none hx, hf]
  have hdropped := ((Told.refl (composeReport k .lost (updRoll k (fun r => { r with
    state := .lost, closeCause := some .lost, passThrough := .idle }) (fogRoll k s)))).updVisit
      (fun v => { v with lists := v.lists.set k [], dropped := v.dropped.set k true })).updVisit
      (fun v => { v with owed := v.owed.set k false })
  exact hdropped.completeCancels.testReturning

theorem Onward.rollLost_told (hx : s.shot? k = none) (hf : s.timer.frames.get k = none) :
    Onward [] 0 (Machine.composeReport k .lost (Machine.updRoll k (fun r => { r with
      state := .lost, closeCause := some .lost, passThrough := .idle }) (fogRoll k s))) (Machine.rollLost k s) := by
  rw [Machine.rollLost, loseShot_none hx, loseFrame_none hf, afterLoss_none hx, hf]
  exact ((((Onward.refl _).updVisit _).updVisit _).completeCancels).testReturning

/-- Settles O47. -/
theorem lostRolls : Obligations.LostRolls := by
  unfold Obligations.LostRolls
  refine ⟨fun k s => ⟨rfl, loseShot_none, loseFrame_none⟩, fun k s hx hfr => ?loss, fun k film s hfilm hn => ?fog,
    fun k film s hfilm => ?cut⟩
  case loss =>
    intro t told
    have htold : Told told t := Told.rollLost hx hfr
    have hflags : Onward [] 0 told t := Onward.rollLost_told hx hfr
    have hroll : told.roll k = { (fogRoll k s).roll k with
        state := .lost, closeCause := some .lost, passThrough := .idle, report := (told.roll k).report } := by
      simp only [told, roll_composeReport, updRoll_same]
    have hreport : (told.roll k).report = some (s.link.clock, (told.roll k).rollReport k .lost) := by
      simp only [told, roll_composeReport]
      have hclock : (updRoll k (fun r => { r with state := .lost, closeCause := some .lost, passThrough := .idle })
        (fogRoll k s)).link.clock = s.link.clock := by simp
      rw [hclock]
      rfl
    have hother : told.roll k.other = s.roll k.other := by
      simp only [told, roll_composeReport_other, roll_updRoll_other, roll_fogRoll_other]
    have htaken : reportTaken (told.roll k) = { told.roll k with report := none } := by
      rw [hroll]
      rfl
    have ht : ∃ rep, (rep = (told.roll k).report ∨ rep = none) ∧ t.roll k = { told.roll k with report := rep } := by
      rcases htold.rolls k with h | h
      · exact ⟨_, .inl rfl, h⟩
      · exact ⟨none, .inr rfl, h.trans htaken⟩
    obtain ⟨rep, hrep, ht⟩ := ht
    refine ⟨hreport, ?_, ?_, ?_, ?_, ?_, fun p => ?_, ?_, ?_, ?_, hflags.flags _ (hasFlag_composeReport _)⟩
    · rw [ht]
      exact hrep
    · rw [ht, hroll]
    · rw [ht, hroll]
    · rw [ht, hroll]
    · rw [ht, hroll, roll_fogRoll]
    · exact (entry?_congr (q := (fogRoll k s).roll k) (by rw [ht, hroll]) p).trans (entry?_fogRoll k p s)
    · exact spans_fogRoll k s
    · rw [htold.house]
      simp [told, composeReport]
    · have h := htold.rolls k.other
      rwa [hother] at h
  case fog =>
    intro t exposed live fogged mine price
    have hid : (s.roll k).id = film.rollId := by rw [Roll.id, hfilm]; rfl
    have hcount (p : Nat × Nat × Nat → Bool) := itemsExposed_filter p film.map
    have hfogged : ((exposedItems (s.roll k)).filter (fun x => (s.live? x.1.1).isSome)).length = fogged.length := by
      have hlive (x : (Nat × Nat × Nat) × Bool) : (s.live? x.1.1).isSome = live x.1.1 := by
        simp only [State.live?, live, Option.isSome_filter]
        rfl
      rw [exposedItems_eq hfilm, List.filter_congr fun x _ => hlive x, hcount (fun i => live i.1), List.length_map]
    have hcharge : t.charge = _ := charge_fogRoll k s
    rw [hfogged, framePrice_of_film hfilm] at hcharge
    refine ⟨fun n o ho he => ?_, fun n o ho he => ?_, fun hnone => ?_, fun hsome => ?_⟩
    · simp only [t, order?_fogRoll, ho, Option.map_some, foldl_fogTold_ending _ he]
      rw [if_neg (by simp [Order.live, he])]
    · obtain ⟨owed, heq, hyes, hnot⟩ := foldl_fogTold (exposedItems (s.roll k)) he
      obtain rfl : o.number = n := (mem_of_order? ho).2
      rw [exposedItems_eq hfilm, hcount (fun i => i.1 == o.number)] at heq hnot
      refine ⟨owed, ?_, hyes, fun hc => ⟨(hnot hc).1, fun i => ((hnot hc).2 i).trans (and_congr_right fun _ => ?_)⟩⟩
      · simp only [t, order?_fogRoll, ho, Option.map_some, exposedItems_eq hfilm, heq]
        rw [if_pos (by simpa [Order.live] using he), hid]
        simp [dropSpans, List.length_map, List.filter_map, mine, exposed, Function.comp_def]
      · simp only [List.mem_map, exists_exists_and_eq_and]
        refine exists_congr fun e => and_congr_right fun hm => ?_
        obtain ⟨i', hi', hn'⟩ : ∃ i', e.item = some i' ∧ i'.1 = o.number := by
          simpa [Option.any_eq_true] using (List.mem_filter.mp hm).2
        rw [hi', Option.getD_some, Option.some.injEq]
        exact ⟨fun h => Prod.ext hn' h, fun h => congrArg Prod.snd h⟩
    · rw [hcharge, hnone]
      rfl
    · rw [hcharge, fogCharged, if_neg (by simpa using hsome)]
  case cut =>
    intro price spoiled cut written
    have hprice := framePrice_of_film hfilm
    refine ⟨fun f x hf hx hc => ?_, fun f hf hp => ?_⟩
    · intro u
      have hu : u = _ := loseShot_some hf hx
      have hrolls (j : Back) : (leaveFiring k s).roll j = s.roll j := roll_congr (by simp) j
      obtain ⟨hends, hgoes⟩ := leaveFiring_timer hf hx
      have hleave := leaveFiring_some hf hx
      obtain ⟨horder, hcharge⟩ := cutPending_cut (s := s.setTimer { s.timer with
        firing := some (f.without k x), shutters := s.timer.shutters.set k false }) (k := k) f.serial x.item hprice
      obtain ⟨h1, h2, h3, h4⟩ := writeFrame_written (s := leaveFiring k s) (by rw [hrolls]; exact hfilm) hc
        (frameEntry (frameOf f x false) .spoiled (some .timing) none)
      rw [← hu] at h1 h2 h3 h4
      rw [hrolls] at h1 h3 h4
      have hutimer : u.timer = (leaveFiring k s).timer := by rw [hu]; simp
      have hushot (j : Back) : u.shot? j = (leaveFiring k s).shot? j := shot?_congr hutimer j
      refine ⟨⟨h1, h2, h3, h4⟩, ⟨fun o ho => ?_, ?_⟩, ?_, ?_, ?_, fun hnone => ?_, fun y hy => ⟨?_, ?_, ?_⟩⟩
      · have hqueue : u.queue = (cutPending f.serial k x.item (s.setTimer { s.timer with
            firing := some (f.without k x), shutters := s.timer.shutters.set k false })).queue := by
          rw [hu, hleave]
          simp
        rw [order?_congr hqueue]
        exact horder o ho
      · have hucharge : u.charge = (cutPending f.serial k x.item (s.setTimer { s.timer with
            firing := some (f.without k x), shutters := s.timer.shutters.set k false })).charge := by
          rw [hu, hleave]
          simp
        rw [hucharge, hcharge]
        rfl
      · rw [hushot, State.shot?]
        cases ho : s.shot? k.other with
        | none => rw [hends ho]; rfl
        | some y => rw [hgoes y ho]; simp [Firing.without]
      · rw [hutimer]
        cases ho : s.shot? k.other with
        | none => rw [hends ho]; cases k <;> rfl
        | some y => rw [hgoes y ho]; simp
      · rw [hutimer]
        cases ho : s.shot? k.other with
        | none => rw [hends ho]
        | some y => rw [hgoes y ho]
      · rw [hutimer, hends hnone]
        exact ⟨rfl, rfl⟩
      · rw [hushot, State.shot?, hgoes y hy, ← hy, State.shot?, hf]
        simp [Firing.without, Back.other_ne]
      · rw [hutimer, hgoes y hy]
      · rw [hutimer, hgoes y hy]
        exact ⟨_, rfl, lampFall_without hy hf, rfl, rfl⟩
    · intro u
      have hu : u = _ := loseFrame_some hf
      generalize hw : dropFrame k (if f.lampSpoiled then cutOutcome f.serial k .cut s
        else cutPending f.serial k f.item s) = w at hu
      have hrolls (j : Back) : w.roll j = s.roll j := by
        rw [← hw]
        exact roll_congr (by split <;> simp) j
      have htimer : w.timer = { s.timer with frames := s.timer.frames.set k none } := by
        rw [← hw]
        split <;> simp [dropFrame]
      obtain ⟨h1, h2, h3, h4⟩ := writeFrame_written (s := w) (by rw [hrolls]; exact hfilm) hp
        (frameEntry f .spoiled (some (if f.lampSpoiled then .lamp else .timing)) none)
      rw [← hu] at h1 h2 h3 h4
      rw [hrolls] at h1 h4
      have huqueue : u.queue = w.queue := by rw [hu]; simp
      have hucharge : u.charge = w.charge := by rw [hu]; simp
      refine ⟨⟨h1, h2, fun q hq => by rw [h3 q hq, hrolls], h4⟩, ?_, fun hl => ?_, fun hl => ?_⟩
      · rw [hu, ← htimer]
        simp
      · rw [huqueue, hucharge, ← hw, if_pos hl]
        simp
      · obtain ⟨horder, hcharge⟩ := cutPending_cut (s := s) (k := k) f.serial f.item hprice
        refine ⟨fun o ho => ?_, ?_⟩
        · rw [order?_congr (t := cutPending f.serial k f.item s) (by rw [huqueue, ← hw, if_neg (by simp [hl])]; simp)]
          exact horder o ho
        · rw [hucharge, ← hw, if_neg (by simp [hl]), ← hcharge]
          simp

end Sys2Proof.Machine
end


section
/-!
O38: what ends a step, and the opening of a visit.
-/

namespace Sys2Proof.Machine

variable {s t u : State} {v : Visit} {o w : Order} {k : Back} {n m : Nat}

/-! ## Waiting reasons and wanted sets (R14, R15) -/

theorem readyFor_iff {r : Roll} {c : Nat} : r.readyFor c = true ↔ r.state = .ready ∧ r.stock? = some c := by
  simp [Roll.readyFor]

theorem offers_iff {r : Roll} {c : Nat} :
    r.offers c = true ↔ (r.state = .ready ∨ r.state = .leader) ∧ r.stock? = some c := by simp [Roll.offers]

theorem raiseTimes_eq_foldl {α : Type} (f : EventFlag) (l : List α) (s : State) :
    raiseTimes f l.length s = (l.map (fun _ => f)).foldl (fun u f => raise f u) s := by
  induction l generalizing s with
  | nil => rfl
  | cons x l ih => exact ih (raise f s)

theorem entering_eq (old new : List Nat) : entering old new = new.filter (fun n => n ∉ old) := by
  simp [entering]

theorem queue_refreshWanted (s : State) : (refreshWanted s).queue = { s.queue with
    orders := s.queue.orders.map (fun o => { o with waiting := waitingOf s o })
    wantedStock := s.wantedStocks, wantedMagazine := s.wantedMagazines } := by
  simp [refreshWanted]

theorem mem_wantedStocks {c : Nat} : c ∈ s.wantedStocks ↔ (∃ o ∈ s.queue.orders, o.state = .queued ∧ o.stock = c) ∧
    ∀ k, ¬(((s.roll k).state = .ready ∨ (s.roll k).state = .leader) ∧ (s.roll k).stock? = some c) := by
  have hrolls : (!(s.rolls.a.offers c || s.rolls.b.offers c)) = true ↔
      ∀ k, ¬(((s.roll k).state = .ready ∨ (s.roll k).state = .leader) ∧ (s.roll k).stock? = some c) := by
    simp only [← offers_iff, Bool.not_eq_true', Bool.or_eq_false_iff, Bool.not_eq_true]
    exact ⟨fun h k => by cases k; exacts [h.1, h.2], fun h => ⟨h .a, h .b⟩⟩
  rw [State.wantedStocks, List.mem_eraseDups, List.mem_filter, hrolls]
  simp [and_assoc]

theorem mem_wantedMagazines : m ∈ s.wantedMagazines ↔ (∃ o ∈ s.queue.orders, o.state = .queued ∧ o.magazine = m) ∧
    s.bus.feeder.magazine ≠ some m := by
  rw [State.wantedMagazines, List.mem_eraseDups, List.mem_filter]
  simp [and_assoc, State.magazine]

/-- The wanted sets brought up to date, with a flag for each entry that enters its set (R15). -/
theorem refreshWanted_eq (s : State) : refreshWanted s =
    (((s.wantedStocks.filter (fun c => c ∉ s.queue.wantedStock)).map (fun _ => EventFlag.stockWanted)) ++
      ((s.wantedMagazines.filter (fun c => c ∉ s.queue.wantedMagazine)).map (fun _ => EventFlag.magazineWanted))).foldl
      (fun u f => raise f u) (s.setQueue (refreshWanted s).queue) := by
  rw [queue_refreshWanted, List.foldl_append, ← raiseTimes_eq_foldl, ← raiseTimes_eq_foldl, ← entering_eq, ← entering_eq]
  rfl

/-! ## The end of a stop (R151) -/

theorem atRest_iff : s.atRest = true ↔ s.timer.firing = none ∧ (∀ v, s.gate.visit = some v → v.owed = ⟨false, false⟩) ∧
    ∀ u, (u = .feeder ∨ u = .meter) → (∀ o, (s.slot u).outstanding = some o → o.issuer ≠ .visit) ∧
      ∀ c ∈ (s.slot u).waiting, c.issuer ≠ .visit := by
  have hcommand (u : UnitSlot) : s.visitCommand u = false ↔ (∀ o, (s.slot u).outstanding = some o → o.issuer ≠ .visit) ∧
      ∀ c ∈ (s.slot u).waiting, c.issuer ≠ .visit := by
    rw [← Bool.not_eq_true, visitCommand_iff]
    simp only [not_or, not_exists, not_and]
  have howed : s.gate.visit.all (fun v => !v.owed.a && !v.owed.b) = true ↔
      ∀ v, s.gate.visit = some v → v.owed = ⟨false, false⟩ := by
    cases s.gate.visit with
    | none => simp
    | some v =>
      rcases hv : v.owed with ⟨a, b⟩
      simp [hv]
  simp only [State.atRest, Bool.and_eq_true, Bool.not_eq_true', hcommand, howed, Option.isNone_iff_eq_none,
    or_imp, forall_and, forall_eq]
  tauto

theorem stopDone_iff : stopDone s = true ↔
    s.gate.engine = .stopping ∧ (s.gate.visit = none ∨ s.gate.stopKind = some .hold ∧ s.atRest = true) := by
  simp [stopDone]

/-! ## The choice of a visit (R22 to R28) -/

theorem eligible_iff : eligible s o = true ↔ o.state = .queued ∧ o.cancelRequested = false ∧
    s.bus.feeder.magazine = some o.magazine ∧ ∃ k, (s.roll k).state = .ready ∧ (s.roll k).stock? = some o.stock := by
  have hready : s.stockReady o.stock = true ↔ ∃ k, (s.roll k).state = .ready ∧ (s.roll k).stock? = some o.stock := by
    simp only [← readyFor_iff, State.stockReady, Bool.or_eq_true]
    exact ⟨fun h => h.elim (fun h => ⟨.a, h⟩) fun h => ⟨.b, h⟩, fun ⟨k, h⟩ => by cases k; exacts [.inl h, .inr h]⟩
  simp only [eligible, Bool.and_eq_true, hready, beq_iff_eq, Bool.not_eq_true', State.magazine, and_assoc]

/-- No order wins when none is eligible. -/
theorem winner_none (h : ∀ o ∈ s.queue.orders, eligible s o = false) : winner s = none := by
  have hnil : s.queue.orders.filter (eligible s) = [] := List.filter_eq_nil_iff.mpr fun o ho => by simp [h o ho]
  simp [winner, hnil]

/-- The first eligible rush order wins, else the first eligible (R23). -/
theorem winner_eq {before after : List Order} (horders : s.queue.orders = before ++ w :: after)
    (hw : eligible s w = true) (hbefore : ∀ o ∈ before, eligible s o = true → o.rush = false ∧ w.rush = true)
    (hafter : w.rush = false → ∀ o ∈ after, eligible s o = true → o.rush = false) : winner s = some w := by
  have hfilter : s.queue.orders.filter (eligible s) = before.filter (eligible s) ++ w :: after.filter (eligible s) := by
    rw [horders, List.filter_append, List.filter_cons_of_pos hw]
  rw [winner, hfilter]
  cases hr : w.rush with
  | true =>
    have hnone : (before.filter (eligible s)).find? (fun o => o.rush) = none :=
      List.find?_eq_none.mpr fun o ho => by simp [(hbefore o (List.mem_filter.mp ho).1 (List.mem_filter.mp ho).2).1]
    simp [List.find?_append, hnone, hr]
  | false =>
    have hnil : before.filter (eligible s) = [] :=
      List.filter_eq_nil_iff.mpr fun o ho he => by simpa [hr] using (hbefore o ho he).2
    have hnone : (w :: after.filter (eligible s)).find? (fun o => o.rush) = none :=
      List.find?_eq_none.mpr fun o ho => by
        rcases List.mem_cons.mp ho with rfl | ho
        · simp [hr]
        · simp [hafter hr o (List.mem_filter.mp ho).1 (List.mem_filter.mp ho).2]
    simp [hnil, hnone]

/-- The back of a member: of two whose READY rolls carry its stock, the one with more free positions, else A (R26). -/
theorem assignBack_eq (s : State) (c : Nat) : assignBack s c =
    if (s.roll .a).readyFor c && (s.roll .b).readyFor c then if (s.roll .a).free < (s.roll .b).free then .b else .a
    else if (s.roll .a).readyFor c then .a else .b := by
  show (if !(s.roll .a).readyFor c then Back.b else if !(s.roll .b).readyFor c then Back.a
    else if (s.roll .a).free < (s.roll .b).free then Back.b else Back.a) = _
  cases (s.roll .a).readyFor c <;> cases (s.roll .b).readyFor c <;> rfl

/-- Settles O38. -/
theorem endOfAStepAndOpeningOfAVisit : Obligations.EndOfAStepAndOpeningOfAVisit := by
  unfold Obligations.EndOfAStepAndOpeningOfAVisit
  refine ⟨fun s => ?_, fun s => ?_, fun s h => ?_, fun o s => eligible_iff,
    fun w before after s heng hv horders hw hfeeder hbefore hafter => ?_⟩
  · intro t ready reason stocks magazines flags
    have hqueue : t.queue = _ := queue_refreshWanted s
    have hstock : t.queue.wantedStock = s.wantedStocks := by rw [hqueue]
    have hmagazine : t.queue.wantedMagazine = s.wantedMagazines := by rw [hqueue]
    refine ⟨rfl, ?_, ?_, ?_, fun c => ?_, fun m => ?_, ?_⟩
    · rw [hqueue]
      rfl
    · rw [hstock]
      exact nodup_eraseDups _
    · rw [hmagazine]
      exact nodup_eraseDups _
    · rw [hstock, mem_wantedStocks]
    · rw [hmagazine, mem_wantedMagazines]
    · simp only [flags, stocks, magazines, hstock, hmagazine]
      exact refreshWanted_eq s
  · intro atRest done
    have hdone : done ↔ stopDone s = true := by rw [stopDone_iff, atRest_iff]
    exact ⟨fun h => if_pos (hdone.mp h), fun h => if_neg (mt hdone.mpr h)⟩
  · unfold choose
    split
    · next hrun =>
      rw [winner_none ((h.resolve_left (absurd hrun.1)).resolve_left (by simp [hrun.2]))]
    · rfl
  · intro joins members ready backFor opened taken
    have hback (o : Order) : assignBack s o.stock = backFor o := assignBack_eq s o.stock
    have hopened : openVisit s w (chosen s w) = opened := by
      simp only [openVisit, openingList, hback]
      rfl
    rw [choose, if_pos ⟨heng, hv⟩, winner_eq horders hw hbefore hafter]
    dsimp only
    rw [open_, hopened, sendLoad_eq (v := opened) rfl]
    have htaken : activate ((chosen s w).map (fun o => o.number)) = taken := by
      funext o
      simp only [activate, taken, List.contains_iff_mem]
      rfl
    rw [if_pos (by exact hfeeder), htaken]
    rfl

end Sys2Proof.Machine
end


section
/-!
O39: the start of a firing, the items it takes, and the blanking of a roll a set does not fit.
-/

namespace Sys2Proof.Machine

variable {s t u : State} {v : Visit} {o : Order} {w : WorkItem} {k : Back} {n m : Nat}

/-! ## The conditions of a firing (R30, R31) -/

theorem backReady_congr (hr : s.rolls = t.rolls) : backReady s v k = backReady t v k := by
  rw [backReady, backReady, roll_congr hr]

theorem labelCheck_iff : s.labelCheck = true ↔ s.settings.labelPolicy = .skip ∨ 6 ≤ 64 - s.labels.queue.length := by
  simp only [State.labelCheck, Bool.or_eq_true, beq_iff_eq, decide_eq_true_iff]
  rfl

theorem firingComplete_iff (h : s.timer.firing = none) : firingComplete s m = true ↔
    ∀ k f, s.timer.frames.get k = some f → f.serial ≠ m := by
  rw [firingComplete_eq, serialDone, h]
  simp only [Option.all_none, Bool.true_and, List.all_cons, List.all_nil, Bool.and_true, Bool.and_eq_true,
    Option.all_eq_true, bne_iff_ne]
  exact ⟨fun h k => by cases k; exacts [h.1, h.2], fun h => ⟨h .a, h .b⟩⟩

theorem firingConditions_iff : firingConditions s v = true ↔
    s.gate.engine = .running ∧ v.held = false ∧ v.release = false ∧ s.timer.firing = none ∧
      (s.gate.stepMode = true → ∀ k f, s.timer.frames.get k = some f → f.serial ≠ s.timer.serial) ∧
      ∃ k, backReady s v k = true := by
  have hbacks : (backReady s v .a || backReady s v .b) = true ↔ ∃ k, backReady s v k = true := by
    rw [Bool.or_eq_true]
    exact ⟨fun h => h.elim (fun h => ⟨.a, h⟩) fun h => ⟨.b, h⟩, fun ⟨k, h⟩ => by cases k; exacts [.inl h, .inr h]⟩
  simp only [firingConditions, Bool.and_eq_true, hbacks, beq_iff_eq, Bool.not_eq_true', Option.isNone_iff_eq_none,
    Bool.or_eq_true, and_assoc]
  refine and_congr_right fun _ => and_congr_right fun _ => and_congr_right fun _ => and_congr_right fun hf =>
    and_congr_left fun _ => ?_
  rw [firingComplete_iff hf]
  cases s.gate.stepMode <;> simp

theorem testFiring_eq (hv : s.gate.visit = some v) (hst : v.state = .exposing) (hr : s.gate.engine ≠ .resetting) :
    testFiring s =
      if !firingConditions s v then setLabelWait false s
      else if s.labelCheck then startFiring v s
      else if s.labels.labelWait then s
      else raise .labelHold (setLabelWait true s) := by
  unfold testFiring
  rw [hv]
  exact if_neg (by simp [hst, hr])

/-- An item does not fit a roll exactly when it starts a set of more steps than the roll has free positions (R97). -/
theorem not_fits_iff (s : State) (k : Back) (w : WorkItem) : fits s k w = !(w.kind == .setStart &&
    (s.order? w.order).any (fun o => decide ((s.roll k).frames + 1 - (s.roll k).counter < o.pattern.steps))) := by
  rw [fits, stepsOfOrder, Bool.not_and]
  refine congrArg _ ?_
  cases s.order? w.order with
  | none => simp
  | some o =>
    rw [Bool.eq_iff_iff]
    simp only [Option.map_some, Option.getD_some, Option.any_some, decide_eq_true_iff, Bool.not_eq_true',
      decide_eq_false_iff_not]
    exact Nat.not_lt.symm

theorem fits_congr (hq : s.queue = t.queue) (hr : s.roll k = t.roll k) (w : WorkItem) : fits s k w = fits t k w := by
  rw [fits, fits, stepsOfOrder, stepsOfOrder, order?_congr hq, hr]

theorem roll_blankRoll_other (k : Back) (s : State) : (blankRoll k s).roll k.other = s.roll k.other := by
  have hrolls : (blankRoll k s).rolls = (updRoll k (fun x => { blankRange (s.roll k).counter (s.roll k).frames x with
      counter := (s.roll k).frames + 1 }) (enterClosing k .blanked s)).rolls := by
    simp [blankRoll]
  rw [roll_congr hrolls, roll_updRoll_other, roll_enterClosing_other]

/-! ## The items a firing takes (R10, R11, R31) -/

/-- The head of a list taken for a firing, when its back is included. -/
def takeHead (k : Back) (w : Option WorkItem) (s : State) : State := w.elim s (fun x => takeItem k x s)

@[simp] theorem takeHead_kept (k : Back) (w : Option WorkItem) (s : State) : (takeHead k w s).timer = s.timer ∧
    (takeHead k w s).rolls = s.rolls ∧ (takeHead k w s).bus = s.bus ∧ (takeHead k w s).settings = s.settings ∧
    (takeHead k w s).gate.fired = s.gate.fired := by
  cases w <;> simp [takeHead, takeItem]

theorem visit_takeHead (k : Back) (w : Option WorkItem) (s : State) : (takeHead k w s).gate.visit =
    s.gate.visit.map (fun v => { v with lists :=
      (if w.isSome then v.lists.set k (v.lists.get k).tail else v.lists) }) := by
  cases w with
  | none => exact Option.map_id'.symm
  | some x => simp [takeHead, takeItem, updVisit]

theorem queue_takeHead (k : Back) (w : Option WorkItem) (s : State) : (takeHead k w s).queue = { s.queue with
    orders := s.queue.orders.map (fun o => w.elim o (fun x => if x.order = o.number then o.fired x else o)) } := by
  cases w with
  | none => simp [takeHead]
  | some x =>
    simp only [takeHead, Option.elim_some, takeItem, State.setLabels_queue, updOrder, eq_comm (a := x.order)]
    simp [updVisit]

theorem labels_takeHead (k : Back) (w : Option WorkItem) (s : State) : (takeHead k w s).labels = { s.labels with
    noted := if w.isSome then s.labels.noted.set k (some s.settings.labelPolicy) else s.labels.noted } := by
  cases w with
  | none => rfl
  | some x => simp [takeHead, takeItem]

theorem armFiring_eq (x : PerBack (Option WorkItem)) (s : State) : armFiring x.a x.b s =
    let n := s.timer.serial + 1
    let shots : PerBack (Option Shot) := ⟨x.a.map (makeShot s .a), x.b.map (makeShot s .b)⟩
    setLabelWait false (takeHead .b x.b (takeHead .a x.a
      ((s.setTimer { s.timer with firing := some (makeFiring s n shots), count := some 0, serial := n,
                                  shutters := ⟨x.a.isSome, x.b.isSome⟩ }).setGate
        { s.gate with fired := ⟨firedShots s n .a shots.a, firedShots s n .b shots.b⟩ }))) := by
  obtain ⟨a, b⟩ := x
  cases a <;> cases b <;> rfl

/-- Arming a firing sets its timer, takes its items and remembers its parts (R31, R154). -/
theorem armFiring_parts (x : PerBack (Option WorkItem)) (s : State) :
    let t := armFiring x.a x.b s
    let n := s.timer.serial + 1
    let shots : PerBack (Option Shot) := ⟨x.a.map (makeShot s .a), x.b.map (makeShot s .b)⟩
    t.timer = { s.timer with firing := some (makeFiring s n shots), count := some 0, serial := n,
                             shutters := ⟨x.a.isSome, x.b.isSome⟩ } ∧
    t.gate.fired = ⟨firedShots s n .a shots.a, firedShots s n .b shots.b⟩ ∧
    t.gate.visit = (s.gate.visit.map (fun v => { v with lists :=
        (if x.a.isSome then v.lists.set .a (v.lists.get .a).tail else v.lists) })).map (fun v => { v with lists :=
      (if x.b.isSome then v.lists.set .b (v.lists.get .b).tail else v.lists) }) ∧
    t.queue = { s.queue with orders := (s.queue.orders.map (fun o =>
        x.a.elim o (fun y => if y.order = o.number then o.fired y else o))).map (fun o =>
      x.b.elim o (fun y => if y.order = o.number then o.fired y else o)) } ∧
    t.labels = { s.labels with labelWait := false, noted :=
      ⟨if x.a.isSome then some s.settings.labelPolicy else s.labels.noted.a,
        if x.b.isSome then some s.settings.labelPolicy else s.labels.noted.b⟩ } := by
  intro t n shots
  have ht : t = _ := armFiring_eq x s
  refine ⟨?_, ?_, ?_, ?_, ?_⟩
  · rw [ht]
    simp [setLabelWait, n, shots]
  · rw [ht]
    simp [setLabelWait, n, shots]
  · rw [ht]
    simp only [setLabelWait, State.setLabels_gate, visit_takeHead]
    rfl
  · rw [ht]
    simp only [setLabelWait, State.setLabels_queue, queue_takeHead]
    rfl
  · rw [ht]
    simp only [setLabelWait, State.setLabels_labels, labels_takeHead, takeHead_kept]
    obtain ⟨a, b⟩ := x
    cases a <;> cases b <;> rfl

theorem lampFall_makeFiring (s : State) (n : Nat) (x : PerBack (Option WorkItem)) :
    let shots : PerBack (Option Shot) := ⟨x.a.map (makeShot s .a), x.b.map (makeShot s .b)⟩
    (makeFiring s n shots).lampFall = s.settings.preOpen +
      max ((shots.a.map (fun y => y.time)).getD 0) ((shots.b.map (fun y => y.time)).getD 0) := by
  obtain ⟨a, b⟩ := x
  cases a <;> cases b <;> rfl

/-! ## The blanking of a roll (R97) -/

theorem bus_issue_congr (hb : s.bus = t.bus) (hs : s.settings = t.settings) (u : UnitSlot) (c : UnitCmd) (i : Issuer) :
    (issue u c i s).bus = (issue u c i t).bus := by
  simp only [issue, sendCommand, State.setSlot, slot_congr hb, hb, hs]
  split <;> rfl

theorem roll_blankRoll {film : Film} (h : (s.roll k).film = some film) : (blankRoll k s).roll k =
    { blankRange (s.roll k).counter film.frames
        { s.roll k with state := .closing, closeCause := some .blanked, passThrough := .idle } with
      counter := film.frames + 1 } := by
  have hframes : (s.roll k).frames = film.frames := by rw [Roll.frames, h]; rfl
  have hrolls : (blankRoll k s).rolls = (updRoll k (fun x => { blankRange (s.roll k).counter (s.roll k).frames x with
      counter := (s.roll k).frames + 1 }) (enterClosing k .blanked s)).rolls := by
    simp [blankRoll]
  rw [roll_congr hrolls, updRoll_same, roll_enterClosing, hframes]

/-- Settles O39. -/
theorem startOfAFiring : Obligations.StartOfAFiring := by
  unfold Obligations.StartOfAFiring
  refine ⟨fun v s hv hst hr => ?_, fun x v s hv => ?_, fun w o c p => ⟨fun h => ?_, fun h hn hc hp => ?_⟩,
    fun k film s hfilm => ?_⟩
  · intro ready starts labelsPass unfit item
    have hstarts : starts ↔ firingConditions s v = true := firingConditions_iff.symm
    have hlabels : labelsPass ↔ s.labelCheck = true := labelCheck_iff.symm
    rw [testFiring_eq hv hst hr]
    refine ⟨fun h => ?_, fun h hl hw => ?_, fun h hl hw => ?_, fun h hl => ?_⟩
    · rw [if_pos (by simpa using mt hstarts.mpr h)]
      rfl
    · rw [if_neg (by simpa using hstarts.mp h), if_neg (mt hlabels.mpr hl), if_pos hw]
    · rw [if_neg (by simpa using hstarts.mp h), if_neg (mt hlabels.mpr hl), if_neg (by simpa using hw)]
      rfl
    · intro a b
      have hunfit (k : Back) : (candidate s v k).any (fun x => !fits s k x) = unfit k := by
        simp only [not_fits_iff, Bool.not_not, candidate, unfit]
        rw [show ready k = backReady s v k from rfl]
        cases backReady s v k <;> rfl
      have hitem (k : Back) : (candidate s v k).filter (fits s k) = item k := by
        simp only [item, ← hunfit, candidate]
        rw [show ready k = backReady s v k from rfl]
        cases backReady s v k with
        | false => rfl
        | true => cases h : (v.lists.get k).head? with
          | none => rfl
          | some x => cases hx : fits s k x <;> simp [hx]
      have ha : blankUnfit .a (candidate s v .a) s = a := by rw [blankUnfit, hunfit]
      have hqueue : a.queue = s.queue := by
        simp only [a]
        split <;> simp
      have hroll : a.roll .b = s.roll .b := by
        simp only [a]
        split
        · exact roll_blankRoll_other .a s
        · rfl
      have hb : blankUnfit .b (candidate s v .b) a = b := by
        simp only [blankUnfit, fits_congr hqueue hroll, hunfit]
        rfl
      rw [if_neg (by simpa using hstarts.mp h), if_pos (hlabels.mp hl), startFiring, ha, hb, hitem, hitem]
      refine ⟨fun h1 h2 => ?_, fun hsome => if_neg ?_⟩
      · rw [h1, h2]
        rfl
      · rw [Bool.and_eq_true, Option.isNone_iff_eq_none, Option.isNone_iff_eq_none]
        rintro ⟨h1, h2⟩
        simp [h1, h2] at hsome
  · intro t
    obtain ⟨htimer, hfired, hvisit, hqueue, hlabels⟩ := armFiring_parts x s
    refine ⟨_, htimer, rfl, rfl, rfl, rfl, lampFall_makeFiring s _ x, fun k hk => ?_, fun k w hk => ?_,
      fun u hu k => ?_, ?_, ?_, fun k => ?_, ?_, ?_⟩
    · cases k <;> exact congrArg (Option.map _) hk
    · refine ⟨makeShot s k w, by cases k <;> exact congrArg (Option.map _) hk, rfl, rfl, rfl, rfl, fun o ho => ?_⟩
      simp [makeShot, ho]
    · rw [hvisit, hv] at hu
      obtain rfl := Option.some.inj hu
      obtain ⟨a, b⟩ := x
      cases k <;> cases a <;> cases b <;> rfl
    · intro moved
      rw [hqueue, List.map_map]
      rfl
    · exact hlabels
    · have hopen : openShots s k = (s.gate.fired.get k).filter (fun c => !serialDone s c.serial) := by
        simp only [openShots, firingComplete_eq]
      have hfirst (y : Option WorkItem) : ((y.map (makeShot s k)).map (startedShot (s.timer.serial + 1) k)).toList =
          y.toList.map (fun w => startedShot (s.timer.serial + 1) k (makeShot s k w)) := by cases y <;> rfl
      have hfiredk : (armFiring x.a x.b s).gate.fired.get k =
          firedShots s (s.timer.serial + 1) k ((x.get k).map (makeShot s k)) := by
        rw [hfired]
        cases k <;> rfl
      rw [hfiredk, firedShots, hopen, hfirst]
      rfl
    · simp [t]
    · simp [t]
  · rw [Order.fired, if_pos h]
  · rw [Order.fired, if_neg h, if_pos (by rw [hn, hc, hp]), hc, hp]
    rfl
  · intro n price t
    have hframes : (s.roll k).frames = film.frames := by rw [Roll.frames, hfilm]; rfl
    have hroll : t.roll k = _ := roll_blankRoll hfilm
    refine ⟨?_, ?_, ?_, fun p e he => ?_, roll_blankRoll_other k s, ?_, ?_, fun v hv => ?_⟩
    · rw [hroll]
      rfl
    · rw [hroll]
      rfl
    · rw [hroll]
    · rw [hroll]
      exact entry?_blankRange (s.roll k).counter film.frames
        (r := { s.roll k with state := .closing, closeCause := some .blanked, passThrough := .idle }) he
    · have hcharge : t.charge = (chargeFrames .blank k (s.roll k).free s).charge := by
        have hprice : (updRoll k (fun x => { blankRange (s.roll k).counter (s.roll k).frames x with
            counter := (s.roll k).frames + 1 }) (enterClosing k .blanked s)).framePrice k = s.framePrice k := by
          rw [framePrice_eq, framePrice_eq, updRoll_same, roll_enterClosing]
          simp [blankRange, hfilm, State.stock?]
        simp only [t, blankRoll, issue_frame, chargeFrames, State.setCharge_charge, hprice]
        simp
      rw [hcharge, chargeFrames, framePrice_eq, hfilm, Roll.free, hframes]
      rfl
    · have hn : (s.roll k).free = n := by rw [Roll.free, hframes]
      simp only [t, blankRoll, hn]
      exact bus_issue_congr (by simp [chargeFrames]) (by simp [chargeFrames]) _ _ _
    · have hvisit : t.gate.visit = (enterClosing k .blanked s).gate.visit := by simp [t, blankRoll, chargeFrames]
      rw [hvisit] at hv
      simp only [enterClosing, clearOwed, dropList, updVisit, State.setGate_gate, Option.map_map,
        Option.map_eq_some_iff] at hv
      obtain ⟨v', -, rfl⟩ := hv
      cases k <;> exact ⟨rfl, rfl, rfl⟩

end Sys2Proof.Machine
end


section
/-!
SUPPORT. What a loss and a timeout leave of a back whose roll is LOST, of the replies that wait, of the report queue and of
the visit's phase (R41, R101, R174 to R176, R187, R192).
-/

namespace Sys2Proof.Machine

variable {s t u : State} {v : Visit} {k : Back} {l : List Reply} {n : Nat} {f : Firing}

theorem backSlot_ne_other (k : Back) : k.slot ≠ k.other.slot := by cases k <;> nofun

theorem backSlot_ne_feeder (k : Back) : k.slot ≠ .feeder := by cases k <;> nofun

theorem back_eq_or_other (j k : Back) : j = k ∨ j = k.other := by cases j <;> cases k <;> simp [Back.other]

/-! ## A back whose roll is LOST (R101) -/

/-- From s to t the back k, its roll LOST in s, keeps its slot, and its roll stays LOST. -/
def Apart (k : Back) (s t : State) : Prop :=
  (s.roll k).state = .lost → (t.roll k).state = .lost ∧ t.slot k.slot = s.slot k.slot

theorem Apart.refl (k : Back) (s : State) : Apart k s s := fun h => ⟨h, rfl⟩

theorem Apart.trans (h : Apart k s u) (g : Apart k u t) : Apart k s t := fun hs => by
  obtain ⟨h1, h2⟩ := h hs
  obtain ⟨g1, g2⟩ := g h1
  exact ⟨g1, g2.trans h2⟩

theorem Apart.told (h : Apart k s u) (g : Told u t) : Apart k s t := h.trans fun hu => by
  refine ⟨?_, g.slots _ (.inl (backSlot_ne_feeder k))⟩
  rcases g.rolls k with hr | hr <;> simp [hr, reportTaken, hu]

theorem Apart.same (h : Apart k s u) (hrolls : t.rolls = u.rolls) (hbus : t.bus = u.bus) : Apart k s t :=
  h.trans fun hu => ⟨by rwa [roll_congr hrolls], slot_congr hbus _⟩

theorem Apart.issue (h : Apart k s u) {x : UnitSlot} (hx : k.slot ≠ x) (c : UnitCmd) (i : Issuer) :
    Apart k s (issue x c i u) :=
  h.trans fun hu => ⟨by rwa [roll_congr (issue_frame u x c i).2.2.2.2.2.2.2.1], issue_other _ _ _ _ _ hx⟩

theorem Apart.blankRoll (h : Apart k s u) : Apart k s (blankRoll k.other u) := by
  refine h.trans fun hu => ⟨?_, ?_⟩
  · have hroll := roll_blankRoll_other k.other u
    rw [show k.other.other = k by cases k <;> rfl] at hroll
    rwa [hroll]
  · rw [Machine.blankRoll, issue_other _ _ _ _ _ (backSlot_ne_other k)]
    exact slot_congr (by simp [chargeFrames]) _

theorem Apart.sendReturn (h : Apart k s u) : Apart k s (sendReturn u) := by
  unfold Machine.sendReturn
  split
  · exact h.issue (backSlot_ne_feeder k) _ _
  · exact h.told ((Told.refl _).raiseFault _)

theorem Apart.testReturning (h : Apart k s u) : Apart k s (testReturning u) := h.told (Told.refl _).testReturning

/-- No list of a back whose roll is LOST gives a firing an item. -/
theorem candidate_lost (h : (s.roll k).state = .lost) : candidate s v k = none := by
  simp [candidate, backReady, h]

theorem Apart.blankUnfit (h : Apart k s u) {j : Back} {w : Option WorkItem} (hj : j = k → w = none) :
    Apart k s (blankUnfit j w u) := by
  unfold Machine.blankUnfit
  split
  · rcases back_eq_or_other j k with rfl | rfl
    · next hw => simp [hj rfl] at hw
    · exact h.blankRoll
  · exact h

theorem Apart.startFiring (h : Apart k s u) (v : Visit) : Apart k s (startFiring v u) := by
  refine h.trans fun hu => ?_
  have hnone (j : Back) (hj : j = k) : candidate u v j = none := candidate_lost (by rwa [hj])
  have hblank : Apart k u (Machine.blankUnfit .b (candidate u v .b) (Machine.blankUnfit .a (candidate u v .a) u)) :=
    ((Apart.refl k u).blankUnfit (hnone .a)).blankUnfit (hnone .b)
  have hstart : Apart k u (Machine.startFiring v u) := by
    unfold Machine.startFiring
    dsimp only
    split
    · exact (hblank.same (by simp) (by simp)).testReturning
    · exact hblank.same (by simp) (by simp)
  exact hstart hu

theorem Apart.testFiring (h : Apart k s u) : Apart k s (testFiring u) := by
  unfold Machine.testFiring
  (repeat' split)
  exacts [h, h, h.same rfl rfl, h.startFiring _, h, h.same (by simp) (by simp)]

theorem Apart.testVisit (h : Apart k s u) : Apart k s (testVisit u) := h.testFiring.testReturning

theorem Apart.oweAdvances (h : Apart k s u) {ks : List Back} (hk : k ∉ ks) : Apart k s (oweAdvances ks u) := by
  induction ks generalizing u with
  | nil => exact h
  | cons j ks ih =>
    obtain ⟨hj, hrest⟩ := not_or.mp (mt List.mem_cons.mpr hk)
    have hslot : k.slot ≠ j.slot := by
      rcases back_eq_or_other j k with rfl | rfl
      · exact absurd rfl hj
      · exact (backSlot_ne_other k)
    exact ih ((h.same (t := updVisit _ u) rfl rfl).issue hslot _ _) hrest

theorem not_mem_includedBacks (h : s.shot? k = none) : k ∉ includedBacks s := by simp [includedBacks, h]

theorem Apart.endFiring (h : Apart k s u) (hx : u.shot? k = none) : Apart k s (endFiring u) := by
  unfold Machine.endFiring
  split
  · exact h
  · exact ((h.same (by simp) (by simp)).oweAdvances (not_mem_includedBacks hx)).testVisit

theorem Apart.abortFiring (h : Apart k s u) (hx : u.shot? k = none) : Apart k s (abortFiring u) := by
  cases hf : u.timer.firing with
  | none => simpa only [Machine.abortFiring, hf] using h
  | some f =>
    rw [abortFiring_eq hf]
    exact ((h.same (by simp) (by simp)).oweAdvances (not_mem_includedBacks hx)).testVisit

theorem Apart.firingAfterLoss (h : Apart k s u) (hx : u.shot? k = none) (i : Nat) : Apart k s (firingAfterLoss i u) := by
  unfold Machine.firingAfterLoss
  (repeat' split)
  exacts [(h.told ((Told.refl _).stepHold _)).testVisit, h.endFiring hx, h.abortFiring hx, h]

theorem Apart.afterLoss (h : Apart k s u) (hx : u.shot? k = none) (b : State) : Apart k s (afterLoss k b u) := by
  unfold Machine.afterLoss
  split
  exacts [h.firingAfterLoss hx _, h.told ((Told.refl _).stepAfterFrame _)]

/-- A back's lost roll has left the firing. -/
theorem shot?_loseShot (k : Back) (s : State) : (loseShot k s).shot? k = none := by
  cases hx : s.shot? k with
  | none => rw [loseShot_none hx, hx]
  | some x =>
    obtain ⟨f, hf⟩ := firing_of_shot hx
    obtain ⟨hends, hgoes⟩ := leaveFiring_timer hf hx
    have htimer : (loseShot k s).timer = (leaveFiring k s).timer := by rw [loseShot_some hf hx]; simp
    rw [shot?_congr htimer, State.shot?]
    cases ho : s.shot? k.other with
    | none => rw [hends ho]; rfl
    | some y => rw [hgoes y ho]; simp [Firing.without]

theorem shot?_loseFrame (k j : Back) (s : State) : (loseFrame k s).shot? j = s.shot? j := by
  cases hf : s.timer.frames.get k with
  | none => rw [loseFrame_none hf]
  | some f =>
    have hfiring : (loseFrame k s).timer.firing = s.timer.firing := by
      rw [loseFrame_some hf]
      simp only [writeFrame, updRoll_frame, dropFrame, State.setTimer_timer]
      split <;> simp
    rw [State.shot?, hfiring, State.shot?]

/-- The loss of a roll leaves it LOST, and its back's slot as it was. -/
theorem rollLost_apart (k : Back) (s : State) :
    ((rollLost k s).roll k).state = .lost ∧ (rollLost k s).slot k.slot = s.slot k.slot := by
  obtain ⟨w, hw⟩ : ∃ w, w = composeReport k .lost (updRoll k (fun r => { r with
    state := .lost, closeCause := some .lost, passThrough := .idle }) (fogRoll k (loseFrame k (loseShot k s)))) := ⟨_, rfl⟩
  have hrest : rollLost k s = testReturning (afterLoss k s (completeCancels (clearOwed k (dropList k w)))) := by
    rw [hw]
    rfl
  have hlost : (w.roll k).state = .lost := by
    rw [hw, roll_composeReport, updRoll_same]
  have hslot : w.slot k.slot = s.slot k.slot := by
    rw [hw]
    exact slot_congr (by simp) _
  have hshot : (completeCancels (clearOwed k (dropList k w))).shot? k = none := by
    have htimer : (completeCancels (clearOwed k (dropList k w))).timer = (loseFrame k (loseShot k s)).timer := by
      rw [hw]
      simp
    rw [shot?_congr htimer, shot?_loseFrame, shot?_loseShot]
  have hdropped : Apart k w (clearOwed k (dropList k w)) := (Apart.refl k w).same (by simp) (by simp)
  obtain ⟨h1, h2⟩ := ((hdropped.told (Told.refl _).completeCancels).afterLoss hshot s).testReturning hlost
  exact ⟨by rwa [hrest], by rw [hrest, h2, hslot]⟩

/-! ## The replies to withdrawn commands (R174, R176, R187) -/

/-- The reply to the frame of a command that is withdrawn. -/
def lostReply (c : Issued) : Option Reply :=
  match c.issuer with
  | .direct (some tag) => some { cls := 2#8, tag := tag, command := c.cmd.name.code, result := .absent, data := .none }
  | .resync (some tag) => some { cls := 3#8, tag := tag, command := 19, result := .refused .noUnit, data := .none }
  | _ => none

/-- The reply to the frame of a command that timed out. -/
def timedReply (o : Outstanding) : List Reply :=
  match o.issuer with
  | .direct (some tag) =>
    [{ cls := 2#8, tag := tag, command := o.cmd.name.code, result := .refused .unitTimeout, data := .none }]
  | .resync (some tag) => [{ cls := 3#8, tag := tag, command := 19, result := .refused .unitTimeout, data := .none }]
  | _ => []

theorem Onward.answerLost (h : Onward l n s u) (c : Issued) :
    Onward (l ++ (lostReply c).toList) (n + (lostReply c).toList.length) s (answerLost c u) := by
  unfold Machine.answerLost lostReply
  have hnone : Onward (l ++ []) (n + 0) s u := by simpa using h
  cases c.issuer with
  | direct tag =>
    cases tag
    exacts [hnone, h.answerDeferred _ _ _ _ _]
  | resync tag =>
    cases tag
    exacts [hnone, h.answerDeferred _ _ _ _ _]
  | label => exact hnone.setLabels _
  | _ => exact hnone

theorem Onward.answersLost (h : Onward l n s u) (cs : List Issued) :
    Onward (l ++ cs.filterMap lostReply) (n + (cs.filterMap lostReply).length) s
      (cs.foldl (fun t c => Machine.answerLost c t) u) := by
  induction cs generalizing l n u with
  | nil => simpa using h
  | cons c cs ih =>
    have h1 := ih (h.answerLost c)
    cases hc : lostReply c with
    | none => simpa [hc] using h1
    | some r => simpa [hc, Nat.add_assoc, Nat.add_comm 1] using h1

/-- A timeout or a withdrawal at a back leaves the link and the flags, but for a close that goes on. -/
theorem Onward.backTimeout (h : Onward l n s u) (x : UnitSlot) : Onward l n s (backTimeout x u) :=
  h.same (by simp) (by simp)

theorem Onward.advanceLost (h : Onward l n s u) (k : Back) : Onward l n s (advanceLost k u) := h.same (by simp) (by simp)

theorem Onward.withdraw (h : Onward l n s u) (x : UnitSlot) (c : Issued) :
    Onward (l ++ (lostReply c).toList) (n + (lostReply c).toList.length) s (withdraw x u c) := by
  have hlost := h.answerLost c
  have hnone : Onward (l ++ []) (n + 0) s u := by simpa using h
  unfold Machine.withdraw
  unfold lostReply at hlost ⊢
  cases hc : c.issuer with
  | firing =>
    cases x.back
    exacts [hnone, hnone.advanceLost _]
  | leader => exact hnone.backTimeout _
  | blanking =>
    cases x.back
    exacts [hnone, (hnone.finishClose _).drainReports]
  | visit => exact hnone
  | cutPhase => exact hnone
  | resync tag => rwa [hc] at hlost
  | label => rwa [hc] at hlost
  | direct tag => rwa [hc] at hlost

theorem Onward.withdraws (h : Onward l n s u) (x : UnitSlot) (cs : List Issued) :
    Onward (l ++ cs.filterMap lostReply) (n + (cs.filterMap lostReply).length) s (cs.foldl (Machine.withdraw x) u) := by
  induction cs generalizing l n u with
  | nil => simpa using h
  | cons c cs ih =>
    have h1 := ih (h.withdraw x c)
    cases hc : lostReply c with
    | none => simpa [hc] using h1
    | some r => simpa [hc, Nat.add_assoc, Nat.add_comm 1] using h1

theorem Onward.takeTimeout (h : Onward l n s u) (x : UnitSlot) (o : Outstanding) :
    Onward (l ++ timedReply o) (n + (timedReply o).length) s (takeTimeout x ⟨o.cmd, o.issuer⟩ u) := by
  have hnone : Onward (l ++ []) (n + 0) s u := by simpa using h
  unfold Machine.takeTimeout timedReply
  cases o.issuer with
  | direct tag =>
    cases tag
    exacts [hnone.backTimeout _, (h.backTimeout _).answerDeferred _ _ _ _ _]
  | resync tag =>
    cases tag
    exacts [hnone, h.answerDeferred _ _ _ _ _]
  | firing =>
    cases x.back
    exacts [hnone, hnone.advanceLost _]
  | leader => exact hnone.backTimeout _
  | blanking =>
    cases x.back
    exacts [hnone, (hnone.finishClose _).drainReports]
  | visit =>
    dsimp only
    split
    · exact hnone.setGate _
    · exact hnone.same (by simp) (by simp)
  | cutPhase => exact hnone
  | label => exact hnone.setLabels _

/-! ## A full report queue and the phase of the visit, past a timeout (R41, R192) -/

/-- The advances owed, the metering phase and the zones of the visit. -/
def course (s : State) : Option (PerBack Bool × Bool × List Zone) :=
  s.gate.visit.map (fun v => (v.owed, v.metering, v.zones))

/-- From s to t a full report queue stays full, with the reports of the rolls waiting as they did, and the visit keeps the
advances owed, its metering phase and its zones, or is closed. -/
structure Quiet (s t : State) : Prop where
  full : 24 ≤ s.link.reports.length → 24 ≤ t.link.reports.length ∧ t.rolls = s.rolls
  course : course t = course s ∨ t.gate.visit = none

theorem course_congr (h : t.gate.visit = s.gate.visit) : course t = course s := by rw [course, course, h]

theorem Quiet.refl (s : State) : Quiet s s := ⟨fun h => ⟨h, rfl⟩, .inl rfl⟩

theorem Quiet.trans (h : Quiet s u) (g : Quiet u t) : Quiet s t where
  full hs := by
    obtain ⟨h1, h2⟩ := h.full hs
    obtain ⟨g1, g2⟩ := g.full h1
    exact ⟨g1, g2.trans h2⟩
  course := by
    rcases g.course with hg | hg
    · rcases h.course with hh | hh
      · exact .inl (hg.trans hh)
      · exact .inr (by simpa [Machine.course, hh] using hg)
    · exact .inr hg

theorem Quiet.same (h : Quiet s u) (hl : t.link.reports = u.link.reports) (hr : t.rolls = u.rolls)
    (hc : Machine.course t = Machine.course u) : Quiet s t := h.trans ⟨fun hu => ⟨by rwa [hl], hr⟩, .inl hc⟩

theorem Quiet.setQueue (h : Quiet s u) (x : Queue) : Quiet s (u.setQueue x) := h.same rfl rfl rfl

theorem Quiet.setEvents (h : Quiet s u) (x : Events) : Quiet s (u.setEvents x) := h.same rfl rfl rfl

theorem Quiet.setGate (h : Quiet s u) {x : Gate} (hx : x.visit = u.gate.visit) : Quiet s (u.setGate x) :=
  h.same rfl rfl (course_congr hx)

/-- A raising begins a reply or the NOTICE, never a report. -/
theorem reports_raise (f : EventFlag) (s : State) : (raise f s).link.reports = s.link.reports := by
  obtain ⟨-, -, he⟩ | ⟨-, he⟩ := raise_cases s f <;> rw [he]
  · rcases arbiter_cases ((s.setEvents (s.events.raise f)).setLink { s.link with notice := true }) with
      ⟨ha, -⟩ | ⟨-, ⟨r, rest, -, ha⟩ | ⟨-, -, ha⟩ | ⟨r, rest, -, hn, -⟩⟩
    · rw [ha]
      rfl
    · rw [ha]
      rfl
    · rw [ha]
      rfl
    · simp at hn
  · rfl

theorem Quiet.raise (h : Quiet s u) (f : EventFlag) : Quiet s (raise f u) :=
  h.same (reports_raise f u) (by simp) (course_congr (by simp))

theorem Quiet.drainReports (h : Quiet s u) : Quiet s (drainReports u) :=
  h.trans ⟨fun hu => by rw [drainReports_full u hu]; exact ⟨hu, rfl⟩, .inl (course_congr (by simp))⟩

theorem course_endOrder (kind : EndKind) (i : Nat) (s : State) : course (endOrder kind i s) = course s := by
  unfold endOrder
  split
  · rfl
  · simp only [course, tick, State.setLink_gate, State.setQueue_gate, updOrder_frame, settleOrder_frame, removeMember,
      removeItems, updVisit, State.setGate_gate, Option.map_map]
    rfl

theorem reports_endOrder (kind : EndKind) (i : Nat) (s : State) : (endOrder kind i s).link.reports = s.link.reports := by
  unfold endOrder
  split
  · rfl
  · simp [tick]

theorem Quiet.endOrders (h : Quiet s u) (kind : EndKind) (ns : List Nat) : Quiet s (endOrders kind ns u) := by
  unfold Machine.endOrders
  induction ns generalizing u with
  | nil => exact h
  | cons i ns ih =>
    exact ih (h.same (reports_endOrder kind i u) (by simp) (course_endOrder kind i u))

theorem Quiet.completeCancels (h : Quiet s u) : Quiet s (completeCancels u) := (h.endOrders _ _).drainReports

theorem Quiet.closed (h : Quiet s u) (hl : t.link.reports = u.link.reports) (hr : t.rolls = u.rolls)
    (hv : t.gate.visit = none) : Quiet s t := h.trans ⟨fun hu => ⟨by rwa [hl], hr⟩, .inr hv⟩

theorem Quiet.raiseTimes (h : Quiet s u) (f : EventFlag) (i : Nat) : Quiet s (raiseTimes f i u) := by
  induction i generalizing u with
  | zero => exact h
  | succ i ih => exact ih (h.raise f)

theorem Quiet.refreshWanted (h : Quiet s u) : Quiet s (refreshWanted u) :=
  ((h.setQueue _).raiseTimes _ _).raiseTimes _ _

theorem Quiet.closeVisit (h : Quiet s u) : Quiet s (closeVisit u) := by
  unfold Machine.closeVisit
  split
  · exact h
  · next v hv =>
    refine Quiet.refreshWanted (Quiet.drainReports ?_)
    have hrequeue : Quiet s (requeue (membersWith true v u) u) := h.same (by simp) (by simp) (course_congr (by simp))
    unfold endVisit
    rw [hv]
    exact (hrequeue.endOrders .done (membersWith false v u)).closed rfl rfl rfl

theorem Quiet.holdVisit (h : Quiet s u) (c : HoldCause) : Quiet s (holdVisit c u) := by
  unfold Machine.holdVisit
  split
  · exact h
  · next v hv => exact h.same rfl rfl (by simp [Machine.course, setLabelWait, hv])

theorem Quiet.raiseFault (h : Quiet s u) (f : FaultRec) : Quiet s (raiseFault f u) := by
  unfold Machine.raiseFault
  have hset : Quiet s ((u.setEvents { u.events with current := some f }).setGate
      { u.gate with engine := .faulted, stopKind := none }) := h.same rfl rfl rfl
  split
  · exact h
  · exact (h.setEvents _).raise _
  · exact ((hset.raise _).raise _).holdVisit _

theorem Quiet.enterReturning (h : Quiet s u) : Quiet s (enterReturning u) := by
  unfold Machine.enterReturning
  split
  · exact h
  · have h1 : Quiet s (setLabelWait false (updVisit (fun x => { x with state := .returning }) u)) :=
      h.same rfl rfl (by simp only [Machine.course, setLabelWait, State.setLabels_gate, updVisit, State.setGate_gate,
        Option.map_map]; rfl)
    dsimp only
    split
    · exact h1.closeVisit
    · split
      · exact h1
      · unfold sendReturn
        split
        exacts [h1.same (by simp) (by simp) (course_congr (by simp)), h1.raiseFault _]

theorem Quiet.testReturning (h : Quiet s u) : Quiet s (testReturning u) := by
  unfold Machine.testReturning
  split
  exacts [h.enterReturning, h]

theorem Quiet.stepAfterFrame (h : Quiet s u) (f : Option FrameRec) : Quiet s (stepAfterFrame f u) := by
  cases f with
  | none => exact h
  | some f =>
    show Quiet s (stepHold _ u)
    unfold stepHold
    split
    · refine Quiet.holdVisit (h.setGate ?_) _
      rfl
    · exact h

end Sys2Proof.Machine
end


section
/-!
O58: a slot lost, and a command that timed out.
-/

namespace Sys2Proof.Machine

variable {s t u : State} {v : Visit} {k : Back} {x : UnitSlot} {o : Outstanding} {f : Firing}

/-! ## A slot lost (R101, R172, R174) -/

/-- The state past the answers to a lost slot's commands, before the loss itself. -/
def answeredLost (x : UnitSlot) (st : SlotState) (s : State) : State :=
  (s.slot x).commands.foldl (fun t c => answerLost c t)
    (changeSlot x st (updSlot x (fun y => { y with outstanding := none, waiting := [] }) s))

theorem slotLost_eq (x : UnitSlot) (st : SlotState) (s : State) : slotLost x st s =
    handOnLoss x ((s.slot x).outstanding.any (fun o => o.issuer == .visit)) (answeredLost x st s) := rfl

theorem slot_answeredLost (x : UnitSlot) (st : SlotState) (s : State) : (answeredLost x st s).slot x =
    { s.slot x with state := st, changed := true, poll := none, outstanding := none, waiting := [] } := by
  rw [answeredLost, slot_answersLost, slot_changeSlot, updSlot_same]

@[simp] theorem answeredLost_frame (x : UnitSlot) (st : SlotState) (s : State) :
    (answeredLost x st s).gate = s.gate ∧ (answeredLost x st s).timer = s.timer ∧
    (answeredLost x st s).rolls = s.rolls ∧ (answeredLost x st s).queue = s.queue := by
  simp [answeredLost]

theorem faultsOf_answeredLost (x : UnitSlot) (st : SlotState) (s : State) :
    (answeredLost x st s).events.current = s.events.current ∧
    (answeredLost x st s).events.pendingFault = s.events.pendingFault := by
  simp [answeredLost, changeSlot]

theorem slot_backGone (k : Back) (s : State) : (backGone k s).slot k.slot = s.slot k.slot := by
  unfold backGone
  have hupd : (updRoll k (fun r => { r with state := .noBack }) s).slot k.slot = s.slot k.slot := slot_congr (by simp) _
  split
  exacts [hupd, hupd, (rollLost_apart k s).2, (rollLost_apart k s).2, (rollLost_apart k s).2, (rollLost_apart k s).2, rfl, rfl]

theorem slot_handOnLoss (x : UnitSlot) (b : Bool) (s : State) : ∃ m p, (handOnLoss x b s).slot x =
    { s.slot x with magazine := m, printer := p } ∧ (x = .feeder → m = none) ∧ (x = .printer → p = none) := by
  cases x with
  | feeder =>
    refine ⟨none, (s.slot .feeder).printer, ?_, fun _ => rfl, nofun⟩
    have hslot : (handOnLoss .feeder b s).slot .feeder =
        (updSlot .feeder (fun x => { x with magazine := none }) s).slot .feeder := by
      refine slot_congr ?_ _
      unfold handOnLoss
      dsimp only
      (repeat' split) <;> simp
    rw [hslot, updSlot_same]
  | printer => exact ⟨(s.slot .printer).magazine, none, by rw [handOnLoss, updSlot_same], nofun, fun _ => rfl⟩
  | meter =>
    refine ⟨_, _, slot_congr (t := s) ?_ _, nofun, nofun⟩
    unfold handOnLoss
    dsimp only
    split <;> simp
  | backA =>
    refine ⟨_, _, (slot_backGone .a (dropList .a s)).trans (slot_congr (t := s) (by simp) _), nofun, nofun⟩
  | backB =>
    refine ⟨_, _, (slot_backGone .b (dropList .b s)).trans (slot_congr (t := s) (by simp) _), nofun, nofun⟩

/-- A slot lost has its new state, its change flag set, and no command left. -/
theorem slot_slotLost (x : UnitSlot) (st : SlotState) (s : State) : ∃ m p, (slotLost x st s).slot x =
    { s.slot x with state := st, changed := true, poll := none, outstanding := none, waiting := [],
                    magazine := m, printer := p } ∧
    (x = .feeder → m = none) ∧ (x = .printer → p = none) := by
  obtain ⟨m, p, he, hm, hp⟩ := slot_handOnLoss x ((s.slot x).outstanding.any (fun o => o.issuer == .visit))
    (answeredLost x st s)
  exact ⟨m, p, by rw [slotLost_eq, he, slot_answeredLost], hm, hp⟩

theorem slotLost_onward (x : UnitSlot) (st : SlotState) (s : State) :
    Onward ((s.slot x).commands.filterMap lostReply) ((s.slot x).commands.filterMap lostReply).length s (slotLost x st s) := by
  have h := ((((Onward.refl s).updSlot x (fun y => { y with outstanding := none, waiting := [] })).changeSlot x
    st).answersLost (s.slot x).commands).handOnLoss x ((s.slot x).outstanding.any (fun o => o.issuer == .visit))
  simp only [List.nil_append, Nat.zero_add] at h
  exact h

/-- A slot lost raises UNIT-CHANGE (R171). -/
theorem hasFlag_slotLost (x : UnitSlot) (st : SlotState) (s : State) :
    hasFlag (slotLost x st s).events.flags .unitChange = true :=
  (((Onward.refl _).answersLost (s.slot x).commands).handOnLoss x _).flags _ hasFlag_raise_self

/-- The back of a slot lost: NO-BACK without a roll on it, else its roll is LOST. -/
theorem roll_backGone (k : Back) (s : State) :
    ((s.roll k).state = .unloaded ∨ (s.roll k).state = .closed → ((backGone k s).roll k).state = .noBack) ∧
    ((s.roll k).state = .leader ∨ (s.roll k).state = .ready ∨ (s.roll k).state = .suspect ∨
      (s.roll k).state = .closing → ((backGone k s).roll k).state = .lost) := by
  have hlost := (rollLost_apart k s).1
  unfold backGone
  split <;> simp_all

theorem roll_slotLost (k : Back) (st : SlotState) (s : State) :
    ((s.roll k).state = .unloaded ∨ (s.roll k).state = .closed → ((slotLost k.slot st s).roll k).state = .noBack) ∧
    ((s.roll k).state = .leader ∨ (s.roll k).state = .ready ∨ (s.roll k).state = .suspect ∨
      (s.roll k).state = .closing → ((slotLost k.slot st s).roll k).state = .lost) := by
  have hgone : slotLost k.slot st s = backGone k (dropList k (answeredLost k.slot st s)) := by cases k <;> rfl
  have hroll : (dropList k (answeredLost k.slot st s)).roll k = s.roll k := roll_congr (by simp) k
  rw [hgone, ← hroll]
  exact roll_backGone k _

/-- The loss of the feeder raises UNIT-LOST for an open visit (R41, R156). -/
theorem current_feederLost (st : SlotState) (s : State) (hv : s.gate.visit.isSome = true) (hf : s.gate.engine ≠ .faulted)
    (hr : s.gate.engine ≠ .resetting) :
    ∃ g, (slotLost .feeder st s).events.current = some g ∧ g.kind = .unitLost ∧ g.unit = .feeder := by
  have hhand (b : Bool) (w : State) (hw : w.gate = s.gate) : ∃ y, y.gate.engine = s.gate.engine ∧
      handOnLoss .feeder b w = raiseFault (visitFault y .unitLost .feeder) y := by
    refine ⟨if b then keepFailure .unitLost (updSlot .feeder (fun x => { x with magazine := none }) w)
      else updSlot .feeder (fun x => { x with magazine := none }) w, ?_, if_pos ?_⟩
    · cases b <;> simp [keepFailure, hw]
    · cases b <;> simp [keepFailure, hw, hv]
  obtain ⟨y, hy, he⟩ := hhand ((s.slot .feeder).outstanding.any (fun o => o.issuer == .visit))
    (answeredLost .feeder st s) (by simp)
  refine ⟨visitFault y .unitLost .feeder, ?_, rfl, rfl⟩
  rw [slotLost_eq, he]
  exact raiseFault_current (by rwa [hy]) (by rwa [hy])

/-! ## The loss of the meter (R41, R53) -/

theorem meterNeeded_iff (hv : s.gate.visit = some v) : meterNeeded s = true ↔ v.state = .metering ∨
    v.state = .loading ∧ ∃ m ∈ v.members, ∃ o, s.order? m.order = some o ∧ o.mode ≠ .fixed := by
  simp [meterNeeded, hv, Option.any_eq_true]

theorem cutMetering_visit (hv : s.gate.visit = some v) : ∃ w, (cutMetering s).gate = { s.gate with visit := some w } ∧
    w.state = v.state ∧ w.position = v.position ∧
    (v.metering = true → w.metering = false ∧ w.zones = [] ∧ w.rereads = [] ∧ (cutMetering s).timer.lamp = false) := by
  unfold cutMetering
  rw [hv, Option.any_some]
  cases hm : v.metering with
  | true =>
    exact ⟨{ v with metering := false, zones := [], rereads := [] }, by simp [updVisit, hv], rfl, rfl,
      fun _ => ⟨rfl, rfl, rfl, rfl⟩⟩
  | false => exact ⟨v, by simp [← hv], rfl, rfl, nofun⟩

theorem slotLost_meter (st : SlotState) (s : State) : slotLost .meter st s =
    if meterNeeded s then raiseFault (visitFault s .unitLost .meter) (cutMetering (answeredLost .meter st s))
    else answeredLost .meter st s := by
  have hneeded : meterNeeded (answeredLost .meter st s) = meterNeeded s := by
    simp [meterNeeded, State.order?]
  rw [slotLost_eq, handOnLoss, hneeded]
  simp only [visitFault, faultRec, answeredLost_frame]

/-! ## A command that timed out (R175, R176) -/

/-- Past the answers to a command that timed out only reports are told, when its back is not in a firing. -/
theorem commandTimeout_told (hx : ∀ k, x = k.slot → s.shot? k = none) (o : Outstanding) :
    commandTimeout x o s = testReturning (x.back.elim (completeCancels (raiseFault (timeoutFault s (timedOut x o s) x o)
        (timedOut x o s)))
      (fun k => stepAfterFrame (s.timer.frames.get k) (completeCancels (raiseFault (timeoutFault s (timedOut x o s) x o)
        (timedOut x o s))))) ∧
    Told (raiseFault (timeoutFault s (timedOut x o s) x o) (timedOut x o s)) (commandTimeout x o s) ∧
    Quiet (raiseFault (timeoutFault s (timedOut x o s) x o) (timedOut x o s)) (commandTimeout x o s) ∧
    Onward [] 0 (raiseFault (timeoutFault s (timedOut x o s) x o) (timedOut x o s)) (commandTimeout x o s) := by
  cases hb : x.back with
  | none =>
    have he : commandTimeout x o s = testReturning (completeCancels (raiseFault (timeoutFault s (timedOut x o s) x o)
      (timedOut x o s))) := by rw [commandTimeout, hb]; rfl
    rw [he]
    exact ⟨rfl, (Told.refl _).completeCancels.testReturning, (Quiet.refl _).completeCancels.testReturning,
      (Onward.refl _).completeCancels.testReturning⟩
  | some k =>
    have he : commandTimeout x o s = testReturning (stepAfterFrame (s.timer.frames.get k) (completeCancels
      (raiseFault (timeoutFault s (timedOut x o s) x o) (timedOut x o s)))) := by
      rw [commandTimeout, hb]
      show testReturning (afterLoss k s _) = _
      rw [afterLoss_none (hx k (UnitSlot.back_eq_some.mp hb))]
    rw [he]
    exact ⟨rfl, ((Told.refl _).completeCancels.stepAfterFrame _).testReturning,
      ((Quiet.refl _).completeCancels.stepAfterFrame _).testReturning,
      ((Onward.refl _).completeCancels.stepAfterFrame _).testReturning⟩

/-- The state past the answer to a command that timed out, before its slot goes ABSENT. -/
def answeredTimeout (x : UnitSlot) (o : Outstanding) (s : State) : State :=
  takeTimeout x ⟨o.cmd, o.issuer⟩ (clearOutstanding x s)

theorem timedOut_eq (x : UnitSlot) (o : Outstanding) (s : State) : timedOut x o s =
    absentUnit x ((s.slot x).waiting.foldl (withdraw x)
      (changeSlot x .absent (updSlot x (fun y => { y with waiting := [] }) (answeredTimeout x o s)))) := rfl

theorem Onward.absentUnit {l : List Reply} {n : Nat} (h : Onward l n s u) (x : UnitSlot) : Onward l n s (absentUnit x u) :=
  h.same (by simp) (by simp)

theorem timedOut_onward (x : UnitSlot) (o : Outstanding) (s : State) :
    Onward (timedReply o ++ (s.slot x).waiting.filterMap lostReply)
      (timedReply o ++ (s.slot x).waiting.filterMap lostReply).length s (timedOut x o s) := by
  have h := (((((((Onward.refl s).updSlot x (fun y => { y with outstanding := none })).takeTimeout x o).updSlot x
    (fun y => { y with waiting := [] })).changeSlot x .absent).withdraws x (s.slot x).waiting)).absentUnit x
  simp only [List.nil_append, Nat.zero_add] at h
  rw [List.length_append]
  exact h

/-! ## The visit past a timeout -/

/-- The position and the state of the open visit. -/
def place (s : State) : Option (Nat × VisitState) := s.gate.visit.map (fun v => (v.position, v.state))

theorem place_congr (h : t.gate.visit = s.gate.visit) : place t = place s := by rw [place, place, h]

theorem place_updVisit {g : Visit → Visit} (hg : ∀ v, ((g v).position, (g v).state) = (v.position, v.state)) (s : State) :
    place (updVisit g s) = place s := by
  rw [place, updVisit, State.setGate_gate, Option.map_map]
  exact Option.map_congr fun v _ => hg v

theorem place_dropList (k : Back) (s : State) : place (dropList k s) = place s := by
  refine place_updVisit ?_ s
  exact fun _ => rfl

theorem place_clearOwed (k : Back) (s : State) : place (clearOwed k s) = place s := by
  refine place_updVisit ?_ s
  exact fun _ => rfl

theorem place_updRoll (k : Back) (g : Roll → Roll) (s : State) : place (updRoll k g s) = place s := place_congr (by simp)

theorem place_enterSuspect (k : Back) (s : State) : place (enterSuspect k s) = place s := by
  unfold enterSuspect
  dsimp only
  split
  · exact place_dropList _ _
  · rfl

theorem place_cutPending (i : Nat) (k : Back) (w : WorkItem) (s : State) : place (cutPending i k w s) = place s := rfl

theorem place_advanceLost (k : Back) (s : State) : place (advanceLost k s) = place s := by
  have hsuspect : place (if (s.roll k).state = .ready then enterSuspect k s else s) = place s := by
    split
    exacts [place_enterSuspect _ _, rfl]
  unfold advanceLost
  dsimp only
  split
  · rw [place_clearOwed, hsuspect]
  · rw [place_clearOwed, cutFrameRec]
    refine Eq.trans ?_ hsuspect
    split <;> exact place_congr (by simp [dropFrame, cutOutcome, cutPending])

theorem place_otherTimeout (k : Back) (s : State) : place (otherTimeout k s) = place s := by
  have hleave : place (leaveFiring k s) = place s := by
    unfold leaveFiring
    split
    · rw [endEmpty]
      split <;> rfl
    · rfl
  unfold otherTimeout
  split
  · exact place_enterSuspect _ _
  · dsimp only
    split
    · exact (place_updRoll _ _ _).trans ((place_enterSuspect _ _).trans hleave)
    · exact (place_enterSuspect _ _).trans hleave
  all_goals rfl

theorem place_backTimeout (x : UnitSlot) (s : State) : place (backTimeout x s) = place s := by
  unfold backTimeout
  cases x.back
  exacts [rfl, place_otherTimeout _ _]

theorem place_withdraw (x : UnitSlot) (c : Issued) (s : State) : place (withdraw x s c) = place s := by
  have hlost : place (answerLost c s) = place s := place_congr (by simp)
  unfold withdraw
  cases c.issuer with
  | firing =>
    cases x.back
    exacts [rfl, place_advanceLost _ _]
  | leader => exact place_backTimeout _ _
  | blanking =>
    cases x.back
    exacts [rfl, place_congr (by simp)]
  | visit => rfl
  | cutPhase => rfl
  | resync tag => exact hlost
  | label => exact hlost
  | direct tag => exact hlost

theorem place_withdraws (x : UnitSlot) (cs : List Issued) (s : State) : place (cs.foldl (withdraw x) s) = place s := by
  induction cs generalizing s with
  | nil => rfl
  | cons c cs ih => rw [List.foldl_cons, ih, place_withdraw]

theorem place_cutMetering (s : State) : place (cutMetering s) = place s := by
  unfold cutMetering
  split
  · refine (place_updVisit ?_ _).trans rfl
    exact fun _ => rfl
  · rfl

theorem place_answeredTimeout (x : UnitSlot) (o : Outstanding) (s : State) : place (answeredTimeout x o s) = place s := by
  have hclear : place (clearOutstanding x s) = place s := place_congr (by simp [clearOutstanding])
  rw [← hclear, answeredTimeout]
  unfold takeTimeout
  cases o.issuer with
  | visit =>
    dsimp only
    split
    exacts [rfl, place_cutMetering _]
  | firing =>
    cases x.back
    exacts [rfl, place_advanceLost _ _]
  | leader => exact place_backTimeout _ _
  | blanking =>
    cases x.back
    exacts [rfl, place_congr (by simp)]
  | cutPhase => rfl
  | label => rfl
  | resync tag => exact place_congr (by simp)
  | direct tag =>
    rw [← place_backTimeout x (clearOutstanding x s)]
    exact place_congr (by simp)

theorem place_absentUnit (x : UnitSlot) (s : State) : place (absentUnit x s) = place s := by
  have hback (k : Back) (w : State) : place (absentUnit.noBackAfter k w) = place w := by
    unfold absentUnit.noBackAfter
    split
    exacts [place_congr (by simp), rfl]
  cases x with
  | feeder => exact place_congr (by simp [absentUnit])
  | meter => exact place_cutMetering _
  | backA => exact (hback _ _).trans (place_dropList _ _)
  | backB => exact (hback _ _).trans (place_dropList _ _)
  | printer => exact place_congr (by simp [absentUnit])

/-- A timeout leaves the position and the state of the open visit. -/
theorem place_timedOut (x : UnitSlot) (o : Outstanding) (s : State) : place (timedOut x o s) = place s := by
  rw [timedOut_eq, place_absentUnit, place_withdraws, ← place_answeredTimeout x o s]
  exact place_congr (by simp)

/-- The fault of a command that timed out (R156). -/
theorem timeoutFault_eq (x : UnitSlot) (o : Outstanding) (s : State) :
    timeoutFault s (timedOut x o s) x o =
      let frame := if o.issuer = .firing then x.back.bind (fun k => s.timer.frames.get k) else none
      { kind := .unitTimeout, unit := faultUnit x, order := frame.map (fun f => f.item.order), back := x.back,
        position := if x = .feeder ∧ o.issuer = .visit then s.gate.visit.map (fun v => v.position)
          else frame.map (fun f => f.position),
        visit := s.gate.visit.map (fun v => v.state) } := by
  have hplace := place_timedOut x o s
  have hstate : (timedOut x o s).gate.visit.map (fun v => v.state) = s.gate.visit.map (fun v => v.state) := by
    simpa [place, Option.map_map, Function.comp_def] using congrArg (Option.map Prod.snd) hplace
  have hposition : (timedOut x o s).gate.visit.map (fun v => v.position) = s.gate.visit.map (fun v => v.position) := by
    simpa [place, Option.map_map, Function.comp_def] using congrArg (Option.map Prod.fst) hplace
  unfold timeoutFault
  cases hb : x.back with
  | some k =>
    have hx : x ≠ .feeder := by
      rintro rfl
      nomatch hb
    simp [faultRec, hstate, hx]
  | none =>
    by_cases hfv : x = .feeder ∧ o.issuer = .visit
    · obtain ⟨rfl, hi⟩ := hfv
      simp [visitFault, faultRec, hstate, hposition, hi, faultUnit]
    · simp [faultRec, hstate, hfv]

end Sys2Proof.Machine
end


section
/-!
O58: a slot lost, and a command that timed out.
-/

namespace Sys2Proof.Machine

variable {s t u : State} {v : Visit} {k : Back} {x : UnitSlot} {o : Outstanding} {f : Firing}

/-! ## A frame cut at a timeout (R81, R83) -/

/-- A queue whose order, QUEUED or ACTIVE and not cancel-requested, owes a cut item again. -/
def owedQueue (w : WorkItem) (q : Queue) : Queue := { q with orders := q.orders.map (fun o =>
  if o.number = w.order ∧ o.state ≠ .ending ∧ o.cancelRequested = false ∧ (w.copy, w.step) ∉ o.redo then
    { o with redo := o.redo ++ [(w.copy, w.step)] } else o) }

/-- The house account charged a frame cut on a back's roll. -/
def cutHouse (k : Back) (s : State) : House :=
  { s.charge.house with charged := min 16777215 (s.charge.house.charged + s.framePrice k)
                        cut := min 65535 (s.charge.house.cut + 1) }

theorem queue_cutPending (n : Nat) (k : Back) (w : WorkItem) (s : State) :
    (cutPending n k w s).queue = owedQueue w s.queue := by
  have hqueue : (cutPending n k w s).queue = { s.queue with orders := s.queue.orders.map (fun o =>
      if o.number = w.order then if o.live then o.cutFrame (w.copy, w.step) else o else o) } := rfl
  rw [hqueue, owedQueue]
  refine congrArg (fun l => ({ s.queue with orders := l } : Queue)) (List.map_congr_left fun o _ => ?_)
  rw [cutFrame_eq]
  by_cases hn : o.number = w.order
  · by_cases he : o.state = .ending
    · simp [he]
    · cases hc : o.cancelRequested <;> by_cases hi : (w.copy, w.step) ∈ o.redo <;> simp [hn, he, hi]
  · simp [hn]

theorem house_cutPending (n : Nat) (k : Back) (w : WorkItem) (s : State) :
    (cutPending n k w s).charge.house = cutHouse k s := by
  rw [(cutPending_cut n w rfl).2]
  rfl

/-- The roll that is cut, as a timeout makes it SUSPECT. -/
def suspected (cut : Option Nat) (r : Roll) : Roll :=
  if r.state = .ready then { r with state := .suspect, passThrough := .idle, cut := cut } else { r with cut := cut }

theorem advanceLost_some {f : FrameRec} (hf : s.timer.frames.get k = some f) :
    (advanceLost k s).roll k = suspected (some f.position) (s.roll k) ∧
    (advanceLost k s).timer = { s.timer with frames := s.timer.frames.set k none } ∧
    (advanceLost k s).charge.house = (if f.lampSpoiled then s.charge.house else cutHouse k s) ∧
    (advanceLost k s).queue = (if f.lampSpoiled then s.queue else owedQueue f.item s.queue) ∧
    ∀ v, (advanceLost k s).gate.visit = some v → v.owed.get k = false := by
  obtain ⟨w, hw⟩ : ∃ w, w = updRoll k (fun r => { r with cut := some f.position })
    (if (s.roll k).state = .ready then enterSuspect k s else s) := ⟨_, rfl⟩
  have he : advanceLost k s = clearOwed k (cutFrameRec k f w) := by simp only [advanceLost, hf, hw]
  have htimer : w.timer = s.timer := by rw [hw]; split <;> simp
  have hqueue : w.queue = s.queue := by rw [hw]; split <;> simp
  have hcharge : w.charge = s.charge := by rw [hw]; split <;> simp
  have hroll : w.roll k = suspected (some f.position) (s.roll k) := by
    rw [hw, updRoll_same, suspected]
    split
    · rw [roll_enterSuspect]
    · rfl
  have hhouse : cutHouse k w = cutHouse k s := by
    have hfilm : (w.roll k).film = (s.roll k).film := by
      rw [hroll, suspected]
      split <;> rfl
    have hstocks : w.tables = s.tables := by rw [hw]; split <;> simp
    simp only [cutHouse, hcharge, framePrice_eq, hfilm, State.stock?, hstocks]
  rw [he]
  refine ⟨?_, ?_, ?_, ?_, fun v hv => ?_⟩
  · rw [roll_clearOwed, ← hroll]
    exact roll_congr (by simp) k
  · simp only [clearOwed, updVisit, State.setGate_timer, cutFrameRec, dropFrame, State.setTimer_timer, ← htimer]
    split <;> simp
  · rw [← hhouse, ← hcharge]
    simp only [clearOwed, updVisit, State.setGate_charge, cutFrameRec, dropFrame, State.setTimer_charge]
    split
    · simp
    · exact house_cutPending _ _ _ _
  · rw [← hqueue]
    simp only [clearOwed, updVisit, State.setGate_queue, cutFrameRec, dropFrame, State.setTimer_queue]
    split
    · simp
    · exact queue_cutPending _ _ _ _
  · obtain ⟨z, -, rfl⟩ : ∃ z, (cutFrameRec k f w).gate.visit = some z ∧ { z with owed := z.owed.set k false } = v := by
      simpa [clearOwed, updVisit] using hv
    cases k <;> rfl

theorem otherTimeout_none (hx : s.shot? k = none) : otherTimeout k s =
    if (s.roll k).state = .leader ∨ (s.roll k).state = .ready then enterSuspect k s else s := by
  have hleave : leaveFiring k s = s := by
    unfold leaveFiring
    split
    · next h => simp [hx] at h
    · rfl
  unfold otherTimeout
  split <;> simp_all

theorem roll_otherTimeout (hx : s.shot? k = none) : (otherTimeout k s).roll k =
    if (s.roll k).state = .leader ∨ (s.roll k).state = .ready then
      { s.roll k with state := .suspect, passThrough := .idle } else s.roll k := by
  rw [otherTimeout_none hx]
  split
  · exact roll_enterSuspect k s
  · rfl

theorem otherTimeout_kept (hx : s.shot? k = none) : (otherTimeout k s).timer = s.timer ∧
    (otherTimeout k s).queue = s.queue ∧ (otherTimeout k s).charge = s.charge ∧
    (otherTimeout k s).gate.engine = s.gate.engine := by
  rw [otherTimeout_none hx]
  split
  · exact ⟨by simp, by simp, by simp, engine_enterSuspect k s⟩
  · exact ⟨rfl, rfl, rfl, rfl⟩

/-- A close that goes on: its report waits while the report queue is full, else the roll is CLOSED. -/
theorem closeGoesOn (hst : (s.roll k).state = .closing) (hr : s.gate.engine ≠ .resetting) :
    ∃ st rep, (drainReports (finishClose k s)).roll k = { s.roll k with state := st, report := rep } ∧
    hasFlag (drainReports (finishClose k s)).events.flags .rollClosed = true ∧
    (st = .closing ∧ rep.isSome = true ∧ 24 ≤ (drainReports (finishClose k s)).link.reports.length ∨
      st = .closed ∧ rep = none) := by
  have hcompose : finishClose k s = composeReport k ((s.roll k).closeCause.getD .desk) s := if_neg hr
  have hroll : (finishClose k s).roll k = { s.roll k with report := ((finishClose k s).roll k).report } := by
    rw [hcompose, roll_composeReport]
  have hreport : ((finishClose k s).roll k).report.isSome = true := by
    rw [hcompose, roll_composeReport]
    rfl
  have hflag : hasFlag (drainReports (finishClose k s)).events.flags .rollClosed = true :=
    (Onward.refl _).drainReports.flags _ (by rw [hcompose]; exact hasFlag_composeReport _)
  have htaken : reportTaken ((finishClose k s).roll k) = { s.roll k with state := .closed, report := none } := by
    rw [hroll, reportTaken]
    simp [hst]
  rcases drainReports_roll (finishClose k s) k with h | h
  · refine ⟨.closing, ((finishClose k s).roll k).report, by rw [h, hroll, ← hst], hflag, .inl ⟨rfl, hreport, ?_⟩⟩
    refine (drainReports_done (finishClose k s)).resolve_right fun hoffers => ?_
    obtain ⟨-, hnone⟩ := offers_eq_nil hoffers
    have := hnone k
    rw [h] at this
    simp [this] at hreport
  · exact ⟨.closed, none, by rw [h, htaken], hflag, .inr ⟨rfl, rfl⟩⟩

/-! ## A back whose command timed out (R81, R94, R175, R176) -/

/-- The state past the answer to a command that timed out, its slot ABSENT, before the commands that wait are withdrawn. -/
def absented (x : UnitSlot) (o : Outstanding) (s : State) : State :=
  changeSlot x .absent (updSlot x (fun y => { y with waiting := [] }) (answeredTimeout x o s))

theorem absented_kept (x : UnitSlot) (o : Outstanding) (s : State) :
    (absented x o s).rolls = (answeredTimeout x o s).rolls ∧ (absented x o s).timer = (answeredTimeout x o s).timer ∧
    (absented x o s).queue = (answeredTimeout x o s).queue ∧ (absented x o s).charge = (answeredTimeout x o s).charge ∧
    (absented x o s).gate = (answeredTimeout x o s).gate ∧
    (absented x o s).link.reports = (answeredTimeout x o s).link.reports := by
  refine ⟨by simp [absented], by simp [absented], by simp [absented], by simp [absented], by simp [absented], ?_⟩
  rw [absented, changeSlot, reports_raise]
  simp

/-- A roll as the loss of its back leaves it: NO-BACK, when no roll was on it. -/
def backAbsent (r : Roll) : Roll := if r.state = .unloaded ∨ r.state = .closed then { r with state := .noBack } else r

/-- What a back's timeout leaves past the withdrawn commands. -/
theorem timedOut_back (k : Back) (o : Outstanding) (s : State) :
    ∃ w, w = (s.slot k.slot).waiting.foldl (withdraw k.slot) (absented k.slot o s) ∧
      (timedOut k.slot o s).roll k = backAbsent (w.roll k) ∧ (timedOut k.slot o s).timer = w.timer ∧
      (timedOut k.slot o s).queue = w.queue ∧ (timedOut k.slot o s).charge = w.charge ∧
      (timedOut k.slot o s).events = w.events ∧ (timedOut k.slot o s).link = w.link ∧
      course (timedOut k.slot o s) = course w := by
  refine ⟨_, rfl, ?_⟩
  obtain ⟨w, hw⟩ : ∃ w, w = (s.slot k.slot).waiting.foldl (withdraw k.slot) (absented k.slot o s) := ⟨_, rfl⟩
  have he : timedOut k.slot o s = absentUnit.noBackAfter k (dropList k w) := by
    rw [timedOut_eq, hw]
    cases k <;> rfl
  have hcourse : course (dropList k w) = course w := by
    rw [course, dropList, updVisit, State.setGate_gate, Option.map_map]
    rfl
  rw [← hw, he]
  unfold absentUnit.noBackAfter
  rw [roll_dropList]
  split
  · next h =>
    refine ⟨by rw [updRoll_same, roll_dropList, backAbsent, if_pos h], by simp, by simp, by simp, by simp, by simp, ?_⟩
    exact (course_congr (by simp)).trans hcourse
  · next h =>
    exact ⟨by rw [roll_dropList, backAbsent, if_neg h], by simp, by simp, by simp, by simp, by simp, hcourse⟩

/-- With nothing waiting the back is as the answer to the timeout leaves it, but for a back without a roll. -/
theorem timedOut_alone (hw : (s.slot k.slot).waiting = []) (o : Outstanding) :
    (timedOut k.slot o s).roll k = backAbsent ((answeredTimeout k.slot o s).roll k) ∧
    (timedOut k.slot o s).timer = (answeredTimeout k.slot o s).timer ∧
    (timedOut k.slot o s).queue = (answeredTimeout k.slot o s).queue ∧
    (timedOut k.slot o s).charge = (answeredTimeout k.slot o s).charge ∧
    (timedOut k.slot o s).link.reports = (answeredTimeout k.slot o s).link.reports ∧
    Onward [] 0 (answeredTimeout k.slot o s) (timedOut k.slot o s) := by
  obtain ⟨w, hw', hroll, htimer, hqueue, hcharge, hevents, hlink, -⟩ := timedOut_back k o s
  obtain ⟨k1, k2, k3, k4, -, k6⟩ := absented_kept k.slot o s
  rw [hw, List.foldl_nil] at hw'
  subst hw'
  have honward : Onward [] 0 (answeredTimeout k.slot o s) (absented k.slot o s) :=
    ((Onward.refl _).updSlot _ _).changeSlot _ _
  exact ⟨by rw [hroll, roll_congr k1], htimer.trans k2, hqueue.trans k3, hcharge.trans k4, by rw [hlink, k6],
    honward.same hlink (by rw [hevents])⟩

theorem clearOutstanding_kept (x : UnitSlot) (s : State) : (clearOutstanding x s).rolls = s.rolls ∧
    (clearOutstanding x s).timer = s.timer ∧ (clearOutstanding x s).queue = s.queue ∧
    (clearOutstanding x s).charge = s.charge ∧ (clearOutstanding x s).gate = s.gate ∧
    (clearOutstanding x s).link = s.link ∧ (clearOutstanding x s).tables = s.tables := by
  simp [clearOutstanding]

theorem cutHouse_clear (x : UnitSlot) (k : Back) (s : State) : cutHouse k (clearOutstanding x s) = cutHouse k s := by
  obtain ⟨hrolls, -, -, hcharge, -, -, htables⟩ := clearOutstanding_kept x s
  simp only [cutHouse, hcharge, framePrice_eq, roll_congr hrolls, State.stock?, htables]

/-- A command of a back that timed out, by its issuer. -/
theorem answeredTimeout_back (k : Back) (o : Outstanding) (s : State) :
    (o.issuer = .firing → answeredTimeout k.slot o s = advanceLost k (clearOutstanding k.slot s)) ∧
    (o.issuer = .leader → answeredTimeout k.slot o s = otherTimeout k (clearOutstanding k.slot s)) ∧
    (o.issuer = .blanking → answeredTimeout k.slot o s = drainReports (finishClose k (clearOutstanding k.slot s))) ∧
    (∀ tag, o.issuer = .resync tag → (answeredTimeout k.slot o s).rolls = s.rolls) ∧
    (∀ tag, o.issuer = .direct tag →
      (answeredTimeout k.slot o s).rolls = (otherTimeout k (clearOutstanding k.slot s)).rolls ∧
      (answeredTimeout k.slot o s).timer = (otherTimeout k (clearOutstanding k.slot s)).timer ∧
      (answeredTimeout k.slot o s).queue = (otherTimeout k (clearOutstanding k.slot s)).queue ∧
      (answeredTimeout k.slot o s).charge = (otherTimeout k (clearOutstanding k.slot s)).charge ∧
      (answeredTimeout k.slot o s).gate = (otherTimeout k (clearOutstanding k.slot s)).gate) := by
  obtain ⟨hrolls, -⟩ := clearOutstanding_kept k.slot s
  have hback (w : State) : backTimeout k.slot w = otherTimeout k w := by rw [backTimeout, Back.slot_back]; rfl
  refine ⟨fun h => ?_, fun h => ?_, fun h => ?_, fun tag h => ?_, fun tag h => ?_⟩
  · simp only [answeredTimeout, takeTimeout, h, Back.slot_back]
    rfl
  · simp only [answeredTimeout, takeTimeout, h, hback]
  · simp only [answeredTimeout, takeTimeout, h, Back.slot_back]
    rfl
  · rw [← hrolls]
    simp only [answeredTimeout, takeTimeout, h]
    simp
  · simp only [answeredTimeout, takeTimeout, h, hback]
    simp

/-! ## The replies past a timeout (R175, R187, R193) -/

theorem timedOut_after (x : UnitSlot) (o : Outstanding) (s : State) : ∃ l n, Onward l n (answeredTimeout x o s) (timedOut x o s) :=
  ⟨_, _, ((((Onward.refl _).updSlot x (fun y => { y with waiting := [] })).changeSlot x .absent).withdraws x
    (s.slot x).waiting).absentUnit x⟩

theorem hasFlag_timedOut (x : UnitSlot) (o : Outstanding) (s : State) :
    hasFlag (timedOut x o s).events.flags .unitChange = true :=
  (((Onward.refl _).withdraws x (s.slot x).waiting).absentUnit x).flags _ hasFlag_raise_self

/-- With the transmitter ready, the reply to a frame whose command timed out lets the head of the reply queue begin. -/
theorem answeredTimeout_begins {r : Reply} (hr : timedReply o = [r]) (hb : s.link.mayBegin = true) :
    ∃ y held, s.link.replies ++ [r] = y :: held ∧ (answeredTimeout x o s).link.sending = some (.reply y) ∧
      (answeredTimeout x o s).link.replies = held := by
  obtain ⟨-, -, -, -, -, hlink, -⟩ := clearOutstanding_kept x s
  have hadd (w : State) (hw : w.link = s.link) : ∃ y held, s.link.replies ++ [r] = y :: held ∧
      (addReply r (w.setLink { w.link with reserved := w.link.reserved - 1 })).link.sending = some (.reply y) ∧
      (addReply r (w.setLink { w.link with reserved := w.link.reserved - 1 })).link.replies = held := by
    obtain ⟨y, held, hq⟩ := List.exists_cons_of_ne_nil (List.append_ne_nil_of_right_ne_nil s.link.replies
      (List.cons_ne_nil r []))
    refine ⟨y, held, hq, ?_⟩
    rw [addReply, arbiter_of_reply (r := y) (rest := held) (by simpa [hw, Link.mayBegin] using hb) (by simpa [hw] using hq)]
    exact ⟨rfl, rfl⟩
  unfold timedReply at hr
  simp only [answeredTimeout, takeTimeout]
  cases hi : o.issuer with
  | direct tag =>
    cases tag with
    | none => simp [hi] at hr
    | some tag =>
      simp only [hi, List.cons.injEq, and_true] at hr
      subst hr
      exact hadd (backTimeout x (clearOutstanding x s)) (by simp)
  | resync tag =>
    cases tag with
    | none => simp [hi] at hr
    | some tag =>
      simp only [hi, List.cons.injEq, and_true] at hr
      subst hr
      exact hadd (clearOutstanding x s) hlink
  | _ => simp [hi] at hr

/-- A fault leaves the phase of the open visit. -/
theorem raiseFault_visit (g : FaultRec) (hv : s.gate.visit = some v) : ∃ z, (raiseFault g s).gate.visit = some z ∧
    z.state = v.state ∧ z.metering = v.metering ∧ z.zones = v.zones ∧ z.rereads = v.rereads := by
  unfold raiseFault
  split
  · exact ⟨v, hv, rfl, rfl, rfl, rfl⟩
  · exact ⟨v, by simpa using hv, rfl, rfl, rfl, rfl⟩
  · refine ⟨{ v with held := true, release := false }, ?_, rfl, rfl, rfl, rfl⟩
    unfold holdVisit
    simp [hv, setLabelWait]

/-- A meter's timeout cuts a phase in progress (R53). -/
theorem timedOut_meter (hv : s.gate.visit = some v) (hm : v.metering = true) (o : Outstanding) :
    (timedOut .meter o s).timer.lamp = false ∧
    ∀ w, (timedOut .meter o s).gate.visit = some w → w.metering = false ∧ w.zones = [] := by
  have hcuts (w : State) (hw : w.gate.visit = some v) : (cutMetering w).timer.lamp = false ∧
      ∀ z, (cutMetering w).gate.visit = some z → z.metering = false ∧ z.zones = [] := by
    obtain ⟨z, hgate, -, -, hcut⟩ := cutMetering_visit hw
    obtain ⟨h1, h2, -, h4⟩ := hcut hm
    rw [hgate]
    exact ⟨h4, fun y hy => Option.some.inj hy ▸ ⟨h1, h2⟩⟩
  have hcutAgain (w : State) (hw : w.timer.lamp = false ∧ ∀ z, w.gate.visit = some z → z.metering = false ∧ z.zones = []) :
      cutMetering w = w := by
    unfold cutMetering
    refine if_neg ?_
    cases hz : w.gate.visit with
    | none => simp
    | some z => simp [(hw.2 z hz).1]
  obtain ⟨-, htimer, -, -, hgate, -⟩ := clearOutstanding_kept .meter s
  have hanswered : answeredTimeout .meter o s = cutMetering (clearOutstanding .meter s) ∨
      (answeredTimeout .meter o s).gate = s.gate := by
    simp only [answeredTimeout, takeTimeout]
    cases o.issuer with
    | visit => exact .inl (if_neg (by simp))
    | _ => exact .inr (by simp [backTimeout, UnitSlot.back])
  obtain ⟨w, hw⟩ : ∃ w, w = (s.slot .meter).waiting.foldl (withdraw .meter) (absented .meter o s) := ⟨_, rfl⟩
  have hwgate : w.gate = (answeredTimeout .meter o s).gate := by
    rw [hw, withdraws_eq_answersLost rfl]
    simp [absented]
  have hwtimer : w.timer = (answeredTimeout .meter o s).timer := by
    rw [hw, withdraws_eq_answersLost rfl]
    simp [absented]
  have he : timedOut .meter o s = cutMetering w := by rw [timedOut_eq, hw]; rfl
  rw [he]
  obtain h | h := hanswered
  · have hcut : w.timer.lamp = false ∧ ∀ z, w.gate.visit = some z → z.metering = false ∧ z.zones = [] := by
      rw [hwgate, hwtimer, h]
      exact hcuts _ (by rw [hgate, hv])
    rw [hcutAgain w hcut]
    exact hcut
  · exact hcuts w (by rw [hwgate, h, hv])

theorem Quiet.visit {w : Visit} (h : Quiet s t) (ht : t.gate.visit = some w) :
    ∃ v, s.gate.visit = some v ∧ w.owed = v.owed ∧ w.metering = v.metering ∧ w.zones = v.zones := by
  have hcourse := h.course.resolve_right (by simp [ht])
  simp only [Machine.course, ht, Option.map_some] at hcourse
  obtain ⟨v, hv, he⟩ := Option.map_eq_some_iff.mp hcourse.symm
  simp only [Prod.mk.injEq] at he
  obtain ⟨h1, h2, h3⟩ := he
  exact ⟨v, hv, h1.symm, h2.symm, h3.symm⟩

/-- Past a timeout a roll that is not CLOSING keeps all but its report. -/
theorem Told.roll_of_open (h : Told s t) (hc : (s.roll k).state ≠ .closing) :
    t.roll k = { s.roll k with report := (t.roll k).report } := by
  rcases h.rolls k with hr | hr
  · rw [hr]
  · rw [hr, reportTaken, if_neg hc]

/-- A roll CLOSING with its report, the report queue full, stays so; one without a report keeps none. -/
theorem roll_of_closing (h : Told s t) (hq : Quiet s t) :
    ((s.roll k).state = .closing → (s.roll k).report.isSome = true → 24 ≤ s.link.reports.length → t.roll k = s.roll k) ∧
    ((s.roll k).state = .noBack → (s.roll k).report = none → t.roll k = s.roll k) := by
  refine ⟨fun _ _ hfull => roll_congr (hq.full hfull).2 k, fun hst hrep => ?_⟩
  rcases h.rolls k with hr | hr
  · exact hr
  · rw [hr, reportTaken, if_neg (by simp [hst])]
    rw [← hrep]

theorem backAbsent_eq {r : Roll} (h : r.state ≠ .unloaded) (h' : r.state ≠ .closed) : backAbsent r = r :=
  if_neg (not_or.mpr ⟨h, h'⟩)

/-- What a timeout does to a back with nothing waiting in its slot. -/
theorem backTimedOut {out : State} (hT : out = timedOut k.slot o s) (hw : (s.slot k.slot).waiting = [])
    (hx : s.shot? k = none) (hall : Told out t) (hquiet : Quiet out t) (honward : Onward [] 0 out t) :
    (∀ f, o.issuer = .firing → (s.roll k).state = .ready → s.timer.frames.get k = some f →
      (t.roll k).state = .suspect ∧ (t.roll k).cut = some f.position ∧ t.timer.frames.get k = none) ∧
    (∀ f, o.issuer = .firing → s.timer.frames.get k = some f →
      t.charge.house = (if f.lampSpoiled then s.charge.house else cutHouse k s) ∧
      out.queue = if f.lampSpoiled then s.queue else owedQueue f.item s.queue) ∧
    (o.issuer = .leader → (s.roll k).state = .leader →
      (t.roll k).state = .suspect ∧ (t.roll k).leaderRemaining = (s.roll k).leaderRemaining) ∧
    (o.issuer = .blanking → (s.roll k).state = .closing → s.gate.engine ≠ .resetting →
      hasFlag t.events.flags .rollClosed = true ∧ (t.roll k).lastCount = (s.roll k).lastCount ∧
      (t.roll k).film = (s.roll k).film ∧
      ((t.roll k).state = .closing ∧ (t.roll k).report.isSome = true ∨
        (t.roll k).state = .noBack ∧ (t.roll k).report = none)) ∧
    (∀ tag, o.issuer = .resync tag → (s.roll k).state = .suspect →
      t.roll k = { s.roll k with report := (t.roll k).report }) ∧
    (∀ tag, o.issuer = .direct tag →
      ((s.roll k).state = .leader ∨ (s.roll k).state = .ready → (t.roll k).state = .suspect) ∧
      ((s.roll k).state = .unloaded ∨ (s.roll k).state = .closed → (t.roll k).state = .noBack)) := by
  obtain ⟨hroll, htimer, hqueue, hcharge, hreports, hgo⟩ := timedOut_alone hw o
  rw [← hT] at hroll htimer hqueue hcharge hreports hgo
  obtain ⟨hfiring, hleader, hblanking, hresync, hdirect⟩ := answeredTimeout_back k o s
  obtain ⟨crolls, ctimer, cqueue, ccharge, cgate, -⟩ := clearOutstanding_kept k.slot s
  have croll : (clearOutstanding k.slot s).roll k = s.roll k := roll_congr crolls k
  have cshot : (clearOutstanding k.slot s).shot? k = none := (shot?_congr ctimer k).trans hx
  have hcut {f : FrameRec} (hi : o.issuer = .firing) (hf : s.timer.frames.get k = some f) :=
    advanceLost_some (s := clearOutstanding k.slot s) (k := k) (f := f) (by rw [ctimer, hf])
  refine ⟨fun f hi hready hf => ?_, fun f hi hf => ?_, fun hi hst => ?_, fun hi hst hr => ?_, fun tag hi hst => ?_,
    fun tag hi => ⟨fun hst => ?_, fun hst => ?_⟩⟩
  · obtain ⟨aroll, atimer, -⟩ := hcut hi hf
    rw [hfiring hi, aroll, croll, suspected, if_pos hready] at hroll
    rw [backAbsent_eq (by simp) (by simp)] at hroll
    have ht := hall.roll_of_open (k := k) (by rw [hroll]; simp)
    refine ⟨by rw [ht, hroll], by rw [ht, hroll], ?_⟩
    rw [hall.timer, htimer, hfiring hi, atimer]
    cases k <;> rfl
  · obtain ⟨-, -, acharge, aqueue, -⟩ := hcut hi hf
    rw [hall.house, hcharge, hqueue, hfiring hi, acharge, aqueue, ccharge, cqueue, cutHouse_clear]
    exact ⟨rfl, rfl⟩
  · have aroll := roll_otherTimeout cshot
    rw [croll, if_pos (.inl hst)] at aroll
    rw [hleader hi, aroll, backAbsent_eq (by simp) (by simp)] at hroll
    have ht := hall.roll_of_open (k := k) (by rw [hroll]; simp)
    exact ⟨by rw [ht, hroll], by rw [ht, hroll]⟩
  · obtain ⟨st, rep, aroll, aflag, acases⟩ := closeGoesOn (s := clearOutstanding k.slot s) (k := k) (by rwa [croll])
      (by rwa [cgate])
    obtain ⟨hstays, hgone⟩ := roll_of_closing (k := k) hall hquiet
    rw [hblanking hi, aroll, croll] at hroll
    rw [hblanking hi] at hreports hgo
    have hflag := (hgo.then honward).flags _ aflag
    obtain ⟨rfl, hrep, hfull⟩ | ⟨rfl, rfl⟩ := acases
    · rw [backAbsent_eq (by simp) (by simp)] at hroll
      have ht := hstays (by rw [hroll]) (by rw [hroll]; exact hrep) (by rw [hreports]; exact hfull)
      rw [ht, hroll]
      exact ⟨hflag, rfl, rfl, .inl ⟨rfl, hrep⟩⟩
    · rw [backAbsent, if_pos (.inr rfl)] at hroll
      have ht := hgone (by rw [hroll]) (by rw [hroll])
      rw [ht, hroll]
      exact ⟨hflag, rfl, rfl, .inr ⟨rfl, rfl⟩⟩
  · rw [roll_congr (hresync tag hi), backAbsent_eq (by simp [hst]) (by simp [hst])] at hroll
    have ht := hall.roll_of_open (k := k) (by rw [hroll, hst]; simp)
    rwa [hroll] at ht
  · obtain ⟨drolls, -⟩ := hdirect tag hi
    have aroll := roll_otherTimeout cshot
    rw [croll, if_pos hst] at aroll
    rw [roll_congr drolls, aroll, backAbsent_eq (by simp) (by simp)] at hroll
    have ht := hall.roll_of_open (k := k) (by rw [hroll]; simp)
    rw [ht, hroll]
  · obtain ⟨drolls, -⟩ := hdirect tag hi
    have aroll := roll_otherTimeout cshot
    rw [croll, if_neg (by rcases hst with h | h <;> simp [h])] at aroll
    rw [roll_congr drolls, aroll, backAbsent, if_pos hst] at hroll
    have ht := hall.roll_of_open (k := k) (by rw [hroll]; simp)
    rw [ht, hroll]

/-- What a timeout behind a DIRECT frame does to a back with one command waiting in its slot. -/
theorem backWithdrawn {out : State} {c : Issued} (hT : out = timedOut k.slot o s) (hw : (s.slot k.slot).waiting = [c])
    (hd : o.issuer.isDirect = true) (hx : s.shot? k = none) (hall : Told out t) (hquiet : Quiet out t)
    (honward : Onward [] 0 out t) :
    (∀ f, c.issuer = .firing → (s.roll k).state = .ready → s.timer.frames.get k = some f →
      (t.roll k).state = .suspect ∧ (t.roll k).cut = some f.position ∧ t.timer.frames.get k = none ∧
      ∀ v, t.gate.visit = some v → v.owed.get k = false) ∧
    (c.issuer = .leader → (s.roll k).state = .leader →
      (t.roll k).state = .suspect ∧ (t.roll k).leaderRemaining = (s.roll k).leaderRemaining) ∧
    (c.issuer = .blanking → (s.roll k).state = .closing → s.gate.engine ≠ .resetting →
      hasFlag t.events.flags .rollClosed = true ∧
      ((t.roll k).state = .closing ∧ (t.roll k).report.isSome = true ∨
        (t.roll k).state = .noBack ∧ (t.roll k).report = none)) := by
  obtain ⟨w, hw', hroll, htimer, -, -, hevents, hlink, hcourse⟩ := timedOut_back k o s
  rw [hw, List.foldl_cons, List.foldl_nil] at hw'
  rw [← hT] at hroll htimer hevents hlink hcourse
  obtain ⟨brolls, btimer, -, -, bgate, -⟩ := absented_kept k.slot o s
  obtain ⟨-, -, -, -, hdirect⟩ := answeredTimeout_back k o s
  obtain ⟨crolls, ctimer, -, -, cgate, -⟩ := clearOutstanding_kept k.slot s
  obtain ⟨tag, hi⟩ : ∃ tag, o.issuer = .direct tag := by
    cases h : o.issuer <;> simp_all [Issuer.isDirect]
  obtain ⟨drolls, dtimer, -, -, dgate⟩ := hdirect tag hi
  have cshot : (clearOutstanding k.slot s).shot? k = none := (shot?_congr ctimer k).trans hx
  obtain ⟨otimer, -, -, oengine⟩ := otherTimeout_kept cshot
  have aroll := roll_otherTimeout cshot
  rw [roll_congr crolls, ← roll_congr drolls, ← roll_congr brolls] at aroll
  have atimer : (absented k.slot o s).timer = s.timer := by rw [btimer, dtimer, otimer, ctimer]
  have aengine : (absented k.slot o s).gate.engine = s.gate.engine := by rw [bgate, dgate, oengine, cgate]
  refine ⟨fun f hci hready hf => ?_, fun hci hst => ?_, fun hci hst hr => ?_⟩
  · have he : w = advanceLost k (absented k.slot o s) := by rw [hw', withdraw, hci, Back.slot_back]; rfl
    obtain ⟨wroll, wtimer, -, -, wowed⟩ := advanceLost_some (s := absented k.slot o s) (k := k) (f := f) (by rw [atimer, hf])
    rw [← he] at wroll wtimer wowed
    rw [if_pos (.inr hready)] at aroll
    rw [wroll, aroll, suspected, if_neg (by simp), backAbsent_eq (by simp) (by simp)] at hroll
    have ht := hall.roll_of_open (k := k) (by rw [hroll]; simp)
    refine ⟨by rw [ht, hroll], by rw [ht, hroll], ?_, fun v hv => ?_⟩
    · rw [hall.timer, htimer, wtimer]
      cases k <;> rfl
    · obtain ⟨z, hz, howed, -⟩ := hquiet.visit hv
      have hwz : ∃ y, w.gate.visit = some y ∧ y.owed = z.owed := by
        simp only [course, hz, Option.map_some] at hcourse
        obtain ⟨y, hy, he⟩ := Option.map_eq_some_iff.mp hcourse.symm
        exact ⟨y, hy, congrArg Prod.fst he⟩
      obtain ⟨y, hy, hyz⟩ := hwz
      rw [howed, ← hyz]
      exact wowed y hy
  · rw [if_pos (.inl hst)] at aroll
    have he : w = absented k.slot o s := by
      rw [hw', withdraw, hci]
      show backTimeout k.slot _ = _
      rw [backTimeout, Back.slot_back]
      show otherTimeout k _ = _
      rw [otherTimeout_none ((shot?_congr atimer k).trans hx), if_neg (by rw [aroll]; simp)]
    rw [he, aroll, backAbsent_eq (by simp) (by simp)] at hroll
    have ht := hall.roll_of_open (k := k) (by rw [hroll]; simp)
    exact ⟨by rw [ht, hroll], by rw [ht, hroll]⟩
  · rw [if_neg (by simp [hst])] at aroll
    have he : w = drainReports (finishClose k (absented k.slot o s)) := by rw [hw', withdraw, hci, Back.slot_back]; rfl
    obtain ⟨st, rep, wroll, wflag, wcases⟩ := closeGoesOn (s := absented k.slot o s) (k := k) (by rwa [aroll])
      (by rwa [aengine])
    obtain ⟨hstays, hgone⟩ := roll_of_closing (k := k) hall hquiet
    rw [← he] at wroll wflag wcases
    rw [wroll] at hroll
    have hflag := honward.flags _ (by rw [hevents]; exact wflag)
    obtain ⟨rfl, hrep, hfull⟩ | ⟨rfl, rfl⟩ := wcases
    · rw [backAbsent_eq (by simp) (by simp)] at hroll
      have ht := hstays (by rw [hroll]) (by rw [hroll]; exact hrep) (by rw [hlink]; exact hfull)
      rw [ht, hroll]
      exact ⟨hflag, .inl ⟨rfl, hrep⟩⟩
    · rw [backAbsent, if_pos (.inr rfl)] at hroll
      have ht := hgone (by rw [hroll]) (by rw [hroll])
      rw [ht, hroll]
      exact ⟨hflag, .inr ⟨rfl, rfl⟩⟩

/-! ## A back in the firing whose command timed out (R83, R154, R175) -/

theorem leaveFiring_parts {y : Shot} (hy : s.shot? k = some y) :
    (leaveFiring k s).queue = owedQueue y.item s.queue ∧ (leaveFiring k s).charge.house = cutHouse k s ∧
    (leaveFiring k s).shot? k = none := by
  obtain ⟨f, hf⟩ := firing_of_shot hy
  have he := leaveFiring_some hf hy
  have htimer : (loseShot k s).timer = (leaveFiring k s).timer := by rw [loseShot_some hf hy]; simp
  refine ⟨?_, ?_, (shot?_congr htimer.symm k).trans (shot?_loseShot k s)⟩
  · rw [he, endEmpty]
    split <;> exact queue_cutPending f.serial k y.item _
  · rw [he, endEmpty]
    split <;> exact house_cutPending f.serial k y.item _

theorem otherTimeout_shot {y : Shot} (hready : (s.roll k).state = .ready) (hy : s.shot? k = some y) :
    (otherTimeout k s).roll k = { s.roll k with state := .suspect, passThrough := .idle, cut := some y.position } ∧
    (otherTimeout k s).timer = (leaveFiring k s).timer ∧ (otherTimeout k s).queue = (leaveFiring k s).queue ∧
    (otherTimeout k s).charge = (leaveFiring k s).charge := by
  have he : otherTimeout k s = updRoll k (fun r => { r with cut := some y.position }) (enterSuspect k (leaveFiring k s)) := by
    simp only [otherTimeout, hready, hy]
    rfl
  have hroll : (leaveFiring k s).roll k = s.roll k := roll_congr (by simp) k
  rw [he]
  refine ⟨by rw [updRoll_same, roll_enterSuspect, hroll], by simp, by simp, by simp⟩

/-- What follows of a firing a back has left, with the engine not running, starts none, and tells no more of a roll than its
report. -/
theorem firingAfterLoss_still (hne : s.gate.engine ≠ .running) (i : Nat) :
    ((firingAfterLoss i s).roll k = s.roll k ∨ (firingAfterLoss i s).roll k = reportTaken (s.roll k)) ∧
    (s.gate.engine = .faulted → (firingAfterLoss i s).gate.engine = .faulted ∧
      (firingAfterLoss i s).events.current = s.events.current) ∧
    (s.shot? k = none → (firingAfterLoss i s).shot? k = none) ∧
    (s.timer.firing = none → firingAfterLoss i s = testVisit s) := by
  have htests (w : State) (hrolls : w.rolls = s.rolls) (hw : w.gate.engine ≠ .running)
      (hf : s.gate.engine = .faulted → w.gate.engine = .faulted ∧ w.events.current = s.events.current)
      (hx : s.shot? k = none → w.shot? k = none) :
      ((testVisit w).roll k = s.roll k ∨ (testVisit w).roll k = reportTaken (s.roll k)) ∧
      (s.gate.engine = .faulted → (testVisit w).gate.engine = .faulted ∧
        (testVisit w).events.current = s.events.current) ∧ (s.shot? k = none → (testVisit w).shot? k = none) := by
    have htold := (Told.refl w).testVisit hw
    refine ⟨by simpa only [roll_congr hrolls] using htold.rolls k, fun h => ?_, fun h => ?_⟩
    · obtain ⟨h1, h2⟩ := hf h
      obtain ⟨g1, g2, -⟩ := htold.faulted h1
      exact ⟨g1, g2.trans h2⟩
    · rw [shot?_congr htold.timer, hx h]
  have hhold : stepHold i s = s := if_neg fun h => hne h.1
  cases hf : s.timer.firing with
  | none =>
    have he : firingAfterLoss i s = testVisit s := by simp only [firingAfterLoss, hf, hhold]
    rw [he]
    obtain ⟨h1, h2, h3⟩ := htests s rfl hne (fun h => ⟨h, rfl⟩) id
    exact ⟨h1, h2, h3, fun _ => rfl⟩
  | some f =>
    have hnofiring (w : State) (hw : w.timer.firing = none) : w.shot? k = none := by simp [State.shot?, hw]
    have hcases : firingAfterLoss i s = endFiring s ∨ firingAfterLoss i s = abortFiring s ∨ firingAfterLoss i s = s := by
      simp only [firingAfterLoss, hf]
      (repeat' split) <;> simp
    obtain h | h | h := hcases
    · rw [h, endFiring_eq hf]
      have hengine : (oweAdvances (includedBacks s) (dropLines (framesAfter s f false) s)).gate.engine = s.gate.engine :=
        congrArg EngineView.engine ((engineView_oweAdvances _).trans (engineView_dropLines _))
      obtain ⟨h1, h2, h3⟩ := htests (oweAdvances (includedBacks s) (dropLines (framesAfter s f false) s)) (by simp)
        (by rwa [hengine]) (fun h => ⟨hengine.trans h, by simp⟩) (fun _ => hnofiring _ (by rw [timer_oweAdvances]; rfl))
      exact ⟨h1, h2, h3, nofun⟩
    · rw [h, abortFiring_eq hf]
      have hcurrent (h : s.gate.engine = .faulted) : (aborted f s).events.current = s.events.current := by
        have hevents : (aborted f s).events = (raiseFault (lampFault s) (spoilShot .b (s.shot? .b) (spoilShot .a
          (s.shot? .a) (dropLines (framesAfter s f true) s)))).events := by simp [aborted]
        rw [hevents, raiseFault_faulted (by rw [engine_spoilShot, engine_spoilShot]; exact h)]
        simp
      obtain ⟨h1, h2, h3⟩ := htests (aborted f s) (by simp [aborted]) (by rw [engine_aborted]; split <;> simp)
        (fun h => ⟨by rw [engine_aborted, h, if_neg (by simp)], hcurrent h⟩)
        (fun _ => hnofiring _ (by rw [timer_aborted]; rfl))
      exact ⟨h1, h2, h3, nofun⟩
    · rw [h]
      exact ⟨.inl rfl, fun h => ⟨h, rfl⟩, id, nofun⟩

/-- The tests of a visit leave the resume record of an engine FAULTED or RESETTING, but for a close. -/
theorem resume_testReturning (he : s.gate.engine = .faulted ∨ s.gate.engine = .resetting) :
    (testReturning s).gate.resume = s.gate.resume ∨ (testReturning s).gate.resume = none := by
  have hsend (w : State) (hw : w.gate.engine = s.gate.engine) : (sendReturn w).gate = w.gate := by
    unfold sendReturn
    split
    · simp
    · rcases he with h | h
      · rw [raiseFault_faulted (hw.trans h)]
        simp
      · rw [raiseFault_resetting (hw.trans h)]
  have hclose (w : State) (hw : w.gate.visit.isSome = true) : (closeVisit w).gate.resume = none := by
    obtain ⟨v, hv⟩ := Option.isSome_iff_exists.mp hw
    simp only [closeVisit, hv]
    rw [endVisit_eq hv]
    simp [setLabelWait]
  unfold testReturning
  split
  · cases hv : s.gate.visit with
    | none =>
      rw [enterReturning, hv]
      exact .inl rfl
    | some v =>
      simp only [enterReturning, hv]
      split
      · exact .inr (hclose _ (by simp [setLabelWait, updVisit, hv]))
      · split
        · exact .inl (by simp [setLabelWait, updVisit])
        · rw [hsend _ (by simp [setLabelWait, updVisit])]
          exact .inl (by simp [setLabelWait, updVisit])
  · exact .inl rfl

theorem resume_testVisit (he : s.gate.engine = .faulted ∨ s.gate.engine = .resetting) :
    (testVisit s).gate.resume = s.gate.resume ∨ (testVisit s).gate.resume = none := by
  have hgate : (testFiring s).gate = s.gate := by
    unfold testFiring
    split
    · rfl
    · split
      · rfl
      · next v _ _ =>
        rw [if_pos (show (!firingConditions s v) = true by rcases he with h | h <;> simp [firingConditions, h])]
        rfl
  rw [← hgate]
  exact resume_testReturning (by rwa [hgate])

theorem resume_completeCancels (s : State) : (completeCancels s).gate.resume = s.gate.resume := by
  obtain ⟨-, hg, -, -⟩ := endOrders_leaves (s := s) .cancelled (cancelsDone s)
  have hgate : (completeCancels s).gate = (endOrders .cancelled (cancelsDone s) s).gate := by
    rw [completeCancels]
    simp
  rw [hgate, hg]

/-- A hold that meets no firing and no frame record cuts no firing (R154). -/
theorem raiseFault_cutsNone (g : FaultRec) (hresume : s.gate.resume = none) (hf : s.timer.firing = none)
    (hframes : s.timer.frames = ⟨none, none⟩) : ∀ r, (raiseFault g s).gate.resume = some r → r.cutFiring = [] := by
  intro r hr
  by_cases hres : s.gate.engine = .resetting
  · rw [raiseFault_resetting hres, hresume] at hr
    exact nomatch hr
  · by_cases hfa : s.gate.engine = .faulted
    · rw [raiseFault_faulted hfa] at hr
      simp [hresume] at hr
    · rw [raiseFault_eq_hold hres hfa] at hr
      have hnone : (faulted g s).gate.resume = none := by simpa [faulted] using hresume
      have htimer : (faulted g s).timer = s.timer := by simp [faulted]
      have hdone (m : Nat) : serialDone (faulted g s) m = true := by
        rw [serialDone, htimer, hf, hframes]
        rfl
      have hcuts : cutShots (faulted g s) = [] := by
        have hnot (j : Back) : cutShot (faulted g s) j = none := by
          rw [cutShot_eq]
          exact List.find?_eq_none.mpr fun x _ => by simp [hdone]
        simp [cutShots, hnot]
      cases hv : (faulted g s).gate.visit with
      | none =>
        rw [holdVisit_none hv, hnone] at hr
        exact nomatch hr
      | some v =>
        rw [holdVisit_some hv] at hr
        simp only [setLabelWait, State.setLabels_gate, State.setGate_gate, Option.some.injEq] at hr
        rw [← hr, heldResume_none hnone]
        exact hcuts

/-- Settles O58. -/
theorem unitsLost : Obligations.UnitsLost := by
  unfold Obligations.UnitsLost
  intro lost timed house owed
  have hlostReply : lost = lostReply := rfl
  have htimedReply : timed = timedReply := rfl
  have hhouse : house = cutHouse := rfl
  have howed : owed = owedQueue := rfl
  clear_value lost timed house owed
  subst hlostReply htimedReply hhouse howed
  refine ⟨fun k o s ho => ?_, fun x st s => ?lost, fun x o s ho hx => ?timeout, fun k tag y o s ho hw hi hready hy => ?shot⟩
  · show execDetachingAnswer k o.exchange s = _
    have hanswered : answered s k.slot o.exchange = some o := by simp [answered, ho]
    rw [execDetachingAnswer, hanswered]
  case lost =>
    intro t
    obtain ⟨m, p, hslot, hm, hp⟩ := slot_slotLost x st s
    have honward := slotLost_onward x st s
    refine ⟨by rw [hslot], by rw [hslot], by rw [hslot], by rw [hslot], hasFlag_slotLost x st s, fun hb => ?_,
      fun hu => ⟨?_, fun hv hf hr => ?_⟩, fun hu => ?_, fun k hu => ?_, fun hu => ?_⟩
    · intro replies
      exact ⟨(honward.held (not_mayBegin hb)).1, honward.reserved⟩
    · subst hu
      show (t.slot .feeder).magazine = none
      rw [hslot, ← hm rfl]
    · subst hu
      exact current_feederLost st s hv hf hr
    · subst hu
      show (t.slot .printer).printer = none
      rw [hslot, ← hp rfl]
    · subst hu
      exact roll_slotLost k st s
    · subst hu
      intro due lostNow
      obtain ⟨hcurrent, hpending⟩ := faultsOf_answeredLost .meter st s
      refine ⟨fun v hv hdue => ?_, fun hnone => ?_⟩
      · have ht : t = raiseFault (lostNow v) (cutMetering (answeredLost .meter st s)) := by
          have h := slotLost_meter st s
          rwa [if_pos ((meterNeeded_iff hv).mpr hdue), visitFault_unitLost hv] at h
        obtain ⟨w, hgate, hst, -, hcut⟩ := cutMetering_visit (s := answeredLost .meter st s) (v := v) (by simpa using hv)
        have hengine : (cutMetering (answeredLost .meter st s)).gate.engine = s.gate.engine := by rw [hgate]; simp
        obtain ⟨z, hz, hzst, hzmetering, hzzones, hzrereads⟩ := raiseFault_visit (s := cutMetering (answeredLost .meter st s))
          (v := w) (lostNow v) (by rw [hgate])
        rw [ht]
        refine ⟨fun hf hr => ⟨raiseFault_current (by rwa [hengine]) (by rwa [hengine]), ?_⟩, fun hf hp => ?_, z, hz,
          hzst.trans hst, fun hv => ?_⟩
        · rw [engine_raiseFault, hengine, if_neg hr]
        · rw [raiseFault_pending (by rwa [hengine]), show (cutMetering (answeredLost .meter st s)).events.pendingFault = none
            by simpa [hpending] using hp]
          rfl
        · obtain ⟨h1, h2, h3, h4⟩ := hcut hv
          exact ⟨hzmetering.trans h1, hzzones.trans h2, hzrereads.trans h3, by simpa using h4⟩
      · have ht : t = answeredLost .meter st s := by
          have h := slotLost_meter st s
          rwa [if_neg ?_] at h
          cases hv : s.gate.visit with
          | none => simp [meterNeeded, hv]
          | some v => exact mt (meterNeeded_iff hv).mp (hnone v hv)
        rw [ht]
        exact ⟨by simp, by simp, hcurrent, hpending⟩
  case timeout =>
    intro t
    obtain ⟨ht, htold, hquiet, hafter⟩ := commandTimeout_told hx o
    obtain ⟨hstate, hchanged, hout, hwaiting⟩ := slot_timedOut x o s
    have hfault := timeoutFault_eq x o s
    obtain ⟨fault, hfaultIs⟩ : ∃ g, g = timeoutFault s (timedOut x o s) x o := ⟨_, rfl⟩
    rw [← hfaultIs] at ht htold hquiet hafter hfault
    obtain ⟨out, hT⟩ : ∃ w, w = timedOut x o s := ⟨_, rfl⟩
    rw [← hT] at ht htold hquiet hafter hstate hchanged hout hwaiting
    have hall : Told out t := ((Told.refl out).raiseFault fault).trans htold
    have hallQuiet : Quiet out t := ((Quiet.refl out).raiseFault fault).trans hquiet
    have hslot : t.slot x = out.slot x := by
      refine hall.slots x ?_
      cases x with
      | feeder => exact .inr (by simp [State.present, hstate])
      | _ => exact .inl (by simp)
    have honward := timedOut_onward x o s
    rw [← hT] at honward
    have hview : engineView out = engineView s := by rw [hT]; simp
    have hengine : out.gate.engine = s.gate.engine := congrArg EngineView.engine hview
    have hpending : out.events.pendingFault.isSome = s.events.pendingFault.isSome := congrArg EngineView.deferred hview
    refine ⟨?_, by rw [hslot]; exact hstate, by rw [hslot]; exact hchanged, by rw [hslot]; exact hout,
      by rw [hslot]; exact hwaiting, ?_, ⟨fun hf hr => ?_, fun hf hp => ?_, ?_⟩, fun r tag htag hres hdata hwho => ?_,
      fun hb => ?_, fun k c hu hc hd => ?_, fun hu => ?_, fun hu => ?_, fun v hu hv hm => ?_, fun k hu hw => ?_⟩
    · show execUnitCommandTimeout x s = _
      rw [execUnitCommandTimeout, ho]
    · exact (((Onward.refl out).raiseFault fault).then hafter).flags _ (by rw [hT]; exact hasFlag_timedOut x o s)
    · rw [← hfault]
      have hfaulted : (raiseFault fault out).gate.engine = .faulted := by rw [engine_raiseFault, hengine, if_neg hr]
      obtain ⟨-, hcurrent, -⟩ := htold.faulted hfaulted
      exact hcurrent.trans (raiseFault_current (by rwa [hengine]) (by rwa [hengine]))
    · rw [← hfault]
      have hfaulted : (raiseFault fault out).gate.engine = .faulted := by
        rw [engine_raiseFault, hengine, hf, if_neg (by simp)]
      have hnone : out.events.pendingFault = none := by simpa [hp] using hpending
      have hfills : (raiseFault fault out).events.pendingFault = some fault := by
        rw [raiseFault_pending (by rwa [hengine]), hnone]
        rfl
      obtain ⟨-, -, hkeeps⟩ := htold.faulted hfaulted
      exact (hkeeps (by rw [hfills]; rfl)).trans hfills
    · rw [← hfault, ← hT]
      exact ht
    · have hr : timedReply o = [r] := by
        obtain ⟨cls, rtag, command, result, data⟩ := r
        dsimp only at htag hres hdata hwho
        subst htag hres hdata
        obtain ⟨hi, rfl, rfl⟩ | ⟨hi, rfl, rfl⟩ := hwho <;> simp [timedReply, hi]
      refine ⟨fun hb => ⟨(s.slot x).waiting.filterMap lostReply, ?_⟩, fun hs hready => ?_⟩
      · rw [((honward.then ((Onward.refl out).raiseFault fault)).then hafter |>.held (not_mayBegin hb)).1, hr]
        rfl
      · obtain ⟨y, held, hq, hsend, hheld⟩ := answeredTimeout_begins (s := s) (x := x) hr (by simp [Link.mayBegin, hs, hready])
        obtain ⟨l, n, hout⟩ := timedOut_after x o s
        rw [← hT] at hout
        obtain ⟨hreplies, hsending⟩ := ((hout.then ((Onward.refl out).raiseFault fault)).then hafter).held
          (not_mayBegin (.inl (by rw [hsend]; rfl)))
        exact ⟨y, held, l, hq, hsending.trans hsend, by rw [hreplies, hheld]⟩
    · exact ⟨((honward.then ((Onward.refl out).raiseFault fault)).then hafter |>.held (not_mayBegin hb)).1,
        ((honward.then ((Onward.refl out).raiseFault fault)).then hafter).reserved⟩
    · subst hu
      exact backWithdrawn hT hc hd (hx k rfl) hall hallQuiet (((Onward.refl out).raiseFault fault).then hafter)
    · subst hu
      show (t.slot .feeder).magazine = none
      rw [hslot, hT, timedOut_eq, absentUnit, updSlot_same]
    · subst hu
      show (t.slot .printer).printer = none
      rw [hslot, hT, timedOut_eq, absentUnit, updSlot_same]
    · subst hu
      obtain ⟨hlamp, hcut⟩ := timedOut_meter hv hm o
      rw [← hT] at hlamp hcut
      refine ⟨by rw [hall.timer]; exact hlamp, fun w hw => ?_⟩
      obtain ⟨z, hz, -, h2, h3⟩ := hallQuiet.visit hw
      rw [h2, h3]
      exact hcut z hz
    · subst hu
      rw [← hT]
      exact backTimedOut hT hw (hx k rfl) hall hallQuiet (((Onward.refl out).raiseFault fault).then hafter)
  case shot =>
    intro t
    obtain ⟨f, hf⟩ := firing_of_shot hy
    obtain ⟨out, hT⟩ : ∃ w, w = timedOut k.slot o s := ⟨_, rfl⟩
    obtain ⟨fault, hfaultIs⟩ : ∃ g, g = timeoutFault s (timedOut k.slot o s) k.slot o := ⟨_, rfl⟩
    have hfault : fault =
        { kind := .unitTimeout, unit := faultUnit k.slot, order := none, back := some k, position := none,
          visit := s.gate.visit.map (fun v => v.state) } := by
      have h := timeoutFault_eq k.slot o s
      rw [← hfaultIs, hi, Back.slot_back, if_neg (by simp)] at h
      simpa using h
    obtain ⟨told, htoldIs⟩ : ∃ w, w = completeCancels (raiseFault fault out) := ⟨_, rfl⟩
    have ht : t = testReturning (firingAfterLoss f.serial told) := by
      show commandTimeout k.slot o s = _
      rw [commandTimeout, Back.slot_back, ← hfaultIs, ← hT]
      show testReturning (afterLoss k s _) = _
      simp only [afterLoss, hf, hy, htoldIs]
    have htold : Told (raiseFault fault out) told := by
      rw [htoldIs]
      exact (Told.refl _).completeCancels
    have hall : Told out told := ((Told.refl out).raiseFault fault).trans htold
    have hview : engineView out = engineView s := by rw [hT]; simp
    have hengine : out.gate.engine = s.gate.engine := congrArg EngineView.engine hview
    have hraised : (raiseFault fault out).gate.engine = if s.gate.engine = .resetting then .resetting else .faulted := by
      rw [engine_raiseFault, hengine]
    have hdone : told.gate.engine = .faulted ∨ told.gate.engine = .resetting := by
      by_cases hr : s.gate.engine = .resetting
      · exact .inr (htold.resetting (by rw [hraised, if_pos hr])).1
      · exact .inl (htold.faulted (by rw [hraised, if_neg hr])).1
    have hne : told.gate.engine ≠ .running := by rcases hdone with h | h <;> simp [h]
    obtain ⟨hrolls, hcurrent, hshot, hnone⟩ := firingAfterLoss_still (k := k) hne f.serial
    have hreturns : Told (firingAfterLoss f.serial told) t := by
      rw [ht]
      exact (Told.refl _).testReturning
    obtain ⟨aroll, atimer, aqueue, acharge, -⟩ := timedOut_alone hw o
    obtain ⟨-, -, -, -, hdirect⟩ := answeredTimeout_back k o s
    obtain ⟨drolls, dtimer, dqueue, dcharge, -⟩ := hdirect tag hi
    obtain ⟨crolls, ctimer, cqueue, -, cgate, -⟩ := clearOutstanding_kept k.slot s
    have cshot (j : Back) : (clearOutstanding k.slot s).shot? j = s.shot? j := shot?_congr ctimer j
    obtain ⟨oroll, otimer, oqueue, ocharge⟩ := otherTimeout_shot (s := clearOutstanding k.slot s) (k := k) (y := y)
      (by rw [roll_congr crolls, hready]) (by rw [cshot, hy])
    obtain ⟨lqueue, lcharge, lshot⟩ := leaveFiring_parts (s := clearOutstanding k.slot s) (k := k) (y := y)
      (by rw [cshot, hy])
    rw [roll_congr drolls, oroll, backAbsent_eq (by simp) (by simp), ← hT] at aroll
    rw [dtimer, otimer, ← hT] at atimer
    have hkeeps {r r' : Roll} (h : r' = r ∨ r' = reportTaken r) (hst : r.state = .suspect) :
        r'.state = .suspect ∧ r'.cut = r.cut := by
      rcases h with rfl | rfl
      · exact ⟨hst, rfl⟩
      · simp [reportTaken, hst]
    obtain ⟨st1, cut1⟩ := hkeeps (hall.rolls k) (by rw [aroll])
    obtain ⟨st2, cut2⟩ := hkeeps hrolls st1
    obtain ⟨st3, cut3⟩ := hkeeps (hreturns.rolls k) st2
    refine ⟨?_, st3, by rw [cut3, cut2, cut1, aroll], ?_, ?_, ?_, fun hf hr => ?_, fun hother hframes hresume => ?_⟩
    · show execUnitCommandTimeout k.slot s = _
      rw [execUnitCommandTimeout, ho]
    · rw [shot?_congr hreturns.timer]
      exact hshot (by rw [shot?_congr (hall.timer.trans atimer), lshot])
    · rw [aqueue, dqueue, oqueue, lqueue, cqueue]
    · rw [acharge, dcharge, ocharge, lcharge, cutHouse_clear]
    · have hfaulted : (raiseFault fault out).gate.engine = .faulted := by rw [hraised, if_neg hr]
      obtain ⟨htoldFaulted, htoldCurrent, -⟩ := htold.faulted hfaulted
      obtain ⟨hafterFaulted, hafterCurrent⟩ := hcurrent htoldFaulted
      obtain ⟨-, htCurrent, -⟩ := hreturns.faulted hafterFaulted
      rw [htCurrent, hafterCurrent, htoldCurrent, raiseFault_current (by rwa [hengine]) (by rwa [hengine]), hfault]
    · obtain ⟨hends, -⟩ := leaveFiring_timer (s := clearOutstanding k.slot s) (k := k) (f := f) (x := y) (by rw [ctimer, hf])
        (by rw [cshot, hy])
      rw [hends (by rw [cshot, hother]), ctimer] at atimer
      have hfiring : told.timer.firing = none := by rw [hall.timer, atimer]
      have hafter := hnone hfiring
      have htests := (Told.refl told).testVisit hne
      have htimer : t.timer = out.timer := by rw [hreturns.timer, hafter, htests.timer, hall.timer]
      refine ⟨by rw [htimer, atimer], by rw [htimer, atimer], fun r hr => ?_⟩
      have hresuming : out.gate.resume.isSome = s.gate.resume.isSome := congrArg EngineView.resuming hview
      have hcuts := raiseFault_cutsNone fault (s := out) (by simpa [hresume] using hresuming) (by rw [atimer])
        (by rw [atimer, ← hframes])
      have htoldResume : told.gate.resume = (raiseFault fault out).gate.resume := by
        rw [htoldIs, resume_completeCancels]
      have hvisits : (testVisit told).gate.engine = .faulted ∨ (testVisit told).gate.engine = .resetting :=
        hdone.imp (fun h => (htests.faulted h).1) fun h => (htests.resetting h).1
      rw [ht, hafter] at hr
      rcases resume_testReturning hvisits with h | h
      · rcases resume_testVisit hdone with g | g
        · exact hcuts r (by rw [← htoldResume, ← g, ← h, hr])
        · simp [h, g] at hr
      · simp [h] at hr

end Sys2Proof.Machine
end


section
/-!
O50: the polls, and the answers to PRESENCE and STATUS.
-/

namespace Sys2Proof.Machine

variable {s t : State} {u : UnitSlot} {k : Back}

/-! ## Polls sent and unanswered (R169 to R171) -/

theorem updSlot_updSlot (u : UnitSlot) (f g : Slot → Slot) (s : State) :
    updSlot u f (updSlot u g s) = updSlot u (fun x => f (g x)) s := by
  simp only [updSlot, setSlot_same, setSlot_setSlot]

theorem sendPoll_idle (h : (s.slot u).outstanding = none) : sendPoll u s = updSlot u (fun x => { x with
    exchange := (x.exchange + 1) % 256, poll := some (if x.state = .present then .status else .presence) }) s := by
  simp only [sendPoll, h, updSlot, nextExchange]
  rfl

theorem sendPoll_busy (h : (s.slot u).outstanding.isSome = true) : sendPoll u s = s := if_pos h

/-- A slot that leaves a poll unanswered and is not ABSENT becomes ABSENT (R171). -/
theorem silentSlot_lost (ha : (s.slot u).state ≠ .absent) (ho : (s.slot u).outstanding = none) :
    ((silentSlot u s).slot u).state = .absent ∧ ((silentSlot u s).slot u).changed = true ∧
    ((silentSlot u s).slot u).outstanding = none ∧ hasFlag (silentSlot u s).events.flags .unitChange = true := by
  cases hst : (s.slot u).state with
  | absent => exact absurd hst ha
  | disabled =>
    have he : silentSlot u s = changeSlot u .absent (updSlot u (fun x => { x with poll := none }) s) := by
      simp only [silentSlot, hst]
    rw [he, slot_changeSlot, updSlot_same]
    exact ⟨rfl, rfl, ho, hasFlag_raise_self⟩
  | present =>
    have he : silentSlot u s = slotLost u .absent (updSlot u (fun x => { x with poll := none }) s) := by
      simp only [silentSlot, hst]
    obtain ⟨m, p, hslot, -, -⟩ := slot_slotLost u .absent (updSlot u (fun x => { x with poll := none }) s)
    rw [he, hslot]
    exact ⟨rfl, rfl, rfl, hasFlag_slotLost _ _ _⟩

/-! ## PRESENCE answered (R170, R172) -/

theorem raise_setBus (f : EventFlag) (b : Bus) : raise f (s.setBus b) = (raise f s).setBus b := by
  have harbiter (w : State) : arbiter (w.setBus b) = (arbiter w).setBus b := by
    unfold arbiter
    have hbegin : (w.setBus b).link = w.link := rfl
    rw [hbegin]
    split
    · rfl
    · split <;> rfl
  unfold raise
  dsimp only
  by_cases hm : hasFlag s.settings.noticeMask f = true
  · rw [if_pos (by exact hm), if_pos hm]
    unfold fillNotice
    by_cases hn : s.link.notice = true
    · rw [if_pos (by exact hn), if_pos (by exact hn)]
      rfl
    · rw [if_neg (by exact hn), if_neg (by exact hn)]
      exact harbiter ((s.setEvents (s.events.raise f)).setLink { s.link with notice := true })
  · rw [if_neg (by exact hm), if_neg hm]
    rfl

theorem raise_updSlot (f : EventFlag) (g : Slot → Slot) : raise f (updSlot u g s) = updSlot u g (raise f s) := by
  have hbus : (raise f s).bus = s.bus := by simp
  rw [updSlot, updSlot, slot_congr hbus, State.setSlot, State.setSlot, raise_setBus, hbus]

theorem slot_tryPrint (u : UnitSlot) (s : State) : ((tryPrint s).slot u).state = (s.slot u).state ∧
    ((tryPrint s).slot u).changed = (s.slot u).changed := by
  have hissue (cmd : UnitCmd) (i : Issuer) (w : State) : ((issue .printer cmd i w).slot u).state = (w.slot u).state ∧
      ((issue .printer cmd i w).slot u).changed = (w.slot u).changed := by
    by_cases hu : u = .printer
    · subst hu
      rcases issue_slot w .printer cmd i with ⟨-, -, h⟩ | ⟨-, h⟩ <;> rw [h] <;> exact ⟨rfl, rfl⟩
    · rw [issue_other _ _ _ _ _ hu]
      exact ⟨rfl, rfl⟩
  unfold tryPrint
  split
  · exact ⟨rfl, rfl⟩
  · dsimp only
    split
    · exact hissue _ _ _
    · exact ⟨rfl, rfl⟩

/-- A slot as an expected PRESENCE makes it PRESENT. -/
def shown (x : Slot) : Slot := { x with state := .present, changed := true, poll := none }

theorem takePresence_expected {p : Presence} (h : p.kind = u.expects) :
    takePresence u p s = handOnPresent u p (updSlot u shown (raise .unitChange s)) := by
  rw [takePresence, if_pos h, changeSlot, updSlot_updSlot, raise_updSlot]
  rfl

theorem slot_handOnPresent (u : UnitSlot) (p : Presence) (s : State) :
    ((handOnPresent u p s).slot u).state = (s.slot u).state ∧
    ((handOnPresent u p s).slot u).changed = (s.slot u).changed := by
  unfold handOnPresent
  cases u with
  | feeder => cases p <;> simp
  | meter => exact ⟨rfl, rfl⟩
  | backA => rw [slot_congr (t := s) (by simp)]; exact ⟨rfl, rfl⟩
  | backB => rw [slot_congr (t := s) (by simp)]; exact ⟨rfl, rfl⟩
  | printer =>
    cases p with
    | printer can =>
      obtain ⟨h1, h2⟩ := slot_tryPrint .printer (updSlot .printer (fun x => { x with
        printer := some (if can then .ready else .out) }) s)
      rw [updSlot_same] at h1 h2
      exact ⟨h1, h2⟩
    | _ => exact ⟨rfl, rfl⟩

theorem handOnPresent_events (p : Presence) (s : State) : (handOnPresent u p s).events = s.events := by
  unfold handOnPresent
  cases u <;> cases p <;> simp

theorem rolls_handOnPresent (k : Back) (p : Presence) (s : State) : (handOnPresent k.slot p s).rolls =
    (s.setRoll k (if (s.roll k).state = .noBack ∨ (s.roll k).state = .lost then
      { s.roll k with state := .unloaded } else s.roll k)).rolls := by
  cases k <;> rfl

theorem takeStatus_expected {r : StatusReport} (h : r.kind = u.expects) :
    takeStatus u r s = statusEvents u r (updSlot u (fun x => { x with poll := none }) s) := if_pos h

/-- Settles O50. -/
theorem polls : Obligations.Polls := by
  unfold Obligations.Polls
  refine ⟨fun s => rfl, fun u s => ?slot, fun u x p r s => ⟨fun hp hx hfits => ?presence, fun h => ?_,
    fun hp hx hfits => ?status, fun h => ?_⟩⟩
  case slot =>
    intro x t
    refine ⟨fun hp ho => ?_, fun hp ho => ?_, fun hp ho => ⟨fun ha => ?_, fun ha => ?_, fun hpr => ?_⟩⟩
    · show pollSlot u s = s
      rw [pollSlot, if_neg (by simp [show (s.slot u).poll = none from hp]), sendPoll_busy ho]
    · show pollSlot u s = _
      rw [pollSlot, if_neg (by simp [show (s.slot u).poll = none from hp]), sendPoll_idle ho]
      rfl
    · show pollSlot u s = _
      have he : silentSlot u s = updSlot u (fun x => { x with poll := none }) s := by
        simp only [silentSlot, show (s.slot u).state = .absent from ha]
      rw [pollSlot, if_pos hp, he, sendPoll_idle (by rw [updSlot_same]; exact ho), updSlot_updSlot, updSlot]
      simp [x, show (s.slot u).state = .absent from ha]
    · obtain ⟨h1, h2, h3, h4⟩ := silentSlot_lost ha ho
      have ht : t = _ := (congrArg (sendPoll u) (if_pos hp)).trans (sendPoll_idle h3)
      rw [ht, updSlot_same]
      exact ⟨h1, h2, by simp [h1], by simpa using h4⟩
    · show pollSlot u s = _
      rw [pollSlot, if_pos hp]
      simp only [silentSlot, show (s.slot u).state = .present from hpr]
      rfl
  case presence =>
    intro t
    refine ⟨if_pos ⟨hp, hx, hfits⟩, fun hk => ?_, fun hk ha => ?_, fun hk hd => ?_⟩
    · have ht : t = handOnPresent u p (updSlot u shown (raise .unitChange s)) := takePresence_expected hk
      obtain ⟨h1, h2⟩ := slot_handOnPresent u p (updSlot u shown (raise .unitChange s))
      rw [updSlot_same] at h1 h2
      refine ⟨by rw [ht, h1]; rfl, by rw [ht, h2]; rfl, ?_, fun m hm => ?_, fun can hcan => ?_, fun k hu => ?_⟩
      · rw [ht, handOnPresent_events]
        simp
      · subst hm
        obtain rfl : u = .feeder := by cases u <;> simp_all [Presence.kind, UnitSlot.expects]
        show (t.slot .feeder).magazine = _
        rw [ht, handOnPresent, updSlot_same]
        rfl
      · subst hcan
        obtain rfl : u = .printer := by cases u <;> simp_all [Presence.kind, UnitSlot.expects]
        rw [ht, handOnPresent, updSlot_updSlot, ← raise_updSlot]
        rfl
      · subst hu
        rw [ht, rolls_handOnPresent]
        have hrolls : (updSlot k.slot shown (raise .unitChange s)).rolls = s.rolls := by simp
        rw [roll_congr hrolls, State.setRoll, State.setRoll, hrolls]
        rfl
    · have ht : t = changeSlot u .disabled (updSlot u (fun x => { x with poll := none }) s) :=
        (if_neg hk).trans (if_pos ha)
      rw [ht, slot_changeSlot]
      exact ⟨rfl, rfl, hasFlag_raise_self⟩
    · exact (if_neg hk).trans (if_neg (by simp [hd]))
  · exact if_neg fun ⟨h1, h2, _⟩ => h.elim (· h1) (· h2)
  case status =>
    intro t answered
    refine ⟨if_pos ⟨hp, hx, hfits⟩, fun hk => if_neg hk, fun m hr hu => ?_, fun hr hu => ?_, fun d k hr hu => ?_,
      fun hr hu => ?_, fun hr hu => ?_⟩
    · subst hr hu
      show (t.slot .feeder).magazine = _
      have ht : t = updSlot .feeder (fun x => { x with magazine := magazineOf m })
        (updSlot .feeder (fun x => { x with poll := none }) s) := takeStatus_expected rfl
      rw [ht, updSlot_same]
      rfl
    · subst hr hu
      exact takeStatus_expected rfl
    · subst hr hu
      exact takeStatus_expected (by cases k <;> rfl)
    · subst hr hu
      exact takeStatus_expected rfl
    · subst hr hu
      intro v
      have hv : updSlot .printer (fun x => { x with printer := some .ready })
          (updSlot .printer (fun x => { x with poll := none }) s) = v := updSlot_updSlot _ _ _ _
      have hold : ((updSlot .printer (fun x => { x with poll := none }) s).slot .printer).printer =
          (s.slot .printer).printer := by rw [updSlot_same]
      have ht : t = if ((updSlot .printer (fun x => { x with poll := none }) s).slot .printer).printer = some .out then
          tryPrint (updSlot .printer (fun x => { x with printer := some .ready })
            (updSlot .printer (fun x => { x with poll := none }) s))
        else updSlot .printer (fun x => { x with printer := some .ready })
          (updSlot .printer (fun x => { x with poll := none }) s) := takeStatus_expected rfl
      rw [ht, hv, hold]
  · exact if_neg fun ⟨h1, h2, _⟩ => h.elim (· h1) (· h2)

end Sys2Proof.Machine
end


section
/-!
O46: the label queue, the labels of an entry, and the lines of a template run.
-/

namespace Sys2Proof.Machine

variable {s t : State} {k : Back} {p : Nat} {e : MapEntry} {x : LabelRec}

/-! ## Numbers in decimal digits (R113) -/

theorem digitsFuel_small (fuel : Nat) {n : Nat} (h : n < 10) : digitsFuel fuel n = [48 + n] := by
  cases fuel with
  | zero => rw [digitsFuel, Nat.mod_eq_of_lt h]
  | succ fuel => rw [digitsFuel, if_pos h]

theorem digitsFuel_big (fuel : Nat) {n : Nat} (h : 10 ≤ n) :
    digitsFuel (fuel + 1) n = digitsFuel fuel (n / 10) ++ [48 + n % 10] := if_neg (Nat.not_lt.mpr h)

/-- The digits of a number read as the number, and a number that is not 0 has no leading zero. -/
theorem digitsFuel_reads (fuel n : Nat) (h : n < 10 ^ (fuel + 1)) :
    (digitsFuel fuel n).foldl (fun a c => 10 * a + (c - 48)) 0 = n ∧
    (∀ c ∈ digitsFuel fuel n, 48 ≤ c ∧ c ≤ 57) ∧ digitsFuel fuel n ≠ [] ∧
    (n ≠ 0 → (digitsFuel fuel n).head? ≠ some 48) := by
  induction fuel generalizing n with
  | zero =>
    rw [digitsFuel_small 0 (by simpa using h)]
    refine ⟨by simp, by simp; omega, by simp, fun hn => by simpa using hn⟩
  | succ fuel ih =>
    rcases Nat.lt_or_ge n 10 with hn | hn
    · rw [digitsFuel_small _ hn]
      refine ⟨by simp, by simp; omega, by simp, fun hn => by simpa using hn⟩
    · obtain ⟨hreads, hrange, hne, hhead⟩ := ih (n / 10) (by rw [Nat.pow_succ] at h; omega)
      rw [digitsFuel_big _ hn]
      refine ⟨?_, fun c hc => ?_, by simp, fun _ => ?_⟩
      · rw [List.foldl_append, hreads]
        simp only [List.foldl_cons, List.foldl_nil]
        omega
      · rcases List.mem_append.mp hc with hc | hc
        · exact hrange c hc
        · obtain rfl := List.mem_singleton.mp hc
          omega
      · rw [List.head?_append_of_ne_nil _ hne]
        exact hhead (by omega)

/-! ## The lines of a run (R111, R112) -/

/-- A run writes one to three lines of at most 24 characters. -/
def Run.Fits (r : Run) : Prop := 1 ≤ r.lines.length ∧ r.lines.length ≤ 3 ∧ ∀ l ∈ r.lines, l.length ≤ 24

theorem Run.fits_start : Run.start.Fits := ⟨by simp [Run.start], by simp [Run.start], by simp [Run.start]⟩

theorem Run.Fits.put {r : Run} (h : r.Fits) (txt : Text) : (r.put txt).Fits := by
  obtain ⟨h1, h3, hlines⟩ := h
  unfold Run.put
  split
  · exact ⟨h1, h3, hlines⟩
  · refine ⟨by simp, by simp; omega, fun l hl => ?_⟩
    rcases List.mem_append.mp hl with hl | hl
    · exact hlines l (List.mem_of_mem_dropLast hl)
    · obtain rfl := List.mem_singleton.mp hl
      have hlast : (r.lines.getLast?.getD []).length ≤ 24 := by
        cases hg : r.lines.getLast? with
        | none => simp
        | some y => exact hlines y (List.mem_of_getLast? hg)
      rw [List.length_append, List.length_take]
      omega

theorem Run.Fits.newLine {r : Run} (h : r.Fits) : r.newLine.Fits := by
  obtain ⟨h1, h3, hlines⟩ := h
  unfold Run.newLine
  split
  · exact ⟨h1, h3, hlines⟩
  · split
    · refine ⟨by simp, by simp; omega, fun l hl => ?_⟩
      rcases List.mem_append.mp hl with hl | hl
      · exact hlines l hl
      · obtain rfl := List.mem_singleton.mp hl
        simp
    · exact ⟨h1, h3, hlines⟩

theorem Run.Fits.runSteps {x : RunEnv} (fuel : Nat) (steps : List TStep) (literals : List Text) {r q : Run} (h : r.Fits)
    (hq : Machine.runSteps x fuel steps literals r = some q) : q.Fits := by
  induction fuel generalizing steps literals r with
  | zero =>
    obtain rfl := Option.some.inj hq
    exact h
  | succ fuel ih =>
    cases steps with
    | nil =>
      obtain rfl := Option.some.inj hq
      exact h
    | cons st rest =>
      unfold Machine.runSteps at hq
      split at hq
      · obtain rfl := Option.some.inj hq
        exact h
      · exact nomatch hq
      · exact ih _ _ h.newLine hq
      · exact ih _ _ h hq
      · split at hq
        · exact ih _ _ (r := { r with continued := true }) h hq
        · obtain rfl := Option.some.inj hq
          exact h
      · exact ih _ _ (h.put _) hq

theorem Run.put_fits {q : Run} {txt : Text} (hb : q.beyond = false)
    (h : (q.lines.getLast?.getD []).length + txt.length ≤ 24) : (q.put txt).truncated = q.truncated := by
  rw [Run.put, if_neg (by simp [hb])]
  simp only [decide_eq_false (Nat.not_lt.mpr h), Bool.or_false]

/-! ## A label in front of a frame's (R117 to R120) -/

theorem syncDue_iff : s.syncDue = true ↔
    s.settings.syncExponent ≠ 0 ∧ 2 ^ s.settings.syncExponent ≤ s.labels.syncCounter := by
  unfold State.syncDue Settings.syncInterval
  by_cases h : s.settings.syncExponent = 0 <;> simp [h]

theorem preceding_header (h : (s.roll k).headerDone = false) : preceding s k p = some (headerRecord s k) := by
  simp [preceding, h]

theorem preceding_sync (h : (s.roll k).headerDone = true) (hd : s.syncDue = true) :
    preceding s k p = some (syncRecord s k p) := by simp [preceding, h, hd]

theorem preceding_none (h : (s.roll k).headerDone = true) (hd : s.syncDue = false) : preceding s k p = none := by
  simp [preceding, h, hd]

theorem preceding_cases (s : State) (k : Back) (p : Nat) :
    (s.roll k).headerDone = false ∧ preceding s k p = some (headerRecord s k) ∨
    (s.roll k).headerDone = true ∧ (preceding s k p = some (syncRecord s k p) ∨ preceding s k p = none) := by
  cases h : (s.roll k).headerDone with
  | false => exact .inl ⟨rfl, preceding_header h⟩
  | true =>
    cases hd : s.syncDue with
    | false => exact .inr ⟨rfl, .inr (preceding_none h hd)⟩
    | true => exact .inr ⟨rfl, .inl (preceding_sync h hd)⟩

theorem onFilm_iff (x : BackState) : x.onFilm = (x == .leader || x == .ready || x == .suspect || x == .closing) := by
  cases x <;> rfl

/-! ## A frame label enters (R117, R118, R122, R139) -/

/-- The house account charged for a number of labels. -/
def labelsCharged (fee n : Nat) (h : House) : House :=
  { h with charged := min 16777215 (h.charged + n * fee), labels := min 65535 (h.labels + n) }

theorem labelsCharged_one (fee n : Nat) (h : House) :
    labelsCharged fee 1 (labelsCharged fee n h) = labelsCharged fee (n + 1) h := by
  simp only [labelsCharged, House.mk.injEq, Nat.succ_mul, true_and]
  omega

theorem chargeLabel_charge (s : State) : (chargeLabel s).charge =
    { s.charge with house := labelsCharged s.charge.fees.label 1 s.charge.house } := by
  simp only [chargeLabel, labelsCharged, satAdd, Config.maxSum, Config.maxCount, Nat.one_mul]
  rfl

/-- The state once a HEADER or a SYNC, if any, has entered in front of a frame label. -/
def precededBy (k : Back) (first : Option LabelRec) (s : State) : State := first.elim s (fun h => queuePreceding k h s)

theorem precededBy_parts (first : Option LabelRec)
    (h : (s.roll k).headerDone = true ∨ first.map (fun r => r.kind) = some .header) :
    (precededBy k first s).labels = { s.labels with
      queue := s.labels.queue ++ first.toList
      syncCounter := if first.isSome then 0 else s.labels.syncCounter } ∧
    (precededBy k first s).roll k = { s.roll k with headerDone := true } ∧
    (precededBy k first s).roll k.other = s.roll k.other ∧
    (precededBy k first s).charge = (if first.isSome then
      { s.charge with house := labelsCharged s.charge.fees.label 1 s.charge.house } else s.charge) ∧
    (precededBy k first s).queue = s.queue := by
  cases first with
  | none =>
    have hdone : (s.roll k).headerDone = true := h.resolve_right (by simp)
    refine ⟨by simp [precededBy], ?_, rfl, rfl, rfl⟩
    rw [← hdone]
    rfl
  | some r =>
    obtain ⟨w, hw⟩ : ∃ w, w = chargeLabel (s.setLabels { s.labels with queue := s.labels.queue ++ [r], syncCounter := 0 }) :=
      ⟨_, rfl⟩
    have he : precededBy k (some r) s =
        if r.kind = .header then updRoll k (fun r => { r with headerDone := true }) w else w := by rw [hw]; rfl
    have hlabels : w.labels = { s.labels with queue := s.labels.queue ++ [r], syncCounter := 0 } := by rw [hw]; simp
    have hcharge : w.charge = { s.charge with house := labelsCharged s.charge.fees.label 1 s.charge.house } := by
      rw [hw, chargeLabel_charge]
      rfl
    have hroll (j : Back) : w.roll j = s.roll j := roll_congr (by rw [hw]; simp) j
    have hqueue : w.queue = s.queue := by rw [hw]; simp
    rw [he]
    split
    · refine ⟨by simpa using hlabels, by rw [updRoll_same, hroll], by rw [roll_updRoll_other, hroll], by simpa using hcharge,
        by simpa using hqueue⟩
    · next hk =>
      have hdone : (s.roll k).headerDone = true := h.resolve_right (by simpa using hk)
      exact ⟨hlabels, by rw [hroll, ← hdone], hroll _, hcharge, hqueue⟩

theorem queueFrame_parts (k : Back) (p : Nat) (e : MapEntry) (x : LabelRec) (s : State) :
    (queueFrame k p e x s).labels = { s.labels with
      queue := s.labels.queue ++ [x]
      syncCounter := min 64 (s.labels.syncCounter + 1)
      truncated := if x.truncated then min 65535 (s.labels.truncated + 1) else s.labels.truncated
      templateErrors := if x.templateError then min 65535 (s.labels.templateErrors + 1) else s.labels.templateErrors } ∧
    (queueFrame k p e x s).roll k = writeEntry p (fun y => { y with labelled := true }) (s.roll k) ∧
    (queueFrame k p e x s).roll k.other = s.roll k.other ∧
    (queueFrame k p e x s).charge = (if e.state = .spoiled then
      { s.charge with house := labelsCharged s.charge.fees.label 1 s.charge.house } else s.charge) ∧
    (queueFrame k p e x s).queue = { s.queue with orders := s.queue.orders.map (fun o =>
      if e.state = .exposed ∧ x.order = some o.number ∧ o.state ≠ .ending then
        { o with goodLabels := o.goodLabels + 1 } else o) } := by
  obtain ⟨w, hw⟩ : ∃ w, w = updRoll k (writeEntry p (fun y => { y with labelled := true })) (s.setLabels { s.labels with
      queue := s.labels.queue ++ [x]
      syncCounter := satAdd 64 s.labels.syncCounter 1
      truncated := if x.truncated then satAdd Config.maxCount s.labels.truncated 1 else s.labels.truncated
      templateErrors := if x.templateError then satAdd Config.maxCount s.labels.templateErrors 1
        else s.labels.templateErrors }) := ⟨_, rfl⟩
  have he : queueFrame k p e x s = match e.state, x.order with
      | .exposed, some n => updLive n (fun o => { o with goodLabels := o.goodLabels + 1 }) w
      | .spoiled, _ => chargeLabel w
      | _, _ => w := by rw [hw]; rfl
  have hlabels : w.labels = { s.labels with
      queue := s.labels.queue ++ [x]
      syncCounter := min 64 (s.labels.syncCounter + 1)
      truncated := if x.truncated then min 65535 (s.labels.truncated + 1) else s.labels.truncated
      templateErrors := if x.templateError then min 65535 (s.labels.templateErrors + 1)
        else s.labels.templateErrors } := by
    rw [hw]
    simp [satAdd, Config.maxCount]
  have hroll : w.roll k = writeEntry p (fun y => { y with labelled := true }) (s.roll k) := by rw [hw, updRoll_same]; rfl
  have hother : w.roll k.other = s.roll k.other := by rw [hw, roll_updRoll_other]; rfl
  have hcharge : w.charge = s.charge := by rw [hw]; simp
  have hqueue : w.queue = s.queue := by rw [hw]; simp
  have hsame (f : Order → Order) (hf : ∀ o ∈ s.queue.orders, f o = o) : s.queue = { s.queue with
      orders := s.queue.orders.map f } := by
    rw [List.map_congr_left hf, List.map_id']
  rw [he]
  split
  · next n hst ho =>
    refine ⟨hlabels, hroll, hother, by rw [if_neg (by simp [hst])]; exact hcharge, ?_⟩
    rw [updLive, updOrder, State.setQueue_queue, hqueue]
    refine congrArg (fun l => ({ s.queue with orders := l } : Queue)) (List.map_congr_left fun o _ => ?_)
    by_cases hn : o.number = n
    · by_cases hl : o.state = .ending <;> simp [hst, ho, hn, hl, Order.live]
    · simp [ho, hn, Ne.symm hn]
  · next hst =>
    refine ⟨by simpa using hlabels, (roll_congr (by simp) k).trans hroll, (roll_congr (by simp) _).trans hother, ?_, ?_⟩
    · rw [chargeLabel_charge, if_pos hst, hcharge]
    · rw [show (chargeLabel w).queue = s.queue by simpa using hqueue]
      exact hsame _ fun o _ => by simp [hst]
  · next hspoiled hexposed =>
    refine ⟨hlabels, hroll, hother, by rw [if_neg hspoiled]; exact hcharge, ?_⟩
    rw [hqueue]
    exact hsame _ fun o _ => if_neg fun ⟨hst, ho, _⟩ => hexposed _ hst ho

theorem queueLabel_eq (k : Back) (p : Nat) (e : MapEntry) (x : LabelRec) (s : State) : queueLabel k p e x s =
    if (preceding s k p).toList.length + 1 ≤ 64 - s.labels.queue.length then
      queueFrame k p e x (precededBy k (preceding s k p) s)
    else if s.labels.noted.get k = some .skip then updRoll k (writeEntry p (fun y => { y with unlabeled := true })) s
    else s := rfl

/-- A change of one entry of a map leaves the others. -/
theorem entry?_changed {r : Roll} (g : MapEntry → MapEntry) (hp : 1 ≤ p) (q : Nat) :
    (writeEntry p g r).entry? q = (r.entry? q).map (fun y => if q = p then g y else y) := by
  unfold Roll.entry?
  split
  · rfl
  · next hq =>
    rw [writeEntry]
    cases r.film with
    | none => rfl
    | some f =>
      simp only [Option.map_some, Option.bind_some, List.getElem?_modify]
      by_cases hqp : q = p
      · simp [hqp]
      · have hne : ¬p - 1 = q - 1 := by omega
        simp [hne, hqp]

/-- Settles O46. -/
theorem labelQueue : Obligations.LabelQueue := by
  unfold Obligations.LabelQueue
  refine ⟨fun tag s t ht hr => ?discard, fun k p e x s => ?enters, fun k p n c st e s he hi => ?composed, fun s => ?printed,
    fun n hn => ?digits, fun x literals n d => ?texts, fun x n st rest literals r => ?steps, fun q txt first line => ?lines,
    fun x p => rfl, fun x p r hr => ?fits⟩
  case discard =>
    intro kept u
    refine exec_checked rfl ht hr ?_
    have hle : kept.length ≤ t.labels.queue.length := by
      simp only [kept]
      split <;> simp
    have hzero : t.labels.queue.length - kept.length = 0 ↔ t.labels.queue.length = kept.length := by omega
    show (if t.labels.queue.length - kept.length = 0 then u else testVisit u) = _
    simp only [hzero]
  case enters =>
    intro first t
    have ht : t = _ := queueLabel_eq k p e x s
    refine ⟨fun h => ?_, fun h hd => ?_, fun h hd => preceding_none h hd, syncDue_iff, fun h hfirst => ?_, fun hroom => ?_,
      fun hfull => ⟨fun hskip => ?_, fun hhold => ?_⟩⟩
    · exact congrArg (Option.map _) (preceding_header h)
    · exact congrArg (Option.map _) (preceding_sync h hd)
    · intro letter onFilm line
      obtain ⟨-, hp⟩ | ⟨-, hp | hp⟩ := preceding_cases s k p
      · obtain rfl := Option.some.inj (hp.symm.trans hfirst)
        exact ⟨rfl, fun _ => by cases k <;> rfl, nofun⟩
      · obtain rfl := Option.some.inj (hp.symm.trans hfirst)
        refine ⟨rfl, nofun, fun _ => ?_⟩
        have hline (j : Back) : syncLine j (syncShown s j k p) = line j := by
          have hletter : backLetter j = letter j := by cases j <;> rfl
          simp only [syncShown, line]
          by_cases hj : j = k
          · subst hj
            simp [syncLine, rollText, hletter]
          · simp only [if_neg hj, onFilm_iff, onFilm]
            split <;> simp [syncLine, rollText, hletter, List.replicate]
        exact congrArg₂ (fun a b => [[83, 89, 78, 67], a, b]) (hline .a) (hline .b)
      · exact nomatch hp.symm.trans hfirst
    · intro fees
      have hkind : (s.roll k).headerDone = true ∨ first.map (fun r => r.kind) = some .header := by
        cases h : (s.roll k).headerDone with
        | true => exact .inl rfl
        | false => exact .inr (congrArg (Option.map _) (preceding_header h))
      obtain ⟨plabels, proll, pother, pcharge, pqueue⟩ := precededBy_parts first hkind
      obtain ⟨qlabels, qroll, qother, qcharge, qqueue⟩ := queueFrame_parts k p e x (precededBy k first s)
      have ht : t = queueFrame k p e x (precededBy k first s) := ht.trans (if_pos hroom)
      rw [← ht] at qlabels qroll qother qcharge qqueue
      have hcharge : t.charge = if fees = 0 then s.charge else
          { s.charge with house := labelsCharged s.charge.fees.label fees s.charge.house } := by
        rw [qcharge, pcharge]
        simp only [fees]
        cases first with
        | none => by_cases hst : e.state = .spoiled <;> simp [hst]
        | some r => by_cases hst : e.state = .spoiled <;> simp [hst, labelsCharged_one]
      refine ⟨?_, by rw [qroll, proll]; rfl, qother.trans pother, fun hp q => ?_, fun h => by rw [hcharge, if_pos h],
        fun h => by rw [hcharge, if_neg h]; rfl, by rw [qqueue, pqueue]⟩
      · rw [qlabels, plabels]
        cases first <;> simp
      · rw [qroll, proll, entry?_changed _ hp]
        rfl
    · have ht : t = updRoll k (writeEntry p (fun y => { y with unlabeled := true })) s :=
        ht.trans ((if_neg (Nat.not_le.mpr hfull)).trans (if_pos hskip))
      rw [ht]
      refine ⟨rfl, roll_updRoll_other _, by rw [updRoll_same]; rfl, fun hp q => ?_⟩
      rw [updRoll_same, entry?_changed _ hp]
    · exact ht.trans ((if_neg (Nat.not_le.mpr hfull)).trans (if_neg hhold))
  case composed =>
    have horder : (e.item.map (fun i => i.1)).bind s.order? = s.order? n := by rw [hi]; rfl
    refine ⟨fun ho => ?_, fun o ho => ⟨fun m hm hnone => ?_, fun hnone => ?_, fun m tp hm htp => ?_⟩⟩
    · simp only [composeLabel, he, horder, ho]
    · simp only [composeLabel, he, horder, ho, hm, Option.bind_some, hnone]
    · simp only [composeLabel, he, horder, ho, hnone, Option.bind_none]
    · intro run
      refine ⟨fun hrun => ?_, fun r hrun => ?_⟩
      · simp only [composeLabel, he, horder, ho, hm, Option.bind_some, htp, Option.getD_some]
        rw [show runTemplate _ tp = none from hrun]
      · simp only [composeLabel, he, horder, ho, hm, Option.bind_some, htp, Option.getD_some]
        rw [show runTemplate _ tp = some r from hrun]
        rfl
  case printed =>
    intro u ready
    refine ⟨fun h => ?_, fun x rest hq hready => ?_⟩
    · unfold tryPrint
      split
      · rfl
      · next hq => exact if_neg (h.resolve_left (by simp [hq]))
    · simp only [tryPrint, hq]
      exact if_pos hready
  case digits =>
    obtain ⟨hreads, hrange, hne, hhead⟩ := digitsFuel_reads 8 n (by omega)
    exact ⟨hreads, hne, hrange, fun h => hhead (by omega), digitsFuel_small 8⟩
  case texts =>
    intro two diff sign put
    refine ⟨rfl, rfl, rfl, rfl, rfl, by cases h : x.back <;> simp [put, RunEnv.text, rollText, backLetter, h], rfl, ?_,
      fun hd => ?_, fun hd => ?_, rfl, rfl, ?_, ?_, ?_, ?_, ?_, ?_⟩
    · have hdigit : digits (diff.natAbs % 10) = [48 + diff.natAbs % 10] := digitsFuel_small 8 (by omega)
      show some (stopsText diff) = _
      simp only [stopsText, hdigit, sign]
      split
      · simp
      · split <;> simp
    · show some (dateText x.jobDate) = _
      rw [hd]
      rfl
    · show some (dateText x.jobDate) = _
      rw [hd]
      simp [dateText, twoDigits, two]
    all_goals simp [RunEnv.holds]
  case steps =>
    intro go next failed
    refine ⟨?_, ?_, fun h => ?_, fun h => ?_, fun h => ?_, fun c i h => ?_, fun i h => ⟨fun hc => ?_, fun hn => ?_,
      fun p hc hp => ?_⟩, fun txt htxt => ?_⟩
    · rfl
    · rfl
    · subst h; rfl
    · subst h; rfl
    · subst h; rfl
    · subst h; rfl
    · subst h
      obtain ⟨lines, beyond, continued, truncated, templateError⟩ := r
      obtain rfl : continued = true := hc
      rfl
    · subst h
      obtain ⟨lines, beyond, continued, truncated, templateError⟩ := r
      simp only [next, runSteps, hn]
      cases continued <;> rfl
    · subst h
      simp only [next, runSteps, hc, hp, Option.getD_some]
    · have hgo : next = runSteps x n rest literals (r.put ((x.text literals st).getD [])) := by
        cases st with
        | nextLine | skipIf | continueAt | omit_ | end_ => exact nomatch htxt
        | _ => rfl
      rw [hgo, htxt]
      rfl
  case lines =>
    refine ⟨fun hb => ⟨if_pos hb, if_pos hb⟩, fun hb hl => ?_, fun hb hl => ?_, fun hb hl => ?_⟩
    · rw [Run.put, if_neg (by simp [hb])]
      simp [hl]
    · rw [Run.newLine, if_neg (by simp [hb]), if_pos hl]
    · rw [Run.newLine, if_neg (by simp [hb]), if_neg (Nat.not_lt.mpr hl)]
  case fits =>
    obtain ⟨h1, h3, hlines⟩ := Run.fits_start.runSteps 48 p.steps p.literals hr
    exact ⟨h1, h3, hlines, fun q txt => Run.put_fits⟩

end Sys2Proof.Machine
end


section
/-!
O55: the completion of a frame's ADVANCE 1: its entry, its order, the judging of the count, and what follows.
-/

namespace Sys2Proof.Machine

variable {s t : State} {k : Back} {p count m : Nat} {f : FrameRec} {r : AdvanceResult} {o w : Order} {v : Visit}

/-! ## The label of the entry (R121, R139) -/

/-- What the composing of an entry's label leaves of a state: of the entry its two label flags can change, of the rolls the
HEADER flag too, of an order the good labels, and of the house account what labels cost. -/
structure Labelled (k : Back) (p : Nat) (s t : State) : Prop where
  roll : ∃ g done, t.roll k = { writeEntry p g (s.roll k) with headerDone := done } ∧
    ∀ e : MapEntry, g e = { e with labelled := (g e).labelled, unlabeled := (g e).unlabeled }
  other : t.roll k.other = s.roll k.other
  orders : ∃ h : Order → Order, (∀ o, h o = { o with goodLabels := (h o).goodLabels }) ∧
    t.queue.orders = s.queue.orders.map h
  unexposed : (∀ e, (s.roll k).entry? p = some e → e.state ≠ .exposed) → t.queue = s.queue
  house : t.charge.house.spoiled = s.charge.house.spoiled

theorem writeEntry_id (p : Nat) (x : Roll) : writeEntry p id x = x := by
  rcases hx : x.film with _ | film
  · rw [writeEntry, hx, Option.map_none, ← hx]
  · rw [writeEntry, hx, Option.map_some, List.modify_id, ← hx]

theorem Labelled.refl (k : Back) (p : Nat) (s : State) : Labelled k p s s where
  roll := ⟨id, (s.roll k).headerDone, by rw [writeEntry_id], fun _ => rfl⟩
  other := rfl
  orders := ⟨id, fun _ => rfl, (List.map_id _).symm⟩
  unexposed _ := rfl
  house := rfl

theorem labelled_queueLabel {e : MapEntry} (x : LabelRec) (he : (s.roll k).entry? p = some e) :
    Labelled k p s (queueLabel k p e x s) := by
  rw [queueLabel_eq]
  split
  · have hkind : (s.roll k).headerDone = true ∨ (preceding s k p).map (fun r => r.kind) = some .header := by
      cases h : (s.roll k).headerDone with
      | true => exact .inl rfl
      | false => exact .inr (congrArg (Option.map _) (preceding_header h))
    obtain ⟨-, proll, pother, pcharge, pqueue⟩ := precededBy_parts (preceding s k p) hkind
    obtain ⟨-, qroll, qother, qcharge, qqueue⟩ := queueFrame_parts k p e x (precededBy k (preceding s k p) s)
    refine ⟨⟨_, true, by rw [qroll, proll]; rfl, fun _ => rfl⟩, qother.trans pother, ⟨_, fun y => ?_, by rw [qqueue, pqueue]⟩,
      fun h => ?_, ?_⟩
    · split <;> rfl
    · have hne : e.state ≠ .exposed := h e he
      rw [qqueue, pqueue, List.map_congr_left (fun y _ => if_neg fun hy => hne hy.1), List.map_id']
    · have hfirst : (precededBy k (preceding s k p) s).charge.house.spoiled = s.charge.house.spoiled := by
        rw [pcharge]
        split <;> rfl
      rw [← hfirst, qcharge]
      split <;> rfl
  · split
    · refine ⟨⟨fun y => { y with unlabeled := true }, (s.roll k).headerDone, ?_, fun _ => rfl⟩, roll_updRoll_other _,
        ⟨id, fun _ => rfl, (List.map_id _).symm⟩, fun _ => rfl, rfl⟩
      rw [updRoll_same]
      rfl
    · exact .refl k p s

theorem labelled_composeLabel (k : Back) (p : Nat) (s : State) : Labelled k p s (composeLabel k p s) := by
  unfold composeLabel
  split
  · exact .refl k p s
  · next e he =>
    dsimp only
    split
    · exact .refl k p s
    · split
      · exact .refl k p s
      · split
        · exact .refl k p s
        · exact labelled_queueLabel _ he

theorem Labelled.order? (h : Labelled k p s t) (n : Nat) : ∃ g : Order → Order,
    (∀ o, g o = { o with goodLabels := (g o).goodLabels }) ∧ t.order? n = (s.order? n).map g := by
  obtain ⟨g, hg, horders⟩ := h.orders
  refine ⟨g, hg, ?_⟩
  have hnumber (o : Order) : (g o).number = o.number := by rw [hg]
  simp [State.order?, horders, List.find?_map, hnumber]

/-- The frame's entry past its label: what it was, but for the label flags. -/
theorem Labelled.entry? (h : Labelled k p s t) (hp : 1 ≤ p) {e : MapEntry} (he : (s.roll k).entry? p = some e) :
    ∃ a b, (t.roll k).entry? p = some { e with labelled := a, unlabeled := b } := by
  obtain ⟨g, done, hroll, hg⟩ := h.roll
  have hentry : (t.roll k).entry? p = (writeEntry p g (s.roll k)).entry? p := by
    rw [hroll]
    exact entry?_congr rfl p
  refine ⟨(g e).labelled, (g e).unlabeled, ?_⟩
  rw [hentry, entry?_changed g hp, he, Option.map_some, if_pos rfl, ← hg]

/-! ## The count judged (R79, R95) -/

theorem judgeCount_eq (k : Back) (f : FrameRec) (r : AdvanceResult) (count : Nat) (s : State) : judgeCount k f r count s =
    if r = .filmEnd then enterClosing k .filmEnd s
    else if (s.roll k).counter = (s.roll k).frames + 1 ∧ count = (s.roll k).counter then enterClosing k .full s
    else if count ≠ (s.roll k).counter then
      raiseFault (faultRec s .countMismatch (faultUnit k.slot) (some f.item.order) (some k) (some f.position))
        (enterSuspect k s)
    else s := rfl

theorem judgeCount_filmEnd : judgeCount k f .filmEnd count s = enterClosing k .filmEnd s := by
  rw [judgeCount_eq, if_pos rfl]

theorem judgeCount_full (h : (s.roll k).counter = (s.roll k).frames + 1) (hc : count = (s.roll k).counter) :
    judgeCount k f .ok count s = enterClosing k .full s := by
  rw [judgeCount_eq, if_neg (by simp), if_pos ⟨h, hc⟩]

theorem judgeCount_mismatch (hc : count ≠ (s.roll k).counter) : judgeCount k f .ok count s =
    raiseFault (faultRec s .countMismatch (faultUnit k.slot) (some f.item.order) (some k) (some f.position))
      (enterSuspect k s) := by
  rw [judgeCount_eq, if_neg (by simp), if_neg fun h => hc h.2, if_pos hc]

theorem judgeCount_agrees (h : (s.roll k).counter ≠ (s.roll k).frames + 1) (hc : count = (s.roll k).counter) :
    judgeCount k f .ok count s = s := by
  rw [judgeCount_eq, if_neg (by simp), if_neg fun h' => h h'.1, if_neg (not_not.mpr hc)]

theorem judgeCount_cases (k : Back) (f : FrameRec) (r : AdvanceResult) (count : Nat) (s : State) :
    judgeCount k f r count s = s ∨ (∃ c, judgeCount k f r count s = enterClosing k c s) ∨
    ∃ g, judgeCount k f r count s = raiseFault g (enterSuspect k s) := by
  cases r with
  | filmEnd => exact .inr (.inl ⟨_, judgeCount_filmEnd⟩)
  | ok =>
    by_cases hc : count = (s.roll k).counter
    · by_cases h : (s.roll k).counter = (s.roll k).frames + 1
      · exact .inr (.inl ⟨_, judgeCount_full h hc⟩)
      · exact .inl (judgeCount_agrees h hc)
    · exact .inr (.inr ⟨_, judgeCount_mismatch hc⟩)

/-- What the judging of a count leaves of a state. -/
theorem judgeCount_leaves (k : Back) (f : FrameRec) (r : AdvanceResult) (count : Nat) (s : State) :
    let t := judgeCount k f r count s
    t.queue = s.queue ∧ t.charge = s.charge ∧ t.timer = s.timer ∧ t.settings = s.settings ∧ t.tables = s.tables ∧
    t.roll k.other = s.roll k.other ∧
    t.roll k = { s.roll k with
      state := (t.roll k).state, closeCause := (t.roll k).closeCause, passThrough := (t.roll k).passThrough } := by
  intro t
  rcases judgeCount_cases k f r count s with h | ⟨c, h⟩ | ⟨g, h⟩
  · rw [show t = s from h]
    exact ⟨rfl, rfl, rfl, rfl, rfl, rfl, rfl⟩
  · rw [show t = enterClosing k c s from h, roll_enterClosing, roll_enterClosing_other]
    simp
  · rw [show t = raiseFault g (enterSuspect k s) from h, roll_raiseFault, roll_raiseFault, roll_enterSuspect,
      roll_enterSuspect_other]
    simp [enterSuspect_frame]

/-! ## The outcome of a frame (R77, R79) -/

/-- The measured time is within the frame's allowance (R77). -/
abbrev FrameRec.InTime (f : FrameRec) (m : Nat) : Prop := f.expected ≤ m + f.allowed ∧ m ≤ f.expected + f.allowed

theorem frameOutcome_eq (f : FrameRec) (m : Nat) : frameOutcome f m =
    if f.lampSpoiled then .spoiledLamp
    else if f.expected ≤ m + f.allowed ∧ m ≤ f.expected + f.allowed then .exposed else .spoiledTiming := by
  by_cases h : f.InTime m
  · rw [if_pos h, frameOutcome, show timingGood f m = true by simpa [timingGood] using h]
    rfl
  · rw [if_neg h, frameOutcome, show timingGood f m = false by simpa [timingGood] using h]
    rfl

theorem frameOutcome_exposed : frameOutcome f m = .exposed ↔ f.lampSpoiled = false ∧ f.InTime m := by
  rw [frameOutcome_eq]
  cases f.lampSpoiled
  · by_cases h : f.InTime m
    · simpa [h] using h
    · simp [h]
  · simp

theorem frameOutcome_timing : frameOutcome f m = .spoiledTiming ↔ f.lampSpoiled = false ∧ ¬f.InTime m := by
  rw [frameOutcome_eq]
  cases f.lampSpoiled
  · by_cases h : f.InTime m <;> simp [h]
  · simp

/-- The entry of a completed frame, its state and cause by its outcome. -/
theorem completedEntry_eq (f : FrameRec) (m : Nat) : completedEntry f m =
    if frameOutcome f m = .exposed then frameEntry f .exposed none (some m)
    else frameEntry f .spoiled (some (if f.lampSpoiled then .lamp else .timing)) (some m) := by
  rw [completedEntry, frameOutcome_eq]
  cases f.lampSpoiled
  · by_cases h : f.InTime m <;> simp [h]
  · simp

/-! ## The order of a frame (R13, R77, R79) -/

theorem order?_updLive {g : Order → Order} (hg : ∀ o, (g o).number = o.number) {n : Nat} (h : s.order? n = some w)
    (hlive : w.state ≠ .ending) : (updLive n g s).order? n = some (g w) := by
  have hnumber (o : Order) : (if o.live then g o else o).number = o.number := by split <;> simp [hg]
  rw [updLive, order?_updOrder_same hnumber, h, Option.map_some, if_pos (by simpa [Order.live] using hlive)]

theorem timingSpoil_eq (o : Order) (limit : Nat) (i : Nat × Nat) : o.timingSpoil limit i =
    if o.cancelRequested = false ∧ o.reshoots < limit then
      { o with timingSpoils := o.timingSpoils + 1, reshoots := o.reshoots + 1,
               redo := if i ∈ o.redo then o.redo else o.redo ++ [i] }
    else { o with timingSpoils := o.timingSpoils + 1 } := by
  by_cases h : o.cancelRequested = false ∧ o.reshoots < limit
  · rw [Order.timingSpoil, if_pos (by simpa using h), if_pos h, owe_eq]
  · rw [Order.timingSpoil, if_neg (by simpa using h), if_neg h]

theorem applyOutcome_exposed (h : frameOutcome f m = .exposed) : applyOutcome k f m s =
    updLive f.item.order (fun o => o.good k f.rollId f.position) s := by simp only [applyOutcome, h]

/-- A TIMING spoil, but for the end of its order at the reshoot limit. -/
def timingTold (f : FrameRec) (s : State) : State :=
  updLive f.item.order (fun o => o.timingSpoil s.settings.reshootLimit (f.item.copy, f.item.step)) s

theorem applyOutcome_timing (h : frameOutcome f m = .spoiledTiming) : applyOutcome k f m s =
    if (s.live? f.item.order).any (fun o => o.reshootLimit s.settings.reshootLimit) then
      endOrder (.faulted .reshootLimit) f.item.order (timingTold f s)
    else timingTold f s := by
  simp only [applyOutcome, h]
  rfl

theorem order?_timingTold (h : s.order? f.item.order = some w) (hlive : w.state ≠ .ending) :
    (timingTold f s).order? f.item.order =
      some (w.timingSpoil s.settings.reshootLimit (f.item.copy, f.item.step)) :=
  order?_updLive (fun o => by rw [timingSpoil_eq]; split <;> rfl) h hlive

theorem reshootLimit_of_live (h : s.order? f.item.order = some w) (hlive : w.state ≠ .ending) (limit : Nat) :
    (s.live? f.item.order).any (fun o => o.reshootLimit limit) = true ↔ w.cancelRequested = false ∧ limit ≤ w.reshoots := by
  rw [live?_of_live h hlive]
  simp [Order.reshootLimit]

theorem applyOutcome_below (ht : frameOutcome f m = .spoiledTiming) (h : s.order? f.item.order = some w)
    (hlive : w.state ≠ .ending) (hl : ¬(w.cancelRequested = false ∧ s.settings.reshootLimit ≤ w.reshoots)) :
    applyOutcome k f m s = timingTold f s := by
  rw [applyOutcome_timing ht, if_neg (mt (reshootLimit_of_live h hlive _).mp hl)]

theorem applyOutcome_limit (ht : frameOutcome f m = .spoiledTiming) (h : s.order? f.item.order = some w)
    (hlive : w.state ≠ .ending) (hc : w.cancelRequested = false) (hl : s.settings.reshootLimit ≤ w.reshoots) :
    ((applyOutcome k f m s).order? f.item.order).map (fun y => (y.state, y.endKind)) =
      some (.ending, some (.faulted .reshootLimit)) := by
  have htold := order?_timingTold h hlive
  have hstate : (w.timingSpoil s.settings.reshootLimit (f.item.copy, f.item.step)).state ≠ .ending := by
    rw [timingSpoil_eq]
    split <;> exact hlive
  rw [applyOutcome_timing ht, if_pos ((reshootLimit_of_live h hlive _).mpr ⟨hc, hl⟩), endOrder_order? _ htold hstate,
    if_pos rfl]
  rfl

/-- What the telling of an outcome leaves of a state, as long as it ends no order. -/
theorem applyOutcome_leaves (k : Back) (f : FrameRec) (m : Nat) (s : State) :
    (applyOutcome k f m s).events = s.events ∧ (applyOutcome k f m s).charge.house = s.charge.house ∧
    (applyOutcome k f m s).gate.engine = s.gate.engine ∧
    (frameOutcome f m ≠ .spoiledTiming → (applyOutcome k f m s).charge = s.charge) := by
  by_cases ht : frameOutcome f m = .spoiledTiming
  · rw [applyOutcome_timing ht]
    split
    · obtain ⟨hevents, hgate, -, hhouse⟩ :=
        endOrder_leaves (s := timingTold f s) (.faulted .reshootLimit) f.item.order
      exact ⟨hevents, hhouse, by rw [hgate]; rfl, fun h => absurd ht h⟩
    · exact ⟨rfl, rfl, rfl, fun _ => rfl⟩
  · unfold applyOutcome
    split
    · exact ⟨rfl, rfl, rfl, fun _ => rfl⟩
    · next h => exact absurd h ht
    · exact ⟨rfl, rfl, rfl, fun _ => rfl⟩

/-! ## Spans (R13) -/

/-- A span of the back and roll that ends before a position. -/
abbrev Span.Joins (k : Back) (rollId : Text) (p : Nat) (x : Span) : Prop := x.back = k ∧ x.rollId = rollId ∧ x.last + 1 = p

theorem addSpan_extends {rollId : Text} {before after : List Span} {x : Span} (h : o.spans = before ++ x :: after)
    (hbefore : ∀ y ∈ before, ¬y.Joins k rollId p) (hx : x.Joins k rollId p) :
    addSpan k rollId p o = { o with spans := before ++ { x with last := p } :: after } := by
  have hfind : o.spans.findIdx? (fun y => decide (y.Joins k rollId p)) = some before.length := by
    rw [h, List.findIdx?_append, List.findIdx?_eq_none_iff.mpr fun y hy => by simpa using hbefore y hy]
    simp [List.findIdx?_cons, hx]
  have hmodify : o.spans.modify before.length (fun y => { y with last := p }) =
      before ++ { x with last := p } :: after := by
    rw [h, List.modify_eq_take_cons_drop (by simp)]
    simp
  simp only [addSpan]
  rw [show o.spans.findIdx? _ = _ from hfind]
  simp only [hmodify]

theorem addSpan_opens {rollId : Text} (h : ∀ x ∈ o.spans, ¬x.Joins k rollId p) : addSpan k rollId p o =
    if o.spans.length < 8 then { o with spans := o.spans ++ [{ back := k, rollId := rollId, first := p, last := p }] }
    else { o with more := true } := by
  have hfind : o.spans.findIdx? (fun y => decide (y.Joins k rollId p)) = none :=
    List.findIdx?_eq_none_iff.mpr fun y hy => by simpa using h y hy
  simp only [addSpan]
  rw [show o.spans.findIdx? _ = _ from hfind]

/-! ## The completion resolved, up to the label -/

/-- The frame's entry written and the count recorded (R78). -/
def framePut (k : Back) (f : FrameRec) (count m : Nat) (s : State) : State :=
  recordCount k count (writeFrame k f.position (completedEntry f m) (dropFrame k s))

/-- Past the judging of the count, the outcome told to the order (R79). -/
def outcomeTold (k : Back) (f : FrameRec) (r : AdvanceResult) (count m : Nat) (s : State) : State :=
  applyOutcome k f m (judgeCount k f r count (framePut k f count m s))

/-- The completion of a frame resolved but for its label. -/
def frameSettled (k : Back) (f : FrameRec) (r : AdvanceResult) (count m : Nat) (s : State) : State :=
  chargeOutcome k f m (redoAfter k f m s (clearOwed k (outcomeTold k f r count m s)))

theorem framePut_leaves (k : Back) (f : FrameRec) (count m : Nat) (s : State) :
    let t := framePut k f count m s
    t.queue = s.queue ∧ t.charge = s.charge ∧ t.settings = s.settings ∧ t.tables = s.tables ∧ t.gate = s.gate ∧
    t.roll k.other = s.roll k.other ∧ t.roll k = { writeEntry f.position (fun _ => completedEntry f m) (s.roll k) with
      counter := (s.roll k).counter + 1, lastCount := some count } := by
  refine ⟨rfl, rfl, rfl, rfl, rfl, ?_, ?_⟩
  · exact (roll_updRoll_other _).trans (roll_writeFrame_other _ _ _ _)
  · rw [framePut, recordCount, updRoll_same, roll_writeFrame]
    rfl

theorem roll_frameSettled (j : Back) : (frameSettled k f r count m s).roll j =
    (judgeCount k f r count (framePut k f count m s)).roll j :=
  roll_congr (by simp [frameSettled, outcomeTold]) j

theorem queue_frameSettled : (frameSettled k f r count m s).queue = (outcomeTold k f r count m s).queue := by
  simp [frameSettled]

theorem events_frameSettled : (frameSettled k f r count m s).events =
    (judgeCount k f r count (framePut k f count m s)).events := by
  obtain ⟨hevents, -⟩ := applyOutcome_leaves k f m (judgeCount k f r count (framePut k f count m s))
  rw [← hevents]
  simp [frameSettled, outcomeTold]

theorem frames_frameSettled : (frameSettled k f r count m s).timer.frames.get k = none := by
  have htimer : (frameSettled k f r count m s).timer = (framePut k f count m s).timer := by
    obtain ⟨-, -, htimer, -⟩ := judgeCount_leaves k f r count (framePut k f count m s)
    rw [← htimer]
    simp [frameSettled, outcomeTold]
  rw [htimer]
  exact PerBack.get_set_same _ _ _

theorem redoAfter_eq (k : Back) (f : FrameRec) (m : Nat) (s w : State) : redoAfter k f m s w =
    if frameOutcome f m = .spoiledTiming ∧ (s.live? f.item.order).any (fun o =>
      !o.cancelRequested && decide (o.reshoots < s.settings.reshootLimit)) = true then placeRedo k f.item w else w := rfl

theorem engine_judgeCount : (judgeCount k f r count s).gate.engine = .resetting ↔ s.gate.engine = .resetting := by
  rcases judgeCount_cases k f r count s with h | ⟨c, h⟩ | ⟨g, h⟩
  · rw [h]
  · rw [h, engine_enterClosing]
  · have heng : (enterSuspect k s).gate.engine = s.gate.engine := engine_enterSuspect k s
    rw [h]
    by_cases hr : s.gate.engine = .resetting
    · rw [raiseFault_resetting (heng.trans hr), heng]
    · rw [engine_raiseFault, heng, if_neg hr]
      simp [hr]

theorem engine_frameSettled : (frameSettled k f r count m s).gate.engine = .resetting ↔ s.gate.engine = .resetting := by
  have hredo (w : State) : (redoAfter k f m s w).gate.engine = w.gate.engine := by
    rw [redoAfter_eq]
    split <;> rfl
  have heng : (frameSettled k f r count m s).gate.engine = (outcomeTold k f r count m s).gate.engine := by
    have hgate (w : State) : (chargeOutcome k f m w).gate = w.gate := by simp
    rw [frameSettled, hgate, hredo]
    rfl
  obtain ⟨-, -, htold, -⟩ := applyOutcome_leaves k f m (judgeCount k f r count (framePut k f count m s))
  rw [heng, outcomeTold, htold, engine_judgeCount]
  rfl

theorem resolveFrame_eq : resolveFrame k f r count m s =
    if s.gate.engine = .resetting then frameSettled k f r count m s
    else composeLabel k f.position (frameSettled k f r count m s) := by
  have heq : resolveFrame k f r count m s = if (frameSettled k f r count m s).resetting then frameSettled k f r count m s
    else composeLabel k f.position (frameSettled k f r count m s) := rfl
  rw [heq]
  refine if_congr ?_ rfl rfl
  rw [← engine_frameSettled (k := k) (f := f) (r := r) (count := count) (m := m), State.resetting, beq_iff_eq]

theorem resolveFrame_labelled (k : Back) (f : FrameRec) (r : AdvanceResult) (count m : Nat) (s : State) :
    Labelled k f.position (frameSettled k f r count m s) (resolveFrame k f r count m s) := by
  rw [resolveFrame_eq]
  split
  · exact .refl _ _ _
  · exact labelled_composeLabel _ _ _

theorem resolveFrame_leaves (k : Back) (f : FrameRec) (r : AdvanceResult) (count m : Nat) (s : State) :
    (resolveFrame k f r count m s).events = (frameSettled k f r count m s).events ∧
    (resolveFrame k f r count m s).gate = (frameSettled k f r count m s).gate ∧
    (resolveFrame k f r count m s).timer = (frameSettled k f r count m s).timer := by
  rw [resolveFrame_eq]
  split <;> simp

/-! ## The roll and its entry (R78, R79) -/

theorem resolved_counts (k : Back) (f : FrameRec) (r : AdvanceResult) (count m : Nat) (s : State) :
    let x := (resolveFrame k f r count m s).roll k
    let y := (judgeCount k f r count (framePut k f count m s)).roll k
    x.counter = (s.roll k).counter + 1 ∧ x.lastCount = some count ∧ x.state = y.state ∧ x.closeCause = y.closeCause ∧
    (resolveFrame k f r count m s).roll k.other = s.roll k.other := by
  obtain ⟨g, done, hroll, -⟩ := (resolveFrame_labelled k f r count m s).roll
  have hother := (resolveFrame_labelled k f r count m s).other
  obtain ⟨-, -, -, -, -, jother, jroll⟩ := judgeCount_leaves k f r count (framePut k f count m s)
  obtain ⟨-, -, -, -, -, pother, proll⟩ := framePut_leaves k f count m s
  rw [roll_frameSettled] at hroll hother
  intro x y
  rw [show x = _ from hroll]
  refine ⟨?_, ?_, rfl, rfl, hother.trans (jother.trans pother)⟩
  · show ((judgeCount k f r count (framePut k f count m s)).roll k).counter = _
    rw [jroll, proll]
  · show ((judgeCount k f r count (framePut k f count m s)).roll k).lastCount = _
    rw [jroll, proll]

variable {film : Film}

theorem framePut_counts (hfilm : (s.roll k).film = some film) : ((framePut k f count m s).roll k).counter =
    (s.roll k).counter + 1 ∧ ((framePut k f count m s).roll k).frames = film.frames ∧
    ((framePut k f count m s).roll k).state = (s.roll k).state := by
  obtain ⟨-, -, -, -, -, -, hroll⟩ := framePut_leaves k f count m s
  rw [hroll]
  refine ⟨rfl, ?_, rfl⟩
  simp [Roll.frames, writeEntry, hfilm]

theorem entry_frameSettled (hfilm : (s.roll k).film = some film) (hp : 1 ≤ f.position)
    (hlen : f.position ≤ film.map.length) :
    ((frameSettled k f r count m s).roll k).entry? f.position = some (completedEntry f m) := by
  obtain ⟨-, -, -, -, -, -, hroll⟩ := framePut_leaves k f count m s
  obtain ⟨-, -, -, -, -, -, jroll⟩ := judgeCount_leaves k f r count (framePut k f count m s)
  have hold : (s.roll k).entry? f.position = some film.map[f.position - 1] :=
    entry?_eq_some.mpr ⟨by omega, film, hfilm, List.getElem?_eq_getElem (by omega)⟩
  have hentry : ((frameSettled k f r count m s).roll k).entry? f.position =
      (writeEntry f.position (fun _ => completedEntry f m) (s.roll k)).entry? f.position := by
    rw [roll_frameSettled]
    refine entry?_congr ?_ _
    rw [jroll, hroll]
  rw [hentry, entry?_writeEntry hfilm hp hp, if_pos rfl, hold, Option.map_some]

theorem entry_resolved (hfilm : (s.roll k).film = some film) (hp : 1 ≤ f.position)
    (hlen : f.position ≤ film.map.length) : ∃ a b, ((resolveFrame k f r count m s).roll k).entry? f.position =
      some { completedEntry f m with labelled := a, unlabeled := b } :=
  (resolveFrame_labelled k f r count m s).entry? hp (entry_frameSettled hfilm hp hlen)

/-! ## The house account (R139) -/

theorem framePrice_congr (hr : (t.roll k).stock? = (s.roll k).stock?) (ht : t.tables = s.tables) :
    t.framePrice k = s.framePrice k := by
  have hstock (n : Nat) : t.stock? n = s.stock? n := by rw [State.stock?, State.stock?, ht]
  have hfun : t.stock? = s.stock? := funext hstock
  rw [State.framePrice, State.framePrice, hr, hfun]

theorem charge_frameSettled_timing (ht : frameOutcome f m = .spoiledTiming) (hfilm : (s.roll k).film = some film) :
    (frameSettled k f r count m s).charge.house = { s.charge.house with
      charged := min 16777215 (s.charge.house.charged + ((s.stock? film.stock).map (fun e => e.price)).getD 0)
      spoiled := min 65535 (s.charge.house.spoiled + 1) } := by
  obtain ⟨v, hv⟩ : ∃ v, v = redoAfter k f m s (clearOwed k (outcomeTold k f r count m s)) := ⟨_, rfl⟩
  obtain ⟨-, jcharge, -, -, jtables, -, jroll⟩ := judgeCount_leaves k f r count (framePut k f count m s)
  obtain ⟨-, pcharge, -, ptables, -, -, proll⟩ := framePut_leaves k f count m s
  obtain ⟨-, hhouse, -⟩ := applyOutcome_leaves k f m (judgeCount k f r count (framePut k f count m s))
  have hcharge : v.charge.house = s.charge.house := by
    rw [hv, ← pcharge, ← jcharge, ← hhouse]
    simp [outcomeTold]
  have htables : v.tables = s.tables := by
    rw [hv, ← ptables, ← jtables]
    simp [outcomeTold]
  have hroll : v.roll k = (judgeCount k f r count (framePut k f count m s)).roll k :=
    roll_congr (by rw [hv]; simp [outcomeTold]) k
  have hprice : v.framePrice k = ((s.stock? film.stock).map (fun e => e.price)).getD 0 := by
    rw [← framePrice_of_film hfilm]
    refine framePrice_congr ?_ htables
    rw [hroll, jroll, proll]
    simp [Roll.stock?, writeEntry, hfilm]
  have hsettled : frameSettled k f r count m s = chargeFrames .spoiled k 1 v := by
    rw [hv]
    exact if_pos ht
  rw [hsettled, chargeFrames, hprice, Nat.one_mul, State.setCharge_charge, hcharge]
  rfl

theorem charge_frameSettled_other (ht : frameOutcome f m ≠ .spoiledTiming) :
    (frameSettled k f r count m s).charge = s.charge := by
  obtain ⟨-, jcharge, -⟩ := judgeCount_leaves k f r count (framePut k f count m s)
  obtain ⟨-, pcharge, -⟩ := framePut_leaves k f count m s
  obtain ⟨-, -, -, hcharge⟩ := applyOutcome_leaves k f m (judgeCount k f r count (framePut k f count m s))
  have hsettled : frameSettled k f r count m s = redoAfter k f m s (clearOwed k (outcomeTold k f r count m s)) := if_neg ht
  rw [hsettled, ← pcharge, ← jcharge, ← hcharge ht]
  simp [outcomeTold]

/-! ## The order past the completion (R13, R77, R79) -/

section order
variable (h : s.order? f.item.order = some w) (hlive : w.state ≠ .ending)
include h

theorem order?_judged : (judgeCount k f r count (framePut k f count m s)).order? f.item.order = some w := by
  obtain ⟨hqueue, -⟩ := judgeCount_leaves k f r count (framePut k f count m s)
  exact (order?_congr hqueue _).trans h

include hlive

theorem outcomeTold_exposed (ht : frameOutcome f m = .exposed) :
    (outcomeTold k f r count m s).order? f.item.order = some (w.good k f.rollId f.position) := by
  rw [outcomeTold, applyOutcome_exposed ht]
  refine order?_updLive (fun o => ?_) (order?_judged h) hlive
  exact (orderKept_good o k f.rollId f.position).number

theorem outcomeTold_below (ht : frameOutcome f m = .spoiledTiming)
    (hl : ¬(w.cancelRequested = false ∧ s.settings.reshootLimit ≤ w.reshoots)) :
    outcomeTold k f r count m s = timingTold f (judgeCount k f r count (framePut k f count m s)) ∧
    (outcomeTold k f r count m s).order? f.item.order =
      some (w.timingSpoil s.settings.reshootLimit (f.item.copy, f.item.step)) := by
  obtain ⟨-, -, -, hsettings, -⟩ := judgeCount_leaves k f r count (framePut k f count m s)
  have hlimit : (judgeCount k f r count (framePut k f count m s)).settings.reshootLimit = s.settings.reshootLimit := by
    rw [hsettings]
    rfl
  have heq : outcomeTold k f r count m s = timingTold f (judgeCount k f r count (framePut k f count m s)) :=
    applyOutcome_below ht (order?_judged h) hlive (by rwa [hlimit])
  refine ⟨heq, ?_⟩
  rw [heq, order?_timingTold (order?_judged h) hlive, hlimit]

theorem outcomeTold_limit (ht : frameOutcome f m = .spoiledTiming) (hc : w.cancelRequested = false)
    (hl : s.settings.reshootLimit ≤ w.reshoots) :
    ((outcomeTold k f r count m s).order? f.item.order).map (fun y => (y.state, y.endKind)) =
      some (.ending, some (.faulted .reshootLimit)) := by
  obtain ⟨-, -, -, hsettings, -⟩ := judgeCount_leaves k f r count (framePut k f count m s)
  refine applyOutcome_limit ht (order?_judged h) hlive hc ?_
  rw [hsettings]
  exact hl

theorem goodFrames_resolved (ht : frameOutcome f m = .exposed) :
    ((resolveFrame k f r count m s).order? f.item.order).map (fun y => (y.goodFrames, y.spans, y.more)) =
      some ((w.good k f.rollId f.position).goodFrames, (w.good k f.rollId f.position).spans,
        (w.good k f.rollId f.position).more) := by
  obtain ⟨g, hg, horder⟩ := (resolveFrame_labelled k f r count m s).order? f.item.order
  have htold : (frameSettled k f r count m s).order? f.item.order = some (w.good k f.rollId f.position) :=
    (order?_congr queue_frameSettled _).trans (outcomeTold_exposed h hlive ht)
  rw [horder, htold, Option.map_some, Option.map_some, hg]

end order

theorem order?_resolved (hfilm : (s.roll k).film = some film) (hp : 1 ≤ f.position)
    (hlen : f.position ≤ film.map.length) (ht : frameOutcome f m ≠ .exposed) (n : Nat) :
    (resolveFrame k f r count m s).order? n = (outcomeTold k f r count m s).order? n := by
  have hqueue := (resolveFrame_labelled k f r count m s).unexposed fun e he => by
    obtain rfl := Option.some.inj ((entry_frameSettled hfilm hp hlen).symm.trans he)
    rw [completedEntry_eq, if_neg ht]
    simp [frameEntry]
  exact order?_congr (hqueue.trans queue_frameSettled) n

theorem endedAtLimit_eq (f : FrameRec) (s t : State) : endedAtLimit f s t =
    ((s.order? f.item.order).any (fun w => w.state != .ending) && (t.order? f.item.order).all (fun w => w.state == .ending)) := by
  have hlive (s : State) : (s.live? f.item.order).isSome = (s.order? f.item.order).any (fun w => w.state != .ending) := by
    rw [State.live?, Option.isSome_filter]
    rfl
  have hnone : (t.live? f.item.order).isNone = (t.order? f.item.order).all (fun w => w.state == .ending) := by
    rw [← Option.not_isSome, hlive]
    cases t.order? f.item.order <;> simp [bne]
  rw [endedAtLimit, hlive, hnone]

/-! ## The visit's lists and the advance owed (R33, R79) -/

variable {x : VisitState} {lists : PerBack (List WorkItem)} {dropped : PerBack Bool}

theorem workOf_dropList (hv : workOf s = some (x, lists, dropped)) :
    workOf (dropList k s) = some (x, lists.set k [], dropped.set k true) := by
  obtain ⟨v, hvisit, hx⟩ := Option.map_eq_some_iff.mp hv
  obtain ⟨rfl, rfl, rfl⟩ : v.state = x ∧ v.lists = lists ∧ v.dropped = dropped := by simpa using hx
  simp [workOf, dropList, hvisit]

theorem workOf_clearOwed (k : Back) (s : State) : workOf (clearOwed k s) = workOf s := by
  simp only [workOf, clearOwed, updVisit_gate, Option.map_map]
  rfl

theorem workOf_updRoll (g : Roll → Roll) (s : State) : workOf (updRoll k g s) = workOf s := rfl

theorem workOf_placeRedo (item : WorkItem) (hv : workOf s = some (x, lists, dropped)) :
    workOf (placeRedo k item s) = some (x, if dropped.get k then lists else
      lists.set k ({ item with kind := .redo } :: lists.get k), dropped) := by
  obtain ⟨v, hvisit, hx⟩ := Option.map_eq_some_iff.mp hv
  obtain ⟨rfl, rfl, rfl⟩ : v.state = x ∧ v.lists = lists ∧ v.dropped = dropped := by simpa using hx
  cases hd : v.dropped.get k <;> simp [workOf, placeRedo, hvisit, hd]

/-- The lists past the judging of a count: a roll that leaves READY drops the list of its back. -/
theorem workOf_judgeCount (hready : (s.roll k).state = .ready) (hv : workOf s = some (x, lists, dropped)) :
    workOf (judgeCount k f r count s) = some (
      if r = .ok ∧ count = (s.roll k).counter ∧ (s.roll k).counter ≠ (s.roll k).frames + 1 then (x, lists, dropped)
      else (x, lists.set k [], dropped.set k true)) := by
  have hclosing (c : CloseCause) : workOf (enterClosing k c s) = some (x, lists.set k [], dropped.set k true) := by
    rw [enterClosing, workOf_clearOwed]
    exact workOf_dropList hv
  cases r with
  | filmEnd => rw [judgeCount_filmEnd, hclosing, if_neg (by simp)]
  | ok =>
    by_cases hc : count = (s.roll k).counter
    · by_cases hf : (s.roll k).counter = (s.roll k).frames + 1
      · rw [judgeCount_full hf hc, hclosing, if_neg fun h => h.2.2 hf]
      · rw [judgeCount_agrees hf hc, if_pos ⟨rfl, hc, hf⟩, hv]
    · rw [judgeCount_mismatch hc, if_neg fun h => hc h.2.1, workOf_raiseFault, enterSuspect]
      simp only [hready, if_true]
      exact workOf_dropList hv

theorem owed_frameSettled (hv : (frameSettled k f r count m s).gate.visit = some v) : v.owed.get k = false := by
  have hgate (w : State) : (chargeOutcome k f m w).gate = w.gate := by simp
  have hcleared (w : State) (z : Visit) (hz : (clearOwed k w).gate.visit = some z) : z.owed.get k = false := by
    obtain ⟨y, -, rfl⟩ : ∃ y, w.gate.visit = some y ∧ { y with owed := y.owed.set k false } = z := by
      simpa [clearOwed] using hz
    simp
  rw [frameSettled, hgate, redoAfter_eq] at hv
  split at hv
  · rw [placeRedo, updVisit_gate] at hv
    obtain ⟨y, hy, rfl⟩ := Option.map_eq_some_iff.mp hv
    have howed := hcleared _ y hy
    split <;> exact howed
  · exact hcleared _ v hv

/-- The lists past a TIMING spoil below the reshoot limit: a REDO item heads the back's list, unless the roll left READY. -/
theorem lists_resolved (ht : frameOutcome f m = .spoiledTiming) (h : s.order? f.item.order = some w)
    (hlive : w.state ≠ .ending) (hc : w.cancelRequested = false) (hl : w.reshoots < s.settings.reshootLimit)
    {film : Film} (hfilm : (s.roll k).film = some film) (hv : s.gate.visit = some v) (hready : (s.roll k).state = .ready)
    (hd : v.dropped.get k = false) : ∃ z, (resolveFrame k f r count m s).gate.visit = some z ∧
      z.lists.get k.other = v.lists.get k.other ∧
      z.lists.get k = if r = .ok ∧ count = (s.roll k).counter + 1 ∧ (s.roll k).counter + 1 ≠ film.frames + 1
        then { f.item with kind := .redo } :: v.lists.get k else [] := by
  obtain ⟨hcounter, hframes, hstate⟩ := framePut_counts (count := count) (m := m) (f := f) hfilm
  obtain ⟨htold, -⟩ := outcomeTold_below (k := k) (r := r) (count := count) h hlive ht fun hlim =>
    absurd hlim.2 (Nat.not_le.mpr hl)
  have hput : workOf (framePut k f count m s) = some (v.state, v.lists, v.dropped) := by
    rw [workOf, show (framePut k f count m s).gate.visit = some v from hv]
    rfl
  have hjudged := workOf_judgeCount (f := f) (r := r) (count := count) (hstate.trans hready) hput
  rw [hcounter, hframes] at hjudged
  have hsettled : frameSettled k f r count m s = chargeFrames .spoiled k 1 (placeRedo k f.item
      (clearOwed k (outcomeTold k f r count m s))) := by
    have hearns : (s.live? f.item.order).any (fun o =>
        !o.cancelRequested && decide (o.reshoots < s.settings.reshootLimit)) = true := by
      rw [live?_of_live h hlive]
      simp [hc, hl]
    rw [frameSettled, chargeOutcome, if_pos ht, redoAfter_eq, if_pos ⟨ht, hearns⟩]
  have hcleared : workOf (clearOwed k (outcomeTold k f r count m s)) =
      workOf (judgeCount k f r count (framePut k f count m s)) := by
    rw [workOf_clearOwed, htold]
    rfl
  have hwork : workOf (resolveFrame k f r count m s) =
      workOf (placeRedo k f.item (clearOwed k (outcomeTold k f r count m s))) := by
    obtain ⟨-, hgate, -⟩ := resolveFrame_leaves k f r count m s
    rw [workOf, hgate, hsettled]
    rfl
  split at hjudged
  · next hagrees =>
    rw [workOf_placeRedo f.item (hcleared.trans hjudged)] at hwork
    obtain ⟨z, hz, hx⟩ := Option.map_eq_some_iff.mp hwork
    have hlists : z.lists = v.lists.set k ({ f.item with kind := .redo } :: v.lists.get k) := by
      simpa [hd] using congrArg (fun y => y.2.1) hx
    exact ⟨z, hz, by simp [hlists, Back.other_ne], by rw [hlists, if_pos hagrees, PerBack.get_set_same]⟩
  · next hleft =>
    rw [workOf_placeRedo f.item (hcleared.trans hjudged)] at hwork
    obtain ⟨z, hz, hx⟩ := Option.map_eq_some_iff.mp hwork
    have hlists : z.lists = v.lists.set k [] := by simpa using congrArg (fun y => y.2.1) hx
    exact ⟨z, hz, by simp [hlists, Back.other_ne], by rw [hlists, if_neg hleft, PerBack.get_set_same]⟩

/-! ## The STEP hold and the resume record (R152, R154) -/

theorem stepHold_holds {n : Nat} (hr : s.gate.engine = .running) (hs : s.gate.stepMode = true)
    (hv : s.gate.visit = some v) (hheld : v.held = false) (hc : firingComplete s n = true) :
    stepHold n s = (s.setGate { s.gate with
      engine := .stopping, stopKind := some .hold, visit := some { v with held := true }
      resume := s.gate.resume.or (some { cause := .step, cutFiring := cutShots s }) }).setLabels
        { s.labels with labelWait := false } := by
  have hvisit : s.gate.visit.any (fun v => !v.held) = true := by rw [hv]; simpa using hheld
  rw [stepHold, if_pos ⟨hr, hs, hvisit, hc⟩, holdVisit_some (v := v) (by simpa using hv)]
  cases hresume : s.gate.resume with
  | none =>
    rw [heldResume_none (by simpa using hresume)]
    rfl
  | some x =>
    rw [heldResume_some (r := x) (by simpa using hresume)]
    rfl

/-- Settles O55. -/
theorem advanceCompletion : Obligations.AdvanceCompletion := by
  refine ⟨fun n s => ?step, fun n k x f m s => ?outcome, fun k r x count m o s ho hx hcmd hissuer h1 h2 hm => ?done⟩
  case step =>
    intro complete holds
    have hcomplete (i : Nat) : complete i = firingComplete s i := (firingComplete_eq i).symm
    constructor
    · refine fun h => if_neg fun ⟨hr, hs, hany, hc⟩ => ?_
      rcases hvisit : s.gate.visit with _ | v
      · simp [hvisit] at hany
      · exact h ⟨hr, hs, ⟨v, hvisit, by simpa [hvisit] using hany⟩, (hcomplete n).trans hc⟩
    · rintro ⟨hr, hs, ⟨v, hv, hheld⟩, hc⟩
      rw [stepHold_holds hr hs hv hheld ((hcomplete n).symm.trans hc), cutShots_eq, hv]
      simp only [Option.map_some, ← firingComplete_eq, hcomplete]
  case outcome =>
    intro learns t
    have hlearns : CutShot.resolved n k x = learns := by
      funext c
      simp only [CutShot.resolved, learns, and_comm]
    refine ⟨rfl, ?_, ?_, PerBack.get_set_other _ _ _ _ (Back.other_ne k), frameOutcome_eq f m⟩
    · rw [← hlearns]
      rfl
    · rw [← hlearns]
      exact PerBack.get_set_same _ _ _
  case done =>
    intro t
    have haccepts : (isFor .advance .firing o && fitsCount count && fitsThree m) = true := by
      rw [Bool.and_eq_true, Bool.and_eq_true, isFor_iff, fitsCount_iff]
      exact ⟨⟨⟨by rw [hcmd]; rfl, hissuer⟩, h1, h2⟩, by simpa [fitsThree] using hm⟩
    refine ⟨completion_matched ho hx haccepts, fun hnone => ?_, fun f film hf hfilm hp hlen => ?_⟩
    · have hframes : t.timer.frames.get k = none := hnone
      simp only [advanceDone, hframes]
      rfl
    intro u expected limited told
    have htfilm : (t.roll k).film = some film := hfilm
    have hframes : t.timer.frames.get k = some f := hf
    have hlimited : endedAtLimit f t u = limited := endedAtLimit_eq f t u
    have hnot : ¬(frameOutcome f m = .exposed ∧ frameOutcome f m = .spoiledTiming) := fun ⟨h, h'⟩ => by simp [h] at h'
    have hspoiled (hl : f.lampSpoiled = false) (htime : ¬f.InTime m) : frameOutcome f m = .spoiledTiming :=
      frameOutcome_timing.mpr ⟨hl, htime⟩
    have hresolved (ht : frameOutcome f m = .spoiledTiming) : u.order? f.item.order =
        (outcomeTold k f r count m t).order? f.item.order :=
      order?_resolved htfilm hp hlen (fun h => hnot ⟨h, ht⟩) _
    obtain ⟨hcounter, hlast, hstate, hcause, hother⟩ := resolved_counts k f r count m t
    obtain ⟨pcounter, pframes, pstate⟩ := framePut_counts (count := count) (m := m) (f := f) htfilm
    obtain ⟨hevents, hgate, htimer⟩ := resolveFrame_leaves k f r count m t
    have hlive (w : Order) (ho : s.order? f.item.order = some w) (hne : w.state ≠ .ending) :
        limited = (u.order? f.item.order).all (fun w => w.state == .ending) := by
      simp [limited, ho, hne]
    have hbelow {w : Order} (hl : f.lampSpoiled = false) (htime : ¬f.InTime m) (ho : s.order? f.item.order = some w)
        (hne : w.state ≠ .ending) (hc : w.cancelRequested = false) (hlim : w.reshoots < s.settings.reshootLimit) :
        u.order? f.item.order = some { w with
          timingSpoils := w.timingSpoils + 1, reshoots := w.reshoots + 1
          redo := if (f.item.copy, f.item.step) ∈ w.redo then w.redo else w.redo ++ [(f.item.copy, f.item.step)] } := by
      obtain ⟨-, htold⟩ := outcomeTold_below (k := k) (r := r) (count := count) (s := t) ho hne (hspoiled hl htime)
        fun h => absurd h.2 (Nat.not_le.mpr hlim)
      rw [hresolved (hspoiled hl htime), htold, timingSpoil_eq, if_pos ⟨hc, hlim⟩]
    refine ⟨?_, fun w hl htime ho hne hc => ⟨fun hlim => ?_, fun hlim => ⟨?_, ?_, fun v hv hready hd => ?_⟩⟩,
      fun w hl htime ho hne hc => ?_, ?charge, ?entry, hcounter, hlast, ?_, fun v hv => ?_, hother, ?_, ?_, ?_, ?_⟩
    · have htold : tellLimit f t u = told := by
        rw [tellLimit, hlimited]
        rfl
      rw [← htold]
      simp only [advanceDone, hframes]
      rfl
    · have hended := outcomeTold_limit (k := k) (r := r) (count := count) (s := t) ho hne (hspoiled hl htime) hc hlim
      rw [← hresolved (hspoiled hl htime)] at hended
      rw [hlive w ho hne]
      rcases hu : u.order? f.item.order with _ | y
      · simp [hu] at hended
      · obtain ⟨hst, hkind⟩ : y.state = .ending ∧ y.endKind = some (.faulted .reshootLimit) := by simpa [hu] using hended
        simp [hst, hkind]
    · rw [hlive w ho hne, hbelow hl htime ho hne hc hlim]
      simpa using hne
    · rw [hbelow hl htime ho hne hc hlim]
      rfl
    · exact lists_resolved (s := t) (hspoiled hl htime) ho hne hc hlim htfilm hv hready hd
    · obtain ⟨-, htold⟩ := outcomeTold_below (k := k) (r := r) (count := count) (s := t) ho hne (hspoiled hl htime)
        (by simp [hc])
      rw [timingSpoil_eq, if_neg (by simp [hc]), ← hresolved (hspoiled hl htime)] at htold
      refine ⟨?_, htold⟩
      rw [hlive w ho hne, htold]
      simpa using hne
    case charge =>
      exact ⟨frameSettled k f r count m t, resolveFrame_eq,
        fun ⟨hl, htime⟩ => charge_frameSettled_timing (hspoiled hl htime) htfilm,
        fun hn => charge_frameSettled_other fun h => hn (frameOutcome_timing.mp h)⟩
    case entry =>
      obtain ⟨a, b, he⟩ := entry_resolved (r := r) (count := count) (m := m) htfilm hp hlen
      have hhouse : u.charge.house.spoiled = _ := (resolveFrame_labelled k f r count m t).house
      by_cases hx : frameOutcome f m = .exposed
      · rw [completedEntry_eq, if_pos hx] at he
        have hn : frameOutcome f m ≠ .spoiledTiming := fun h => hnot ⟨hx, h⟩
        refine ⟨_, he, rfl, rfl, rfl, rfl, ?_, ?_, ?_, fun w _ ho hne => ?_, ?_⟩
        · simp [frameEntry]
        · simpa [frameEntry] using frameOutcome_exposed.mp hx
        · simp [frameEntry]
        · have hcounted := goodFrames_resolved (k := k) (r := r) (count := count) (s := t) ho hne hx
          intro joins counted
          refine ⟨fun before y after hspans hbefore hy => hcounted.trans ?_, fun hno hlt => hcounted.trans ?_,
            fun hno hge => hcounted.trans ?_⟩
          · rw [Order.good, addSpan_extends (o := { w with goodFrames := w.goodFrames + 1 }) hspans hbefore hy]
          · rw [Order.good, addSpan_opens (o := { w with goodFrames := w.goodFrames + 1 }) hno, if_pos hlt]
          · rw [Order.good, addSpan_opens (o := { w with goodFrames := w.goodFrames + 1 }) hno, if_neg (Nat.not_lt.mpr hge)]
        · rw [hhouse, charge_frameSettled_other hn]
          rfl
      · rw [completedEntry_eq, if_neg hx] at he
        refine ⟨_, he, rfl, rfl, rfl, rfl, ?_, ?_, ?_, ?_, ?_⟩
        · simp [frameEntry]
        · simpa [frameEntry] using mt frameOutcome_exposed.mpr hx
        · simp [frameEntry]
        · simp [frameEntry]
        · rw [hhouse]
          cases hl : f.lampSpoiled with
          | true =>
            have hn : frameOutcome f m ≠ .spoiledTiming := fun h =>
              absurd (frameOutcome_timing.mp h).1 (by simp [hl])
            rw [charge_frameSettled_other hn]
            rfl
          | false =>
            have htime : ¬f.InTime m := fun h => hx (frameOutcome_exposed.mpr ⟨hl, h⟩)
            rw [charge_frameSettled_timing (hspoiled hl htime) htfilm]
            rfl
    · rw [htimer]
      exact frames_frameSettled
    · exact owed_frameSettled (hgate ▸ hv)
    · intro hr
      subst hr
      rw [judgeCount_filmEnd, roll_enterClosing] at hstate hcause
      exact ⟨hstate, hcause⟩
    · intro hr hcount hfull
      subst hr
      rw [judgeCount_full (by rw [pcounter, pframes]; exact hfull) (by rw [pcounter]; exact hcount),
        roll_enterClosing] at hstate hcause
      exact ⟨hstate, hcause⟩
    · intro hr hcount hfull
      subst hr
      rw [judgeCount_agrees (by rw [pcounter, pframes]; exact hfull) (by rw [pcounter]; exact hcount)] at hstate
      exact hstate.trans pstate
    · intro hr hcount
      subst hr
      have hjudged := judgeCount_mismatch (f := f) (s := framePut k f count m t) (count := count)
        (by rw [pcounter]; exact hcount)
      rw [hjudged, roll_raiseFault, roll_enterSuspect] at hstate
      refine ⟨hstate, fun hf hr => ?_⟩
      rw [hevents, events_frameSettled, hjudged]
      have hcurrent (g : FaultRec) : (raiseFault g (enterSuspect k (framePut k f count m t))).events.current = some g :=
        raiseFault_current (by rw [engine_enterSuspect]; exact hr) (by rw [engine_enterSuspect]; exact hf)
      exact ⟨_, hcurrent _, rfl, rfl, rfl, rfl⟩

end Sys2Proof.Machine
end
